-- ==== Sys2Proof/Word.lean ====
section
/-! DEFINITION. The word types of the FX9640: bytes, and the words that software reads and writes whole. -/

namespace Sys2Proof

/-- One byte of a flash, a buffer, a descriptor or a message. -/
abbrev Byte := BitVec 8

/-- A 32-bit word (an OTP word, a tag, an address on the flash bus). -/
abbrev Word := BitVec 32

/-- A 64-bit register word (R51: header registers are 64 bits wide). -/
abbrev DWord := BitVec 64

/-- A string of bytes, first byte first (R16). -/
abbrev Bytes := List Byte

end Sys2Proof
end

