-- ==== Sys2Proof/Config.lean ====
section
/-! DEFINITION. What an implementation fixes and the manual does not give, and the functions of cited standards.
Every constant here is opaque: it has no body that Lean can unfold, so a claim about the model holds whatever it is. -/

namespace Sys2Proof.Config

/-- The free values of the device: random bytes of R221, R238 and every value the manual leaves open. The k-th value
drawn is `free k`; `State.free` counts the draws (log entry 3). -/
opaque free : Nat → BitVec 64

/-- START_FRAMES of the cell whose header lies at the offset (Table 02-4, "per cell"; log entry 3). -/
opaque startFrames : Nat → BitVec 16

/-- Slice cost in cycles of the Pilot task that carries out an opcode of Table 08-8 (R37 gives no figure for it). -/
opaque sliceCost : Nat → Nat

/-- Total cost in cycles of the Pilot task that carries out an opcode of Table 08-8 (R40 gives no figure for it). -/
opaque totalCost : Nat → Nat

/-- Total cost in cycles of the firmware task in the start sequence of the cell whose header lies at the offset (R469 gives its slice
cost alone). -/
opaque startTotal : Nat → Nat

/-- Slice cost of a BIST run is given by R38; the MISR signature in ROM is not (R405). -/
opaque misrSignature : Nat → BitVec 64

/-- The largest number of pump-fail and pulse corners is physical; the IDCODE of the TAP is not given (R370). -/
opaque idcode : BitVec 32

/-- The generation of PCIe at which the link trains with its partner, 1 to 5 (R254): a free value, log entry 99. -/
opaque linkGen : BitVec 3

/-- The initial chaining value of SHA-256, SHA-384 or SHA-512, by ALG of Table 07-3 (FIPS 180-4), its words most significant byte first. -/
opaque shaInit : Nat → Bytes

/-- The SHA-2 compression function over whole blocks: ALG, chaining value, blocks. -/
opaque shaBlocks : Nat → Bytes → Bytes → Bytes

/-- The SHA-3 sponge over whole blocks (FIPS 202): ALG, the 200-byte state, blocks. -/
opaque keccakBlocks : Nat → Bytes → Bytes → Bytes

/-- Output of the SHA-3 sponge: ALG, state, bytes wanted. -/
opaque keccakOut : Nat → Bytes → Nat → Bytes

/-- ML-DSA-87 verify (FIPS 204): public key, context string, message, signature. -/
opaque mldsa87Verify : Bytes → Bytes → Bytes → Bytes → Bool

/-- ML-DSA-65 verify (FIPS 204): public key, context string, message, signature. -/
opaque mldsa65Verify : Bytes → Bytes → Bytes → Bytes → Bool

/-- ECDSA P-384 verify over SHA-384 (FIPS 186-5): public key, message, signature. -/
opaque ecdsaVerify : Bytes → Bytes → Bytes → Bool

/-- LMS and HSS verify on the signature engine (SP 800-208): levels, public key, message, signature. -/
opaque lmsVerify : Nat → Bytes → Bytes → Bytes → Bool

/-- HSS verify of a firmware image against the Nujor key hash in ROM (R315): signed bytes, signature. -/
opaque nujorVerify : Bytes → Bytes → Bool

/-- A resident loader copy verifies against the Nujor key hash in ROM (R307). -/
opaque loaderVerify : Bytes → Bool

/-- SHA-384 of the Debug Authority keys equals the hash in ROM (Table 11-7, step 4). -/
opaque authorityKeys : Bytes → Bool

/-- Sign by ALG of R270 with key material, context string and message; the last argument is the free draw used. -/
opaque sign : Nat → Bytes → Bytes → Bytes → Nat → Bytes

/-- Attempts a signing takes (R242); the last argument is the free draw used. -/
opaque signAttempts : Nat → Bytes → Bytes → Nat → Nat

/-- The public key of key material by TYPE (R235). -/
opaque publicKey : Nat → Bytes → Bytes

/-- AES-256-GCM encryption (SP 800-38D): key, IV, AAD, text; the answer is ciphertext followed by the tag. -/
opaque gcmEnc : Bytes → Bytes → Bytes → Bytes → Bytes

/-- AES-256-GCM decryption: key, IV, AAD, ciphertext, tag; no plaintext on a tag mismatch. -/
opaque gcmDec : Bytes → Bytes → Bytes → Bytes → Bytes → Option Bytes

/-- AES-KW wrap (SP 800-38F): key, plain. -/
opaque kwWrap : Bytes → Bytes → Bytes

/-- AES-KW unwrap: key, wrapped; nothing when the integrity check fails. -/
opaque kwUnwrap : Bytes → Bytes → Option Bytes

/-- The ECDH P-384 shared secret of a private scalar and a public key (R418). -/
opaque ecdh : Bytes → Bytes → Bytes

/-- The digests of the boot ROM (Table 09-1, index 0x01), fixed per stepping. -/
opaque romDigest : BitVec 384

/-- The SFDP image the firmware lays out from the flash's own SFDP bytes and the policy records (Table 03-3), before the fields of the Basic
Flash Parameter Table are placed in it: the flash's SFDP bytes, and which tables and entries the records ask for. -/
opaque sfdpImage : Bytes → List Nat → Bytes

/-- The device key that authenticates the firmware's own records in HOME and VAULT (R193, R318, R322, R419). -/
opaque deviceKey : Bytes

/-- Root hash and subject serial of a certificate chain in the form of DSP0274 (R292, R418): none when malformed. -/
opaque chainSerial : Bytes → Option Bytes

/-- The SPDM transcript that a signed response covers, by the draw made for it: DSP0274 gives its content (R299, log entry 19). -/
opaque transcript : Nat → Bytes

/-- Public key of the device certificate of a chain (R418). -/
opaque chainKey : Bytes → Bytes

/-- The version that a microcode image bears (R243 shows it in SE.UCODE and gives no place for it). -/
opaque ucodeVersion : Bytes → BitVec 32

/-- Format version of the settings of a firmware version (R322). -/
opaque settingsFormat : Nat → BitVec 16

/-- Label of the derivation of identity key i (R292). -/
opaque identityLabel : Nat → Bytes

/-- Payload of a relay CONTROL frame: kind of message, position of the sender or addressee, argument (R327 gives no layout). -/
opaque control : Nat → Nat → Nat → Bytes

/-- Result of a command that a Pilot reset interrupts and that no chapter resumes, by the draw made for it: a choice among
the status codes (log entry 20). -/
opaque interrupted : Nat → BitVec 6

/-- Bytes of the VAULT flash that the integrator fits (R31: at least 16 MiB). -/
opaque vaultSize : Nat

/-- Body of a checkpoint record in the firmware's own BODY_FORMAT, from the items of Table 13-5 (R420 leaves its layout open). -/
opaque vaultBody : List Nat → Bytes

/-- BODY_FORMAT that the running firmware writes (R420). -/
opaque vaultFormat : BitVec 16

/-- Whether a quotient is rounded up, by remainder and divisor: the average of MON.TJ and its value in whole degrees (R443 and R451
do not say). -/
opaque roundsUp : Nat → Nat → Bool

end Sys2Proof.Config
end

