-- ==== Sys2Proof/Machine/Directory.lean ====
section
/-! DEFINITION. The cells of the FX9640 and their directory (02_frames_cells_map.md R66, Table 02-6). -/

namespace Sys2Proof.Machine

/-- The cells of Table 02-6, in the order of the table. -/
inductive Cell where
  | group | device | fs | guard | crypto | host | keeper | pilot
  | cl (k : Fin 6) | pp (n : Fin 48) | up (n : Fin 48) | upPhy (n : Fin 48) (c : Fin 2) | dn (n : Fin 48) | dnPhy (n : Fin 48)
  | fa (n : Fin 48) | fb (n : Fin 48)
  | sp | spBank (b : Fin 48) | spNode (b : Fin 8)
  | digest | lane (j : Fin 20) | ks | se | aes | rng
  | pcie | ring | mctp | i3c (k : Fin 2) | relay (r : Fin 2)
  | otp | lc | dbg | wdt | baro | cnt | bist | mon
  deriving DecidableEq, Repr

namespace Cell

/-- Header offset in PF0 BAR0 (R66). -/
def offset : Cell → Nat
  | group => 0x8800 | device => 0x0 | fs => 0x10000 | guard => 0x8000 | crypto => 0x8040 | host => 0x8080
  | keeper => 0x80C0 | pilot => 0x8100
  | cl k => 0x8400 + 0x40 * k | pp n => 0x1000000 + 0x10000 * n | up n => 0x1001000 + 0x10000 * n
  | upPhy n c => 0x1001400 + 0x10000 * n + 0x400 * c | dn n => 0x1002000 + 0x10000 * n
  | dnPhy n => 0x1002400 + 0x10000 * n | fa n => 0x1003000 + 0x10000 * n | fb n => 0x1003800 + 0x10000 * n
  | sp => 0x100000 | spBank b => 0x101000 + 0x40 * b | spNode b => 0x101C00 + 0x40 * b
  | digest => 0x40000 | lane j => 0x40400 + 0x400 * j | ks => 0x48000 | se => 0x4C000 | aes => 0x4E000 | rng => 0x4F000
  | pcie => 0x80000 | ring => 0x84000 | mctp => 0x88000 | i3c k => 0x8C000 + 0x400 * k | relay r => 0x8E000 + 0x400 * r
  | otp => 0x20000 | lc => 0x21000 | dbg => 0x22000 | wdt => 0x23000 | baro => 0x24000 | cnt => 0x25000
  | bist => 0x26000 | mon => 0x27000

/-- KIND code (R66). -/
def kind : Cell → Nat
  | group => 0x70 | device => 0x60 | fs => 0x31 | guard => 0x50 | crypto => 0x51 | host => 0x52 | keeper => 0x53
  | pilot => 0x54 | cl _ => 0x40 | pp _ => 0x30 | up _ => 0x20 | upPhy _ _ => 0x10 | dn _ => 0x21 | dnPhy _ => 0x11
  | fa _ => 0x22 | fb _ => 0x22 | sp => 0x32 | spBank _ => 0x12 | spNode _ => 0x13 | digest => 0x33
  | lane j => if j.val < 16 then 0x14 else 0x15 | ks => 0x34 | se => 0x35 | aes => 0x36 | rng => 0x37 | pcie => 0x38
  | ring => 0x39 | mctp => 0x3A | i3c _ => 0x3B | relay _ => 0x3C | otp => 0x3D | lc => 0x3E | dbg => 0x3F
  | wdt => 0x41 | baro => 0x42 | cnt => 0x43 | bist => 0x44 | mon => 0x45

/-- Level 1 to 7 (R66). -/
def level : Cell → Nat
  | group => 7 | device => 6 | guard => 5 | crypto => 5 | host => 5 | keeper => 5 | pilot => 5 | cl _ => 4
  | up _ => 2 | dn _ => 2 | fa _ => 2 | fb _ => 2
  | upPhy _ _ => 1 | dnPhy _ => 1 | spBank _ => 1 | spNode _ => 1 | lane _ => 1 | _ => 3

/-- INSTANCE (R66). -/
def inst : Cell → Nat
  | cl k => k | pp n => n | up n => n | dn n => n | dnPhy n => n | upPhy n c => 2 * n + c | fa n => 2 * n
  | fb n => 2 * n + 1 | spBank b => b | spNode b => b | lane j => if j.val < 16 then j else j.val - 16 | i3c k => k
  | relay r => r | _ => 0

/-- The parent link of Table 02-6; the Guard group has none. -/
def parent : Cell → Option Cell
  | group => none | device => some group
  | fs => some device | guard => some device | crypto => some device | host => some device | keeper => some device
  | pilot => some device | cl _ => some guard | pp n => some (cl ⟨n.val / 8, by omega⟩) | up n => some (pp n)
  | upPhy n _ => some (up n) | dn n => some (pp n) | dnPhy n => some (dn n) | fa n => some (pp n) | fb n => some (pp n)
  | sp => some guard | spBank _ => some sp | spNode _ => some sp
  | digest => some crypto | lane _ => some digest | ks => some crypto | se => some crypto | aes => some crypto
  | rng => some crypto | pcie => some host | ring => some host | mctp => some host | i3c _ => some host
  | relay _ => some host | otp => some keeper | lc => some keeper | dbg => some keeper | wdt => some keeper
  | baro => some keeper | cnt => some keeper | bist => some keeper | mon => some keeper

/-- Children in the order of Table 02-6 (R66). -/
def children : Cell → List Cell
  | group => [device]
  | device => [fs, guard, crypto, host, keeper, pilot]
  | guard => (List.finRange 6).map cl ++ [sp]
  | cl k => (List.finRange 8).map fun i => pp ⟨8 * k.val + i.val, by omega⟩
  | pp n => [up n, dn n, fa n, fb n]
  | up n => [upPhy n 0, upPhy n 1]
  | dn n => [dnPhy n]
  | sp => (List.finRange 48).map spBank ++ (List.finRange 8).map spNode
  | crypto => [digest, ks, se, aes, rng]
  | digest => (List.finRange 20).map lane
  | host => [pcie, ring, mctp, i3c 0, i3c 1, relay 0, relay 1]
  | keeper => [otp, lc, dbg, wdt, baro, cnt, bist, mon]
  | _ => []

/-- Descendants to the depth given, each before its own descendants (the order in which a walk of CELL_CHILD meets them;
DEDUCED as the directory order of R61, log entry 7). -/
def walk : Nat → Cell → List Cell
  | 0, _ => []
  | k + 1, c => c.children.flatMap fun x => x :: walk k x

/-- Every descendant of a cell, in directory order; the directory is at most six levels deep below the Guard group. -/
def descendants (c : Cell) : List Cell := walk 6 c

/-- The cells above a cell, nearest first. -/
def above : Nat → Cell → List Cell
  | 0, _ => []
  | k + 1, c => match c.parent with
    | none => []
    | some p => p :: above k p

/-- Every enclosing group of a cell, nearest first. -/
def ancestors (c : Cell) : List Cell := above 6 c

/-- Every cell of the directory. -/
def all : List Cell := group :: descendants group

/-- R64: the Legacy profile excludes clusters 3 to 5, pairs 24 to 47 and their descendants. -/
def excluded (legacy : Bool) : Cell → Bool
  | cl k => legacy && decide (3 ≤ k.val)
  | pp n => legacy && decide (24 ≤ n.val)
  | up n => legacy && decide (24 ≤ n.val)
  | upPhy n _ => legacy && decide (24 ≤ n.val)
  | dn n => legacy && decide (24 ≤ n.val)
  | dnPhy n => legacy && decide (24 ≤ n.val)
  | fa n => legacy && decide (24 ≤ n.val)
  | fb n => !legacy || decide (24 ≤ n.val)
  | _ => false

/-- CAP_E as the directory lists it, before the profile excludes cells (R66). -/
def capETable : Cell → Bool
  | guard => true | crypto => true | cl _ => true | pp _ => true | up _ => true | upPhy _ _ => true | dn _ => true
  | dnPhy _ => true | fa _ => true | fb _ => true | sp => true | spBank _ => true | spNode _ => true | lane _ => true
  | se => true | aes => true | i3c _ => true | relay _ => true | _ => false

/-- CAP_E in the profile in effect (R64, R66). -/
def capE (legacy : Bool) (c : Cell) : Bool := c.capETable && !c.excluded legacy

/-- CAP_R (R66). -/
def capR : Cell → Bool
  | device => true | guard => true | crypto => true | pilot => true | cl _ => true | pp _ => true | up _ => true
  | upPhy _ _ => true | dn _ => true | dnPhy _ => true | fa _ => true | fb _ => true | sp => true | digest => true
  | lane _ => true | ks => true | se => true | aes => true | rng => true | ring => true | mctp => true | i3c _ => true
  | relay _ => true | baro => true | cnt => true | _ => false

/-- CAP_W (R66). -/
def capW : Cell → Bool
  | guard => true | crypto => true | cl _ => true | pp _ => true | up _ => true | upPhy _ _ => true | dn _ => true
  | dnPhy _ => true | spBank _ => true | spNode _ => true | lane _ => true | se => true | aes => true | relay _ => true
  | _ => false

/-- CAP_B (R66). -/
def capB : Cell → Bool
  | guard => true | crypto => true | host => true | keeper => true | pp _ => true | sp => true | digest => true
  | ks => true | se => true | aes => true | rng => true | ring => true | mctp => true | i3c _ => true | relay _ => true
  | cnt => true | _ => false

/-- A port pair whose cell this is, for the checks of R55. -/
def pair? : Cell → Option (Fin 48)
  | pp n => some n | up n => some n | upPhy n _ => some n | dn n => some n | dnPhy n => some n | fa n => some n
  | fb n => some n | _ => none

/-- Cells of the Crypto complex, the complex among them. -/
def inCrypto (c : Cell) : Bool := c == crypto || c.ancestors.contains crypto

/-- Offset of the first child for CELL_CHILD (R52). -/
def firstChild (c : Cell) : Nat := match c.children with
  | [] => 0
  | x :: _ => if x = device then 0xFFFFFFFF else x.offset

/-- Offset of the next sibling for CELL_CHILD (R52). -/
def nextSibling (c : Cell) : Nat := match c.parent with
  | none => 0
  | some p => match p.children.dropWhile (fun x => x ≠ c) with
    | _ :: y :: _ => y.offset
    | _ => 0

end Cell

/-- The cell whose header holds the byte address, if one does (R66). -/
def cellAt (a : Nat) : Option Cell :=
  let h := a / 64 * 64
  if h = 0 then some .device
  else if h < 0x10000 then
    if h = 0x8800 then some .group else if h = 0x8000 then some .guard else if h = 0x8040 then some .crypto
    else if h = 0x8080 then some .host else if h = 0x80C0 then some .keeper else if h = 0x8100 then some .pilot
    else if h0 : 0x8400 ≤ h ∧ h < 0x8580 then some (.cl ⟨(h - 0x8400) / 0x40, by omega⟩) else none
  else if h < 0x40000 then
    if h = 0x10000 then some .fs else if h = 0x20000 then some .otp else if h = 0x21000 then some .lc
    else if h = 0x22000 then some .dbg else if h = 0x23000 then some .wdt else if h = 0x24000 then some .baro
    else if h = 0x25000 then some .cnt else if h = 0x26000 then some .bist else if h = 0x27000 then some .mon else none
  else if h < 0x80000 then
    if h = 0x40000 then some .digest else if h = 0x48000 then some .ks else if h = 0x4C000 then some .se
    else if h = 0x4E000 then some .aes else if h = 0x4F000 then some .rng
    else if h0 : 0x40400 ≤ h ∧ h < 0x45400 ∧ h % 0x400 = 0 then some (.lane ⟨(h - 0x40400) / 0x400, by omega⟩) else none
  else if h < 0x100000 then
    if h = 0x80000 then some .pcie else if h = 0x84000 then some .ring else if h = 0x88000 then some .mctp
    else if h = 0x8C000 then some (.i3c 0) else if h = 0x8C400 then some (.i3c 1)
    else if h = 0x8E000 then some (.relay 0) else if h = 0x8E400 then some (.relay 1) else none
  else if h < 0x1000000 then
    if h = 0x100000 then some .sp
    else if h0 : 0x101000 ≤ h ∧ h < 0x101C00 then some (.spBank ⟨(h - 0x101000) / 0x40, by omega⟩)
    else if h0 : 0x101C00 ≤ h ∧ h < 0x101E00 then some (.spNode ⟨(h - 0x101C00) / 0x40, by omega⟩) else none
  else if hp : h < 0x1300000 ∧ 0x1000000 ≤ h then
    let n : Fin 48 := ⟨(h - 0x1000000) / 0x10000, by omega⟩
    let r := h % 0x10000
    if r = 0 then some (.pp n) else if r = 0x1000 then some (.up n) else if r = 0x1400 then some (.upPhy n 0)
    else if r = 0x1800 then some (.upPhy n 1) else if r = 0x2000 then some (.dn n) else if r = 0x2400 then some (.dnPhy n)
    else if r = 0x3000 then some (.fa n) else if r = 0x3800 then some (.fb n) else none
  else none

/-- The cell whose registers beyond the header hold the byte address (R65, Table 02-8): the cell of the block. -/
def ownerAt (a : Nat) : Option Cell :=
  if a < 0x8000 then some .device
  else if 0x8840 ≤ a ∧ a < 0x8900 then some .group
  else if a < 0x10000 then none
  else if a < 0x20000 then some .fs
  else if a < 0x21000 then some .otp else if a < 0x22000 then some .lc else if a < 0x23000 then some .dbg
  else if a < 0x24000 then some .wdt else if a < 0x25000 then some .baro else if a < 0x26000 then some .cnt
  else if a < 0x27000 then some .bist else if a < 0x40000 then some .mon
  else if a < 0x40400 then some .digest
  else if h : 0x40400 ≤ a ∧ a < 0x45400 then some (.lane ⟨(a - 0x40400) / 0x400, by omega⟩)
  else if a < 0x4C000 then some .ks else if a < 0x4E000 then some .se else if a < 0x4F000 then some .aes
  else if a < 0x80000 then some .rng
  else if a < 0x84000 then some .pcie else if a < 0x88000 then some .ring else if a < 0x8C000 then some .mctp
  else if a < 0x8C400 then some (.i3c 0) else if a < 0x8E000 then some (.i3c 1)
  else if a < 0x8E400 then some (.relay 0) else if a < 0x90000 then some (.relay 1)
  else if 0x100000 ≤ a ∧ a < 0x200000 then some .sp
  else if hp : a < 0x1300000 ∧ 0x1000000 ≤ a then
    let n : Fin 48 := ⟨(a - 0x1000000) / 0x10000, by omega⟩
    let r := a % 0x10000
    if r < 0x1000 then some (.pp n) else if r < 0x1400 then some (.up n) else if r < 0x1800 then some (.upPhy n 0)
    else if r < 0x2000 then some (.upPhy n 1) else if r < 0x2400 then some (.dn n) else if r < 0x3000 then some (.dnPhy n)
    else if r < 0x3800 then some (.fa n) else if r < 0x4000 then some (.fb n) else some (.pp n)
  else none

end Sys2Proof.Machine
end

