-- ==== Sys2Proof/Machine/RegMap.lean ====
section
/-! DEFINITION. The register map: every field of the field tables of the spec, with its access type, its reset value and
the reset kinds that load it (00_scope.md R11, R13; 02_frames_cells_map.md R51, R52, R68, R69). A field is named by the
bit address it has in PF0 BAR0; the block of VF f lies at the pseudo address 0x1000_0000 + 0x4000 * f. -/

namespace Sys2Proof.Machine

/-- A field: its bit address (8 * byte address of the register + lowest bit) and its width. -/
structure Fld where
  bit : Nat
  width : Nat
  deriving DecidableEq, Repr

/-- Access types of Table 00-6 that the field tables use. -/
inductive Acc where
  | ro | rw | w1c | wo | kw
  deriving DecidableEq, Repr

/-- Reset kinds of Table 00-7. -/
inductive Kind where
  | p | d | i | c | f | g
  deriving DecidableEq, Repr

/-- A row of a field table: offset in the block, outer and inner replication (count, stride in bytes), lowest bit, width,
access type, reset value, and the reset kinds that load it. -/
structure Row where
  off : Nat
  n1 : Nat
  s1 : Nat
  n2 : Nat
  s2 : Nat
  lo : Nat
  width : Nat
  acc : Acc
  reset : Nat
  kinds : List Kind
  deriving DecidableEq, Repr

/-- The row describes the field whose bit address relative to the block is `b`. -/
def Row.hits (r : Row) (b : Nat) : Bool :=
  (List.range r.n1).any fun i =>
    let base := 8 * (r.off + r.s1 * i) + r.lo
    decide (base ≤ b) && (b - base) % (8 * r.s2) == 0 && decide ((b - base) / (8 * r.s2) < r.n2)

/-- Base of the function block of function f: PF0 at 0x0009_0000 (Table 02-8), a VF at its pseudo address. -/
def fnBase (f : Nat) : Nat := if f = 0 then 0x90000 else 0x10000000 + 0x4000 * f

/-- Device cell block: Tables 00-2, 04-10, 06-8, 10-13, 10-14, 13-8. -/
def devRows : List Row := [
  ⟨0x40, 1, 0, 1, 0, 16, 16, .ro, 0x9640, [.p]⟩, -- DEVICE_ID_PART
  ⟨0x40, 1, 0, 1, 0, 4, 4, .ro, 0xB, [.p]⟩, -- DEVICE_ID_STEP_MAJOR
  ⟨0x40, 1, 0, 1, 0, 0, 4, .ro, 0x0, [.p]⟩, -- DEVICE_ID_STEP_MINOR
  ⟨0x400, 1, 0, 1, 0, 0, 2, .ro, 0x0, [.p, .d]⟩, -- POL_STATUS_STATE
  ⟨0x400, 1, 0, 1, 0, 2, 1, .ro, 0x0, [.p, .d]⟩, -- POL_STATUS_COPY
  ⟨0x400, 1, 0, 1, 0, 3, 1, .ro, 0x0, [.p, .d]⟩, -- POL_STATUS_ORIGIN
  ⟨0x400, 1, 0, 1, 0, 16, 16, .ro, 0x0, [.p, .d]⟩, -- POL_STATUS_LAST_LOAD
  ⟨0x408, 1, 0, 1, 0, 0, 32, .ro, 0x0, [.p, .d]⟩, -- POL_SEQ
  ⟨0x408, 1, 0, 1, 0, 32, 8, .ro, 0x0, [.p, .d]⟩, -- POL_SVN
  ⟨0x408, 1, 0, 1, 0, 40, 8, .ro, 0x0, []⟩, -- POL_FUSED_SVN
  ⟨0x410, 1, 0, 6, 8, 0, 64, .ro, 0x0, [.p, .d]⟩, -- POL_DIGEST
  ⟨0x800, 1, 0, 1, 0, 0, 32, .ro, 0x0, [.p, .d]⟩, -- DEV_START_TICK
  ⟨0x800, 1, 0, 1, 0, 32, 32, .ro, 0x0, [.p, .d]⟩, -- DEV_LAST_RELEASE
  ⟨0x810, 1, 0, 2, 8, 0, 64, .ro, 0x0, [.p, .d]⟩, -- RELEASED_MAP
  ⟨0x820, 1, 0, 2, 8, 0, 64, .ro, 0x0, [.p, .d]⟩, -- QUARANTINE_MAP
  ⟨0xC00, 1, 0, 1, 0, 0, 3, .ro, 0x0, []⟩, -- FW_STATE
  ⟨0xC00, 1, 0, 1, 0, 3, 2, .ro, 0x0, []⟩, -- FW_TRIAL_STARTS
  ⟨0xC00, 1, 0, 1, 0, 5, 3, .ro, 0x0, [.p, .d]⟩, -- FW_SOURCE
  ⟨0xC00, 1, 0, 1, 0, 8, 1, .w1c, 0x0, [.p, .d]⟩, -- FW_SETTINGS_RESET
  ⟨0xC00, 1, 0, 1, 0, 16, 16, .ro, 0x0, []⟩, -- FW_LAST_RESULT
  ⟨0xC08, 1, 0, 1, 0, 0, 32, .ro, 0x0, [.p, .d, .i]⟩, -- FW_VERSION
  ⟨0xC08, 1, 0, 1, 0, 32, 8, .ro, 0x0, [.p, .d, .i]⟩, -- FW_SVN
  ⟨0xC08, 1, 0, 1, 0, 40, 8, .ro, 0x0, []⟩, -- FW_FUSED_SVN
  ⟨0xC10, 1, 0, 1, 0, 0, 32, .ro, 0x0, []⟩, -- FW_RETREAT_VERSION
  ⟨0xC10, 1, 0, 1, 0, 32, 32, .ro, 0x0, [.p, .d, .i]⟩, -- FW_HEALTH_LEFT
  ⟨0xC18, 1, 0, 1, 0, 0, 32, .rw, 0x0, []⟩, -- FW_HEALTH_FRAMES
  ⟨0xD00, 1, 0, 1, 0, 0, 6, .ro, 0x0, [.p, .d]⟩, -- CH_POSITION
  ⟨0xD00, 1, 0, 1, 0, 8, 7, .ro, 0x1, [.p, .d]⟩, -- CH_UNITS
  ⟨0xD00, 1, 0, 1, 0, 16, 1, .ro, 0x0, [.p, .d]⟩, -- CH_HEAD
  ⟨0xD00, 1, 0, 1, 0, 17, 1, .ro, 0x0, [.p, .d]⟩, -- CH_SYNCED
  ⟨0xD08, 1, 0, 1, 0, 0, 64, .ro, 0x0, [.p, .d]⟩, -- CH_CHAIN_TIME
  ⟨0xD10, 1, 0, 1, 0, 0, 16, .ro, 0x0, [.p, .d]⟩, -- CH_SYNC_ERR
  ⟨0xD10, 1, 0, 1, 0, 32, 16, .ro, 0xFFFF, [.p, .d]⟩, -- CH_SYNC_AGE
  ⟨0xD18, 1, 0, 1, 0, 0, 4, .ro, 0x0, []⟩, -- FRONT_STATE
  ⟨0xD18, 1, 0, 1, 0, 16, 16, .ro, 0x0, []⟩, -- FRONT_LAST_STATUS
  ⟨0xD18, 1, 0, 1, 0, 32, 32, .ro, 0x0, []⟩, -- FRONT_SEQ
  ⟨0xD20, 1, 0, 1, 0, 0, 64, .ro, 0x0, []⟩, -- FRONT_LANDFALL
  ⟨0xD28, 1, 0, 1, 0, 0, 32, .ro, 0x0, [.p, .d]⟩, -- FRONT_CHUNKS_OK
  ⟨0xD28, 1, 0, 1, 0, 32, 32, .ro, 0x0, [.p, .d]⟩, -- FRONT_CHUNKS_RETRIED
  ⟨0xD30, 1, 0, 1, 0, 0, 64, .ro, 0x0, [.p, .d, .i]⟩, -- FRONT_ARMED_MAP
  ⟨0xD38, 1, 0, 1, 0, 0, 64, .ro, 0x0, [.p, .d, .i]⟩, -- FRONT_LANDED_MAP
  ⟨0xE00, 1, 0, 1, 0, 0, 3, .ro, 0x0, [.p, .d]⟩, -- REC_STATE
  ⟨0xE00, 1, 0, 1, 0, 3, 3, .ro, 0x0, [.p, .d]⟩, -- REC_SOURCE
  ⟨0xE00, 1, 0, 1, 0, 16, 16, .ro, 0x0, [.p, .d]⟩, -- REC_LAST_STATUS
  ⟨0xE08, 1, 0, 1, 0, 0, 32, .rw, 0x0, [.p, .d]⟩, -- REC_LEN
  ⟨0xE08, 1, 0, 1, 0, 32, 32, .rw, 0x0, [.p, .d]⟩, -- REC_OXM_LEN
  ⟨0xE10, 1, 0, 1, 0, 0, 32, .ro, 0x0, [.p, .d]⟩, -- REC_RECEIVED
  ⟨0xE18, 1, 0, 1, 0, 0, 1, .wo, 0x0, [.p]⟩, -- REC_CTL_START
  ⟨0xE18, 1, 0, 1, 0, 1, 1, .wo, 0x0, [.p]⟩, -- REC_CTL_PUSH
  ⟨0xE18, 1, 0, 1, 0, 2, 1, .wo, 0x0, [.p]⟩, -- REC_CTL_FINISH
  ⟨0xE18, 1, 0, 1, 0, 3, 1, .wo, 0x0, [.p]⟩, -- REC_CTL_ABORT
  ⟨0xE18, 1, 0, 1, 0, 16, 13, .wo, 0x0, [.p]⟩, -- REC_CTL_PUSH_LEN
  ⟨0x6000, 1, 0, 512, 8, 0, 64, .wo, 0x0, [.p, .d]⟩, -- REC_DATA
  ⟨0x8840, 1, 0, 1, 0, 0, 3, .ro, 0x0, [.p, .d]⟩, -- PAIR_STATE
  ⟨0x8840, 1, 0, 1, 0, 3, 1, .ro, 0x0, []⟩, -- PAIR_BOUND
  ⟨0x8840, 1, 0, 1, 0, 4, 1, .ro, 0x0, []⟩, -- PAIR_ROLE
  ⟨0x8840, 1, 0, 1, 0, 5, 1, .ro, 0x0, [.p]⟩, -- PAIR_YIELDED
  ⟨0x8840, 1, 0, 1, 0, 16, 16, .ro, 0x0, [.p, .d]⟩, -- PAIR_LAST_STATUS
  ⟨0x8848, 1, 0, 2, 8, 0, 64, .ro, 0x0, []⟩, -- PAIR_PARTNER_SERIAL
  ⟨0x8858, 1, 0, 1, 0, 0, 64, .ro, 0x0, [.p, .d]⟩, -- VAULT_GEN
  ⟨0x8860, 1, 0, 1, 0, 0, 32, .ro, 0x0, [.p, .d]⟩, -- VAULT_LAST_WRITE
  ⟨0x8860, 1, 0, 1, 0, 32, 32, .ro, 0x0, [.p, .d]⟩, -- VAULT_PASS
  ⟨0x8868, 1, 0, 1, 0, 0, 32, .ro, 0xFFFFFFFF, [.p, .d]⟩, -- VAULT_LIFE_DAYS
  ⟨0x8868, 1, 0, 1, 0, 32, 1, .ro, 0x0, [.p, .d]⟩, -- VAULT_DIRTY
  ⟨0x8868, 1, 0, 1, 0, 33, 1, .ro, 0x0, [.p, .d]⟩, -- VAULT_WEAR_LOW
  ⟨0x8870, 1, 0, 1, 0, 0, 32, .rw, 0x0, []⟩, -- VAULT_ENDURANCE
  ⟨0x8878, 1, 0, 1, 0, 0, 32, .ro, 0x0, [.p, .d]⟩, -- TK_START
  ⟨0x8878, 1, 0, 1, 0, 32, 32, .ro, 0x0, [.p, .d]⟩, -- TK_DONE
  ⟨0x8880, 1, 0, 1, 0, 0, 64, .ro, 0x0, [.p, .d]⟩] -- TK_GEN

/-- Component records: Table 06-9. -/
def compRows : List Row := [
  ⟨0x0, 1, 0, 1, 0, 0, 3, .ro, 0x0, [.p, .d]⟩, -- COMP_STATUS_STATE
  ⟨0x0, 1, 0, 1, 0, 3, 1, .ro, 0x0, [.p, .d]⟩, -- COMP_STATUS_READY
  ⟨0x0, 1, 0, 1, 0, 4, 1, .ro, 0x0, [.p, .d]⟩, -- COMP_STATUS_RELEASE
  ⟨0x0, 1, 0, 1, 0, 5, 1, .ro, 0x0, [.p, .d]⟩, -- COMP_STATUS_KEY_STALE
  ⟨0x0, 1, 0, 1, 0, 6, 1, .ro, 0x0, [.p, .d]⟩, -- COMP_STATUS_FORCED
  ⟨0x0, 1, 0, 1, 0, 8, 6, .ro, 0x1, [.p, .d]⟩, -- COMP_STATUS_HOLD
  ⟨0x0, 1, 0, 1, 0, 16, 3, .ro, 0x0, [.p, .d]⟩, -- COMP_STATUS_GOLDEN
  ⟨0x0, 1, 0, 1, 0, 32, 16, .ro, 0x0, [.p, .d]⟩, -- COMP_STATUS_LAST_STATUS
  ⟨0x8, 1, 0, 1, 0, 0, 8, .ro, 0x0, [.p, .d]⟩, -- COMP_OXM_SVN
  ⟨0x8, 1, 0, 1, 0, 8, 8, .ro, 0x0, []⟩, -- COMP_OXM_FLOOR
  ⟨0x8, 1, 0, 1, 0, 16, 3, .ro, 0x0, [.p, .d]⟩, -- COMP_OXM_SLOT
  ⟨0x8, 1, 0, 1, 0, 19, 1, .ro, 0x0, [.p, .d]⟩, -- COMP_OXM_FLOOR_LOST
  ⟨0x8, 1, 0, 1, 0, 24, 8, .ro, 0x0, [.p, .d]⟩, -- COMP_OXM_GOLDEN_SVN
  ⟨0x8, 1, 0, 1, 0, 32, 3, .ro, 0x0, [.p, .d]⟩, -- COMP_OXM_GOLDEN_SLOT
  ⟨0x10, 1, 0, 1, 0, 0, 32, .ro, 0x0, [.p, .d]⟩, -- COMP_TIME_VERIFY_START
  ⟨0x10, 1, 0, 1, 0, 32, 32, .ro, 0x0, [.p, .d]⟩, -- COMP_TIME_RELEASED
  ⟨0x18, 1, 0, 1, 0, 0, 2, .ro, 0x0, [.p, .d]⟩, -- COMP_THAW_COUNT
  ⟨0x18, 1, 0, 1, 0, 2, 2, .ro, 0x0, [.p, .d]⟩, -- COMP_THAW_PASS
  ⟨0x18, 1, 0, 1, 0, 16, 16, .ro, 0x0, [.p, .d]⟩, -- COMP_THAW_LAST_RESULT
  ⟨0x20, 1, 0, 1, 0, 0, 32, .ro, 0x0, [.p, .d]⟩, -- COMP_THAW_UNITS_WRITTEN
  ⟨0x20, 1, 0, 1, 0, 32, 32, .ro, 0x0, [.p, .d]⟩, -- COMP_THAW_UNITS_SKIPPED
  ⟨0x28, 1, 0, 1, 0, 0, 16, .rw, 0x1F4, [.p, .d]⟩, -- COMP_CFG_HOLD_MIN
  ⟨0x30, 1, 0, 1, 0, 0, 1, .w1c, 0x0, [.p, .d]⟩, -- COMP_EVT_RELEASED
  ⟨0x30, 1, 0, 1, 0, 1, 1, .w1c, 0x0, [.p, .d]⟩, -- COMP_EVT_HELD
  ⟨0x30, 1, 0, 1, 0, 2, 1, .w1c, 0x0, [.p, .d]⟩, -- COMP_EVT_THAW_START
  ⟨0x30, 1, 0, 1, 0, 3, 1, .w1c, 0x0, [.p, .d]⟩, -- COMP_EVT_THAW_DONE
  ⟨0x30, 1, 0, 1, 0, 4, 1, .w1c, 0x0, [.p, .d]⟩, -- COMP_EVT_QUARANTINED
  ⟨0x30, 1, 0, 1, 0, 5, 1, .w1c, 0x0, [.p, .d]⟩, -- COMP_EVT_KEY_STALE
  ⟨0x30, 1, 0, 1, 0, 6, 1, .w1c, 0x0, [.p, .d]⟩, -- COMP_EVT_GOLDEN
  ⟨0x38, 1, 0, 1, 0, 0, 32, .ro, 0x0, [.p, .d]⟩, -- COMP_CNT_RESET_REQ_CNT
  ⟨0x38, 1, 0, 1, 0, 32, 32, .ro, 0x0, [.p, .d]⟩] -- COMP_CNT_RELEASE_CNT

/-- Frame scheduler: Table 02-7. -/
def fsRows : List Row := [
  ⟨0x40, 1, 0, 1, 0, 0, 64, .ro, 0x0, [.p]⟩, -- FS_FRAME_CNT
  ⟨0x48, 1, 0, 1, 0, 0, 1, .w1c, 0x0, [.p, .d]⟩, -- FS_STATUS_OVERRUN
  ⟨0x48, 1, 0, 1, 0, 1, 5, .ro, 0x0, [.p, .d]⟩, -- FS_STATUS_OVR_SLOT
  ⟨0x50, 1, 0, 1, 0, 0, 32, .ro, 0x0, [.p, .d]⟩, -- FS_OVR_CNT
  ⟨0x58, 1, 0, 1, 0, 0, 16, .ro, 0x0, [.p, .d, .i]⟩, -- FS_PILOT_LOAD0
  ⟨0x58, 1, 0, 1, 0, 16, 16, .ro, 0x0, [.p, .d, .i]⟩, -- FS_PILOT_LOAD1
  ⟨0x58, 1, 0, 1, 0, 32, 16, .ro, 0x0, [.p, .d, .i]⟩, -- FS_PILOT_LOAD2
  ⟨0x58, 1, 0, 1, 0, 48, 16, .ro, 0x0, [.p, .d, .i]⟩, -- FS_PILOT_LOAD3
  ⟨0x60, 1, 0, 1, 0, 0, 7, .ro, 0x0, [.p, .d]⟩, -- FS_LULL_LOAD
  ⟨0x68, 1, 0, 1, 0, 0, 1, .ro, 0x0, [.p, .d]⟩, -- FS_PROFILE
  ⟨0x100, 1, 0, 99, 4, 0, 4, .rw, 0x4, [.p, .d]⟩, -- FS_IC_CFG_DEBOUNCE
  ⟨0x100, 1, 0, 99, 4, 16, 16, .rw, 0x1F4, [.p, .d]⟩, -- FS_IC_CFG_STUCK_LIMIT
  ⟨0x300, 1, 0, 4, 4, 0, 32, .ro, 0x0, [.p, .d]⟩, -- FS_IC_LEVEL
  ⟨0x320, 1, 0, 4, 4, 0, 32, .w1c, 0x0, [.p, .d]⟩, -- FS_IC_CHATTER
  ⟨0x340, 1, 0, 4, 4, 0, 32, .ro, 0x0, [.p, .d]⟩] -- FS_IC_STUCK

/-- OTP controller: Table 11-10. -/
def otpRows : List Row := [
  ⟨0x40, 1, 0, 1, 0, 0, 1, .ro, 0x0, [.p, .d]⟩, -- OTP_STATUS_VQPS_OK
  ⟨0x40, 1, 0, 1, 0, 1, 1, .ro, 0x0, [.p, .d]⟩, -- OTP_STATUS_PUMP_OK
  ⟨0x40, 1, 0, 1, 0, 2, 1, .ro, 0x0, [.p, .d]⟩, -- OTP_STATUS_BUSY
  ⟨0x40, 1, 0, 1, 0, 3, 1, .w1c, 0x0, [.p, .d]⟩, -- OTP_STATUS_WEAK_SEEN
  ⟨0x40, 1, 0, 1, 0, 4, 1, .ro, 0x0, [.p, .d]⟩, -- OTP_STATUS_WEAK_SECURITY
  ⟨0x40, 1, 0, 1, 0, 5, 1, .ro, 0x0, [.p, .d]⟩, -- OTP_STATUS_REPAIR_WAIT
  ⟨0x40, 1, 0, 1, 0, 6, 1, .ro, 0x0, [.p, .d]⟩, -- OTP_STATUS_INTEGRITY_FAIL
  ⟨0x40, 1, 0, 1, 0, 16, 16, .ro, 0x0, [.p, .d]⟩, -- OTP_STATUS_LAST_STATUS
  ⟨0x48, 1, 0, 1, 0, 0, 64, .ro, 0x0, []⟩, -- OTP_REGION_STATE
  ⟨0x50, 1, 0, 1, 0, 0, 32, .ro, 0x0, []⟩, -- OTP_RLOCK_MAP
  ⟨0x58, 1, 0, 1, 0, 0, 32, .ro, 0x0, [.p]⟩, -- OTP_WEAK_CNT
  ⟨0x58, 1, 0, 1, 0, 32, 32, .ro, 0x0, [.p]⟩, -- OTP_RECHECK_PASSES
  ⟨0x60, 1, 0, 1, 0, 0, 11, .ro, 0x0, [.p]⟩, -- OTP_LAST_WEAK_WORD
  ⟨0x60, 1, 0, 1, 0, 32, 32, .ro, 0x0, [.p]⟩, -- OTP_LAST_WEAK_FRAME
  ⟨0x68, 1, 0, 1, 0, 0, 32, .ro, 0x0, [.p]⟩, -- OTP_PULSE_CNT
  ⟨0x68, 1, 0, 1, 0, 32, 32, .ro, 0x0, [.p]⟩, -- OTP_FAIL_CNT
  ⟨0x70, 1, 0, 1, 0, 0, 1, .w1c, 0x0, [.p, .d]⟩, -- OTP_EVT_SEAL_BAD
  ⟨0x80, 1, 0, 1, 0, 0, 1, .wo, 0x0, [.p]⟩] -- OTP_REPAIR_CTL_GO

/-- Life cycle: Table 11-11. -/
def lcRows : List Row := [
  ⟨0x40, 1, 0, 1, 0, 0, 2, .ro, 0x0, []⟩, -- LC_STATE_STATE
  ⟨0x40, 1, 0, 1, 0, 2, 1, .ro, 0x0, []⟩, -- LC_STATE_REPAIR
  ⟨0x40, 1, 0, 1, 0, 3, 1, .ro, 0x0, [.p, .d]⟩, -- LC_STATE_APPROVED
  ⟨0x40, 1, 0, 1, 0, 4, 1, .ro, 0x0, []⟩, -- LC_STATE_ZEROISED
  ⟨0x40, 1, 0, 1, 0, 16, 16, .ro, 0x0, [.p, .d]⟩, -- LC_STATE_LAST_STATUS
  ⟨0x48, 1, 0, 1, 0, 0, 3, .ro, 0x0, []⟩, -- LC_CONFIG_BOOT_ORDER
  ⟨0x48, 1, 0, 1, 0, 3, 1, .ro, 0x0, []⟩, -- LC_CONFIG_COSIGN_REQ
  ⟨0x48, 1, 0, 1, 0, 4, 1, .ro, 0x0, []⟩, -- LC_CONFIG_APPROVED
  ⟨0x48, 1, 0, 1, 0, 5, 2, .ro, 0x0, []⟩, -- LC_CONFIG_TAMPER_ZEROISE
  ⟨0x48, 1, 0, 1, 0, 7, 2, .ro, 0x0, []⟩, -- LC_CONFIG_PROFILE
  ⟨0x50, 1, 0, 1, 0, 0, 8, .ro, 0x0, []⟩, -- LC_OKS_USABLE
  ⟨0x50, 1, 0, 1, 0, 8, 8, .ro, 0x0, []⟩, -- LC_OKS_REVOKED
  ⟨0x50, 1, 0, 1, 0, 16, 16, .ro, 0x0, []⟩, -- LC_OKS_CLASS
  ⟨0x58, 1, 0, 1, 0, 0, 8, .ro, 0x0, []⟩, -- LC_CNT_FW_SVN
  ⟨0x58, 1, 0, 1, 0, 8, 8, .ro, 0x0, []⟩, -- LC_CNT_POL_SVN
  ⟨0x58, 1, 0, 1, 0, 16, 7, .ro, 0x0, []⟩, -- LC_CNT_DEBUG
  ⟨0x60, 1, 0, 1, 0, 0, 2, .w1c, 0x0, [.p, .d]⟩, -- LC_TAMPER_LATCHED
  ⟨0x60, 1, 0, 1, 0, 16, 16, .ro, 0x0, [.p]⟩] -- LC_TAMPER_COUNT

/-- Debug authorisation: Table 11-12. -/
def dbgRows : List Row := [
  ⟨0x40, 1, 0, 1, 0, 0, 2, .ro, 0x0, [.p, .d]⟩, -- DBG_STATE_LEVEL
  ⟨0x40, 1, 0, 1, 0, 2, 1, .ro, 0x0, [.p, .d]⟩, -- DBG_STATE_CHALLENGE_OPEN
  ⟨0x40, 1, 0, 1, 0, 3, 1, .ro, 0x0, [.p, .d]⟩, -- DBG_STATE_GRANTED
  ⟨0x40, 1, 0, 1, 0, 16, 16, .ro, 0x0, [.p, .d]⟩, -- DBG_STATE_LAST_STATUS
  ⟨0x48, 1, 0, 1, 0, 0, 32, .ro, 0x0, [.p, .d]⟩, -- DBG_CHALLENGE_LEFT
  ⟨0x48, 1, 0, 1, 0, 32, 32, .ro, 0x0, [.p, .d]⟩] -- DBG_DENIED_CNT

/-- Watchdog: Table 12-6. -/
def wdtRows : List Row := [
  ⟨0x40, 1, 0, 1, 0, 0, 32, .ro, 0xFA, [.p, .d, .i]⟩, -- WDT_WD_OPEN
  ⟨0x40, 1, 0, 1, 0, 32, 32, .ro, 0x9C4, [.p, .d, .i]⟩, -- WDT_WD_CLOSE
  ⟨0x48, 1, 0, 1, 0, 0, 32, .ro, 0x1388, [.p, .d]⟩, -- WDT_HARD_FRAMES
  ⟨0x48, 1, 0, 1, 0, 32, 32, .ro, 0x7A120, [.p, .d]⟩, -- WDT_BOOT_CLOSE
  ⟨0x50, 1, 0, 1, 0, 0, 2, .ro, 0x0, [.p, .d, .i]⟩, -- WDT_STATE
  ⟨0x50, 1, 0, 1, 0, 32, 32, .ro, 0x0, [.p, .d, .i]⟩, -- WDT_PERIOD_START
  ⟨0x58, 1, 0, 1, 0, 0, 16, .wo, 0x0, [.p]⟩, -- WDT_SERVICE
  ⟨0x60, 1, 0, 1, 0, 0, 5, .wo, 0x0, [.p]⟩, -- WDT_CHECKIN
  ⟨0x68, 1, 0, 1, 0, 0, 32, .ro, 0x0, [.p, .d, .i]⟩, -- WDT_ENROLLED
  ⟨0x68, 1, 0, 1, 0, 32, 32, .ro, 0x0, [.p, .d, .i]⟩, -- WDT_MODE
  ⟨0x70, 1, 0, 1, 0, 0, 32, .ro, 0x0, [.p, .d, .i]⟩, -- WDT_CHECKED
  ⟨0x78, 1, 0, 1, 0, 0, 3, .ro, 0x0, [.p]⟩, -- WDT_LAST_FAIL_CAUSE
  ⟨0x78, 1, 0, 1, 0, 8, 5, .ro, 0x0, [.p]⟩, -- WDT_LAST_FAIL_TASK
  ⟨0x78, 1, 0, 1, 0, 32, 32, .ro, 0x0, [.p]⟩, -- WDT_LAST_FAIL_FRAME
  ⟨0x80, 1, 0, 1, 0, 0, 32, .ro, 0x0, [.p]⟩, -- WDT_EXPIRY_CNT
  ⟨0x80, 1, 0, 1, 0, 32, 32, .ro, 0x0, [.p]⟩, -- WDT_ESCALATE_CNT
  ⟨0x88, 1, 0, 1, 0, 0, 64, .ro, 0xFFFFFFFFFFFFFFFF, [.p, .d]⟩] -- WDT_HISTORY

/-- Barograph: Table 12-7. -/
def baroRows : List Row := [
  ⟨0x40, 1, 0, 1, 0, 0, 1, .ro, 0x0, []⟩, -- BARO_STATUS_FULL
  ⟨0x40, 1, 0, 1, 0, 1, 1, .ro, 0x0, [.p, .d]⟩, -- BARO_STATUS_CLEARING
  ⟨0x40, 1, 0, 1, 0, 2, 1, .w1c, 0x0, [.p]⟩, -- BARO_STATUS_QUEUE_OVF
  ⟨0x40, 1, 0, 1, 0, 16, 15, .ro, 0x0, []⟩, -- BARO_STATUS_WRITE_POINT
  ⟨0x48, 1, 0, 1, 0, 0, 32, .ro, 0x0, []⟩, -- BARO_SEQ
  ⟨0x48, 1, 0, 1, 0, 32, 32, .ro, 0x0, [.p]⟩, -- BARO_DROPPED
  ⟨0x50, 1, 0, 1, 0, 0, 24, .ro, 0x0, []⟩, -- BARO_OP_HOURS
  ⟨0x50, 1, 0, 1, 0, 24, 12, .ro, 0x0, [.p]⟩, -- BARO_OP_SECONDS
  ⟨0x58, 1, 0, 1, 0, 0, 32, .ro, 0x0, []⟩, -- BARO_POWER_CYCLES
  ⟨0x58, 1, 0, 1, 0, 32, 32, .ro, 0x0, []⟩, -- BARO_CLEAR_SEQ
  ⟨0x60, 1, 0, 1, 0, 0, 9, .ro, 0x0, [.p]⟩, -- BARO_QUEUE
  ⟨0x68, 1, 0, 1, 0, 0, 1, .rw, 0x0, [.p, .d]⟩, -- BARO_CFG_RING_COPY
  ⟨0x70, 1, 0, 1, 0, 0, 32, .ro, 0x0, [.p, .d]⟩] -- BARO_CORRUPT

/-- Event counters: Table 12-8. -/
def cntRows : List Row := [
  ⟨0x40, 1, 0, 1, 0, 0, 1, .ro, 0x0, [.p, .d, .c]⟩, -- CNT_SNAP_CTL_PENDING
  ⟨0x40, 1, 0, 1, 0, 1, 1, .w1c, 0x0, [.p, .d, .c]⟩, -- CNT_SNAP_CTL_DONE
  ⟨0x48, 1, 0, 1, 0, 0, 64, .ro, 0x0, [.p, .d, .c]⟩, -- CNT_SNAP_TARGET
  ⟨0x50, 1, 0, 1, 0, 0, 64, .ro, 0x0, [.p, .d, .c]⟩, -- CNT_SNAP_FRAME
  ⟨0x58, 1, 0, 1, 0, 0, 64, .w1c, 0x0, [.p, .d, .c]⟩, -- CNT_OVF
  ⟨0x100, 1, 0, 64, 8, 0, 9, .rw, 0x0, []⟩, -- CNT_SEL_SOURCE
  ⟨0x100, 1, 0, 64, 8, 15, 1, .rw, 0x0, []⟩, -- CNT_SEL_ENABLE
  ⟨0x300, 1, 0, 64, 8, 0, 48, .ro, 0x0, [.p, .d, .c]⟩, -- CNT
  ⟨0x500, 1, 0, 64, 8, 0, 48, .ro, 0x0, [.p, .d, .c]⟩] -- SNAP

/-- BIST controller: Table 12-9. -/
def bistRows : List Row := [
  ⟨0x40, 1, 0, 1, 0, 0, 2, .ro, 0x0, [.p, .d]⟩, -- BIST_ACTIVE
  ⟨0x48, 1, 0, 2, 8, 0, 32, .ro, 0x0, [.p, .d]⟩, -- BIST_RUN_CELL
  ⟨0x48, 1, 0, 2, 8, 32, 16, .ro, 0x0, [.p, .d]⟩, -- BIST_RUN_FRAMES
  ⟨0x58, 1, 0, 1, 0, 0, 32, .ro, 0x0, [.p, .d]⟩, -- BIST_LAST_CELL
  ⟨0x58, 1, 0, 1, 0, 32, 3, .ro, 0x0, [.p, .d]⟩, -- BIST_LAST_RESULT
  ⟨0x58, 1, 0, 1, 0, 48, 16, .ro, 0x0, [.p, .d]⟩, -- BIST_LAST_FRAMES
  ⟨0x60, 1, 0, 1, 0, 0, 32, .ro, 0x0, [.p, .d]⟩, -- BIST_PASS_CNT
  ⟨0x60, 1, 0, 1, 0, 32, 32, .ro, 0x0, [.p, .d]⟩, -- BIST_FAIL_CNT
  ⟨0x68, 1, 0, 1, 0, 0, 32, .ro, 0x0, [.p, .d]⟩, -- BIST_INCOMPLETE_CNT
  ⟨0x70, 1, 0, 1, 0, 0, 64, .ro, 0x0, [.p, .d]⟩] -- BIST_MISR_LAST

/-- Monitors: Table 14-7. -/
def monRows : List Row := [
  ⟨0x40, 1, 0, 1, 0, 0, 16, .ro, 0x0, [.p, .d]⟩, -- MON_TJ
  ⟨0x40, 1, 0, 1, 0, 16, 16, .ro, 0x0, [.p]⟩, -- MON_TJ_MAX
  ⟨0x40, 1, 0, 1, 0, 32, 2, .ro, 0x0, [.p, .d]⟩, -- MON_GOV_STEP
  ⟨0x48, 1, 0, 1, 0, 0, 16, .ro, 0x0, [.p, .d]⟩, -- MON_IMON
  ⟨0x48, 1, 0, 1, 0, 16, 16, .ro, 0x0, [.p]⟩, -- MON_IMON_MAX
  ⟨0x48, 1, 0, 1, 0, 32, 16, .ro, 0x0, [.p, .d]⟩, -- MON_VCORE
  ⟨0x50, 1, 0, 1, 0, 0, 8, .rw, 0x64, [.p, .d]⟩, -- MON_CFG_GOV_TRIP
  ⟨0x50, 1, 0, 1, 0, 8, 8, .rw, 0xB4, [.p, .d]⟩, -- MON_CFG_CUR_WARN
  ⟨0x58, 1, 0, 1, 0, 0, 1, .w1c, 0x0, [.p, .d]⟩, -- MON_EVT_STEP
  ⟨0x58, 1, 0, 1, 0, 1, 1, .w1c, 0x0, [.p, .d]⟩, -- MON_EVT_CURRENT_WARN
  ⟨0x58, 1, 0, 1, 0, 2, 1, .w1c, 0x0, [.p, .d]⟩, -- MON_EVT_CURRENT_LIMIT
  ⟨0x58, 1, 0, 1, 0, 3, 1, .w1c, 0x0, [.p, .d]⟩, -- MON_EVT_VOLTAGE
  ⟨0x58, 1, 0, 1, 0, 4, 1, .w1c, 0x0, [.p, .d]⟩, -- MON_EVT_CLOCK
  ⟨0x60, 1, 0, 1, 0, 0, 32, .ro, 0x0, [.p, .d]⟩, -- MON_STEP_UP_CNT
  ⟨0x60, 1, 0, 1, 0, 32, 32, .ro, 0x0, [.p, .d]⟩, -- MON_STEP_DOWN_CNT
  ⟨0x68, 1, 0, 1, 0, 0, 48, .ro, 0x0, [.p, .d]⟩, -- MON_STEP_FRAMES
  ⟨0x70, 1, 0, 1, 0, 0, 2, .ro, 0x0, [.p, .d]⟩, -- CAL_STATUS_SRC
  ⟨0x70, 1, 0, 1, 0, 2, 1, .ro, 0x0, [.p, .d]⟩, -- CAL_STATUS_BUSY
  ⟨0x70, 1, 0, 1, 0, 16, 16, .ro, 0x0, [.p, .d]⟩, -- CAL_STATUS_LAST_STATUS
  ⟨0x70, 1, 0, 1, 0, 32, 16, .ro, 0x0, []⟩, -- CAL_STATUS_VERSION
  ⟨0x78, 1, 0, 1, 0, 0, 1, .wo, 0x0, [.p]⟩, -- CAL_CTL_COMMIT
  ⟨0x80, 1, 0, 1, 0, 0, 2, .ro, 0x0, [.p, .d]⟩, -- DRZ_STATE
  ⟨0x80, 1, 0, 1, 0, 32, 32, .ro, 0x0, [.p, .d]⟩, -- DRZ_EXIT_FRAMES
  ⟨0x88, 1, 0, 1, 0, 0, 32, .ro, 0x0, []⟩, -- CAL_SEQ
  ⟨0x1000, 1, 0, 512, 8, 0, 64, .rw, 0x0, [.p, .d]⟩, -- CAL_STAGE
  ⟨0x2000, 1, 0, 512, 8, 0, 64, .ro, 0x0, []⟩, -- CAL_PAGE
  ⟨0x3000, 1, 0, 1869, 4, 0, 32, .rw, 0x0, [.p, .d]⟩] -- CAL_TOKEN

/-- Crypto complex: Table 07-12. -/
def crRows : List Row := [
  ⟨0x40, 1, 0, 1, 0, 0, 2, .ro, 0x0, [.p, .d]⟩, -- CR_STATE
  ⟨0x48, 1, 0, 1, 0, 0, 1, .w1c, 0x0, [.p, .d]⟩, -- CR_ALARM_TAMPER
  ⟨0x48, 1, 0, 1, 0, 1, 1, .w1c, 0x0, [.p, .d]⟩, -- CR_ALARM_VOLTAGE
  ⟨0x48, 1, 0, 1, 0, 2, 1, .w1c, 0x0, [.p, .d]⟩, -- CR_ALARM_CLOCK
  ⟨0x48, 1, 0, 1, 0, 3, 1, .w1c, 0x0, [.p, .d]⟩, -- CR_ALARM_BIST
  ⟨0x48, 1, 0, 1, 0, 4, 1, .w1c, 0x0, [.p, .d]⟩, -- CR_ALARM_BUS_ERROR
  ⟨0x48, 1, 0, 1, 0, 5, 1, .w1c, 0x0, [.p, .d]⟩, -- CR_ALARM_PARITY
  ⟨0x50, 1, 0, 1, 0, 0, 32, .ro, 0x0, [.p, .d]⟩, -- CR_EPOCH
  ⟨0x50, 1, 0, 1, 0, 32, 32, .ro, 0x0, [.p, .d]⟩, -- CR_CLEAR_CNT
  ⟨0x58, 1, 0, 1, 0, 0, 11, .ro, 0x0, [.p, .d]⟩, -- CR_CTX_USED
  ⟨0x58, 1, 0, 1, 0, 16, 7, .ro, 0x0, [.p, .d]⟩, -- CR_CTX_FW
  ⟨0x58, 1, 0, 1, 0, 32, 32, .ro, 0x0, [.p, .d]⟩, -- CR_CTX_EXPORTED
  ⟨0x60, 1, 0, 1, 0, 0, 48, .ro, 0x0, [.p, .d]⟩, -- CR_EXPORT_CNT
  ⟨0x68, 1, 0, 1, 0, 0, 48, .ro, 0x0, [.p, .d]⟩, -- CR_IMPORT_CNT
  ⟨0x70, 1, 0, 1, 0, 0, 32, .ro, 0x0, [.p, .d]⟩, -- CR_LENGTH_ERR_CNT
  ⟨0x78, 1, 0, 1, 0, 0, 11, .ro, 0x0, [.p, .d]⟩, -- CR_KAT_FAIL
  ⟨0x80, 1, 0, 1, 0, 0, 20, .ro, 0xFFFFF, [.p, .d]⟩] -- CR_HOST_LANES

/-- Digest lanes: Table 07-13. -/
def laneRows : List Row := [
  ⟨0x40, 1, 0, 1, 0, 0, 1, .ro, 0x0, [.p, .d, .c]⟩, -- LANE_HOST_BUSY
  ⟨0x40, 1, 0, 1, 0, 1, 3, .ro, 0x0, [.p, .d, .c]⟩, -- LANE_TAP_MASK
  ⟨0x40, 1, 0, 1, 0, 16, 8, .ro, 0x0, [.p, .d, .c]⟩, -- LANE_JOB_FUNC
  ⟨0x48, 1, 0, 1, 0, 0, 16, .ro, 0x0, [.p, .d, .c]⟩, -- LANE_VERDICT
  ⟨0x50, 1, 0, 1, 0, 0, 48, .ro, 0x0, [.p, .d, .c]⟩, -- LANE_HOST_BLOCKS
  ⟨0x58, 1, 0, 1, 0, 0, 48, .ro, 0x0, [.p, .d, .c]⟩, -- LANE_TAP_BLOCKS
  ⟨0x60, 1, 0, 1, 0, 0, 48, .ro, 0x0, [.p, .d, .c]⟩] -- LANE_CHECK_CNT

/-- Key store: Table 07-14. -/
def ksRows : List Row := [
  ⟨0x40, 1, 0, 1, 0, 0, 11, .ro, 0x3C0, [.p, .d]⟩, -- KS_FREE
  ⟨0x48, 1, 0, 1, 0, 0, 1, .w1c, 0x0, [.p, .d]⟩, -- KS_EVT_LOAD_REFUSED
  ⟨0x48, 1, 0, 1, 0, 1, 1, .w1c, 0x0, [.p, .d]⟩, -- KS_EVT_ZEROISED
  ⟨0x50, 1, 0, 1, 0, 0, 10, .rw, 0x0, [.p, .d]⟩, -- KS_LOAD_CTL_SLOT
  ⟨0x50, 1, 0, 1, 0, 16, 7, .rw, 0x0, [.p, .d]⟩, -- KS_LOAD_CTL_LEN
  ⟨0x50, 1, 0, 1, 0, 24, 8, .rw, 0x0, [.p, .d]⟩, -- KS_LOAD_CTL_ATTR
  ⟨0x50, 1, 0, 1, 0, 32, 3, .rw, 0x0, [.p, .d]⟩, -- KS_LOAD_CTL_TYPE
  ⟨0x50, 1, 0, 1, 0, 35, 1, .wo, 0x0, [.p]⟩, -- KS_LOAD_CTL_GO
  ⟨0x80, 1, 0, 8, 8, 0, 64, .kw, 0x0, [.p, .d]⟩, -- KS_KEY_IN
  ⟨0x1000, 1, 0, 1024, 8, 0, 1, .ro, 0x0, [.p, .d, .f]⟩, -- KS_SLOT_VALID
  ⟨0x1000, 1, 0, 1024, 8, 1, 2, .ro, 0x0, [.p, .d, .f]⟩, -- KS_SLOT_ORIGIN
  ⟨0x1000, 1, 0, 1024, 8, 4, 8, .ro, 0x0, [.p, .d, .f]⟩, -- KS_SLOT_ATTR
  ⟨0x1000, 1, 0, 1024, 8, 12, 7, .ro, 0x0, [.p, .d, .f]⟩, -- KS_SLOT_LEN
  ⟨0x1000, 1, 0, 1024, 8, 19, 3, .ro, 0x0, [.p, .d, .f]⟩, -- KS_SLOT_TYPE
  ⟨0x1000, 1, 0, 1024, 8, 32, 8, .ro, 0x0, [.p, .d]⟩, -- KS_SLOT_OWNER
  ⟨0x1000, 1, 0, 1024, 8, 40, 1, .ro, 0x0, [.p]⟩] -- KS_SLOT_DEVICE

/-- Signature engine: Table 07-15. -/
def seRows : List Row := [
  ⟨0x40, 1, 0, 1, 0, 0, 2, .ro, 0x0, [.p, .d, .c]⟩, -- SE_STATE
  ⟨0x40, 1, 0, 1, 0, 8, 7, .ro, 0x0, [.p, .d, .c]⟩, -- SE_QUEUE
  ⟨0x48, 1, 0, 1, 0, 0, 32, .ro, 0x0, [.p, .d, .c]⟩, -- SE_UCODE
  ⟨0x50, 1, 0, 1, 0, 0, 16, .ro, 0x0, [.p, .d, .c]⟩, -- SE_VERDICT
  ⟨0x58, 1, 0, 1, 0, 0, 48, .ro, 0x0, [.p, .d, .c]⟩, -- SE_OPS
  ⟨0x60, 1, 0, 1, 0, 0, 32, .ro, 0x0, [.p, .d, .c]⟩, -- SE_VERIFY_FAIL
  ⟨0x60, 1, 0, 1, 0, 32, 32, .ro, 0x0, [.p, .d, .c]⟩] -- SE_SIGN_LIMIT

/-- AES engine: Table 07-16. -/
def aesRows : List Row := [
  ⟨0x40, 1, 0, 1, 0, 0, 1, .ro, 0x0, [.p, .d, .c]⟩, -- AES_BUSY
  ⟨0x48, 1, 0, 1, 0, 0, 32, .ro, 0x0, [.p, .d, .c]⟩, -- AES_TAG_FAIL
  ⟨0x48, 1, 0, 1, 0, 32, 32, .ro, 0x0, [.p, .d, .c]⟩, -- AES_KW_FAIL
  ⟨0x50, 1, 0, 1, 0, 0, 48, .ro, 0x0, [.p, .d, .c]⟩] -- AES_BYTES

/-- Entropy source and DRBG: Table 07-17. -/
def rngRows : List Row := [
  ⟨0x40, 1, 0, 1, 0, 0, 2, .ro, 0x0, [.p, .d]⟩, -- RNG_STATE
  ⟨0x48, 1, 0, 1, 0, 0, 1, .w1c, 0x0, [.p, .d]⟩, -- RNG_EVT_RCT_FAIL
  ⟨0x48, 1, 0, 1, 0, 1, 1, .w1c, 0x0, [.p, .d]⟩, -- RNG_EVT_APT_FAIL
  ⟨0x50, 1, 0, 1, 0, 0, 32, .ro, 0x0, [.p, .d]⟩, -- RNG_RESEED_CNT
  ⟨0x50, 1, 0, 1, 0, 32, 16, .ro, 0x0, [.p, .d]⟩] -- RNG_GEN_SINCE_RESEED

/-- MCTP and SPDM responder: Table 09-8. -/
def attRows : List Row := [
  ⟨0x40, 1, 0, 1, 0, 0, 64, .ro, 0x0, [.p, .d]⟩, -- ATT_MEAS_GEN
  ⟨0x48, 1, 0, 1, 0, 0, 8, .ro, 0x0, [.p, .d]⟩, -- ATT_ENTRIES
  ⟨0x48, 1, 0, 1, 0, 8, 4, .ro, 0x0, [.p, .d, .i]⟩, -- ATT_SESSIONS
  ⟨0x48, 1, 0, 1, 0, 12, 2, .ro, 0x0, [.p, .d]⟩, -- ATT_ID_STATE
  ⟨0x50, 1, 0, 1, 0, 0, 32, .ro, 0x0, [.p, .d]⟩, -- ATT_REPORTS
  ⟨0x50, 1, 0, 1, 0, 32, 32, .ro, 0x0, [.p, .d]⟩, -- ATT_SPDM_ERR
  ⟨0x58, 1, 0, 1, 0, 0, 32, .ro, 0x0, [.p, .d]⟩, -- ATT_CHUNK_ERR
  ⟨0x58, 1, 0, 1, 0, 32, 32, .ro, 0x0, [.p, .d]⟩, -- ATT_RESYNCH
  ⟨0x60, 1, 0, 1, 0, 0, 8, .ro, 0x0, [.p, .d]⟩, -- ATT_EID_PCIE
  ⟨0x60, 1, 0, 1, 0, 8, 8, .ro, 0x0, [.p, .d]⟩, -- ATT_EID_I3C0
  ⟨0x60, 1, 0, 1, 0, 16, 8, .ro, 0x0, [.p, .d]⟩] -- ATT_EID_I3C1

/-- Relay ports: Table 10-15. -/
def relayRows : List Row := [
  ⟨0x40, 1, 0, 1, 0, 0, 2, .ro, 0x0, [.p, .d, .c]⟩, -- RL_LINK
  ⟨0x40, 1, 0, 1, 0, 8, 8, .ro, 0xFF, [.p, .d, .c]⟩, -- RL_PEER_POS
  ⟨0x40, 1, 0, 1, 0, 16, 16, .ro, 0x0, [.p, .d, .c]⟩, -- RL_DELAY
  ⟨0x40, 1, 0, 1, 0, 32, 32, .ro, 0x0, [.p, .d, .c]⟩, -- RL_DOWN_CNT
  ⟨0x48, 1, 0, 1, 0, 0, 48, .ro, 0x0, [.p, .d, .c]⟩, -- RL_TX_FRAMES
  ⟨0x50, 1, 0, 1, 0, 0, 48, .ro, 0x0, [.p, .d, .c]⟩, -- RL_RX_FRAMES
  ⟨0x58, 1, 0, 1, 0, 0, 32, .ro, 0x0, [.p, .d, .c]⟩, -- RL_CRC_ERR
  ⟨0x58, 1, 0, 1, 0, 32, 32, .ro, 0x0, [.p, .d, .c]⟩] -- RL_RETRIES

/-- Function block: Table 08-2, with the MSI-X table of Table 02-9 in the layout of the PCIe base specification (PRESUMED, log entry 8). -/
def fnRows : List Row := [
  ⟨0x2000, 1, 0, 256, 16, 0, 64, .rw, 0x0, [.p, .d, .f]⟩, -- MSIX_ADDR
  ⟨0x2008, 1, 0, 256, 16, 0, 32, .rw, 0x0, [.p, .d, .f]⟩, -- MSIX_DATA
  ⟨0x200C, 1, 0, 256, 16, 0, 1, .rw, 0x1, [.p, .d, .f]⟩, -- MSIX_MASK
  ⟨0x3000, 1, 0, 4, 8, 0, 64, .ro, 0x0, [.p, .d, .f]⟩, -- MSIX_PBA
  ⟨0x0, 1, 0, 1, 0, 0, 8, .ro, 0x0, [.p]⟩, -- FN_ID_FUNCTION
  ⟨0x0, 1, 0, 1, 0, 8, 1, .ro, 0x0, [.p]⟩, -- FN_ID_PF
  ⟨0x8, 1, 0, 1, 0, 0, 2, .ro, 0x0, [.p, .d, .f]⟩, -- FN_STATE_STATE
  ⟨0x8, 1, 0, 1, 0, 2, 1, .ro, 0x0, [.p, .d, .f]⟩, -- FN_STATE_PENDING_ENABLE
  ⟨0x8, 1, 0, 1, 0, 3, 1, .ro, 0x0, [.p, .d]⟩, -- FN_STATE_RESETTING
  ⟨0x8, 1, 0, 1, 0, 4, 1, .ro, 0x0, [.p, .d, .f]⟩, -- FN_STATE_DROWSY
  ⟨0x8, 1, 0, 1, 0, 5, 1, .ro, 0x0, [.p, .d]⟩, -- FN_STATE_DRIZZLE
  ⟨0x8, 1, 0, 1, 0, 16, 16, .ro, 0x0, [.p, .d, .f]⟩, -- FN_STATE_LAST_RESULT
  ⟨0x8, 1, 0, 1, 0, 32, 16, .ro, 0x0, [.p, .d]⟩, -- FN_STATE_FN_GEN
  ⟨0x10, 1, 0, 1, 0, 0, 2, .wo, 0x0, [.p]⟩, -- FN_CTL_CMD
  ⟨0x18, 1, 0, 1, 0, 0, 32, .rw, 0xC350, [.p, .d, .f]⟩, -- FN_CFG_IDLE_FRAMES
  ⟨0x20, 1, 0, 1, 0, 0, 1, .w1c, 0x0, [.p, .d, .f]⟩, -- FN_EVT_HOST_MEM
  ⟨0x20, 1, 0, 1, 0, 1, 1, .w1c, 0x0, [.p, .d, .f]⟩, -- FN_EVT_RING_ERR
  ⟨0x20, 1, 0, 1, 0, 2, 1, .w1c, 0x0, [.p, .d, .f]⟩, -- FN_EVT_EVT_LOST
  ⟨0x28, 1, 0, 1, 0, 0, 64, .ro, 0x0, [.p, .d, .f]⟩, -- FN_ERR_ADDR
  ⟨0x30, 1, 0, 1, 0, 0, 32, .ro, 0x0, [.p, .d, .f]⟩, -- FN_CNT_EVT_LOST
  ⟨0x30, 1, 0, 1, 0, 32, 32, .ro, 0x0, [.p, .d, .f]⟩, -- FN_CNT_KICKS
  ⟨0x40, 1, 0, 1, 0, 0, 64, .rw, 0x0, [.p, .d, .f]⟩, -- RCT_BASE
  ⟨0x48, 1, 0, 1, 0, 0, 9, .rw, 0x0, [.p, .d, .f]⟩, -- RCT_RINGS
  ⟨0x50, 1, 0, 1, 0, 0, 16, .wo, 0x0, [.p]⟩, -- RING_CTL_RING
  ⟨0x50, 1, 0, 1, 0, 16, 3, .wo, 0x0, [.p]⟩, -- RING_CTL_OP
  ⟨0x58, 1, 0, 1, 0, 0, 16, .ro, 0x0, [.p, .d, .f]⟩, -- RING_RESULT_RING
  ⟨0x58, 1, 0, 1, 0, 16, 16, .ro, 0x0, [.p, .d, .f]⟩, -- RING_RESULT_STATUS
  ⟨0x58, 1, 0, 1, 0, 32, 2, .ro, 0x0, [.p, .d, .f]⟩, -- RING_RESULT_STATE
  ⟨0x58, 1, 0, 1, 0, 34, 1, .ro, 0x0, [.p, .d, .f]⟩, -- RING_RESULT_PENDING_ENABLE
  ⟨0x60, 1, 0, 4, 8, 0, 64, .ro, 0x0, [.p, .d, .f]⟩, -- RING_MAP
  ⟨0x80, 1, 0, 1, 0, 0, 64, .rw, 0x0, [.p, .d, .f]⟩, -- DB_BASE
  ⟨0x100, 1, 0, 1, 0, 0, 8, .rw, 0x0, [.p, .d, .f]⟩, -- FN_INT_VECTOR
  ⟨0x100, 1, 0, 1, 0, 8, 1, .rw, 0x0, [.p, .d, .f]⟩, -- FN_INT_EN
  ⟨0x1000, 1, 0, 1, 0, 0, 32, .wo, 0x0, [.p]⟩] -- FN_KICK

/-- Snowpack: Table 05-6. -/
def spRows : List Row := [
  ⟨0x40, 1, 0, 1, 0, 0, 14, .ro, 0x0, [.p, .d, .c]⟩, -- SP_PART_PIN_USED
  ⟨0x40, 1, 0, 1, 0, 16, 14, .ro, 0x0, [.p, .d, .c]⟩, -- SP_PART_STRBUF
  ⟨0x40, 1, 0, 1, 0, 32, 14, .ro, 0x0, [.p, .d, .c]⟩, -- SP_PART_CACHE
  ⟨0x40, 1, 0, 1, 0, 48, 14, .ro, 0x0, [.p, .d, .c]⟩, -- SP_PART_PENDING
  ⟨0x48, 1, 0, 1, 0, 0, 13, .ro, 0x0, [.p, .d, .c]⟩, -- SP_NODES_USED
  ⟨0x48, 1, 0, 1, 0, 16, 9, .ro, 0x0, [.p, .d, .c]⟩, -- SP_NODES_ROOTED
  ⟨0x50, 1, 0, 1, 0, 0, 1, .ro, 0x0, [.p, .d, .c]⟩, -- SP_STATUS_PIN_BUSY
  ⟨0x50, 1, 0, 1, 0, 1, 1, .ro, 0x0, [.p, .d, .c]⟩, -- SP_STATUS_REFILL
  ⟨0x50, 1, 0, 1, 0, 2, 1, .ro, 0x0, [.p, .d]⟩, -- SP_STATUS_PF_STOPPED
  ⟨0x50, 1, 0, 1, 0, 32, 32, .ro, 0x0, [.p, .d, .c]⟩, -- SP_STATUS_SCRUB_PASSES
  ⟨0x58, 1, 0, 1, 0, 0, 1, .w1c, 0x0, [.p, .d, .c]⟩, -- SP_EVT_ECC_CE
  ⟨0x58, 1, 0, 1, 0, 1, 1, .w1c, 0x0, [.p, .d, .c]⟩, -- SP_EVT_ECC_UE
  ⟨0x58, 1, 0, 1, 0, 2, 1, .w1c, 0x0, [.p, .d, .c]⟩, -- SP_EVT_PIN_DONE
  ⟨0x58, 1, 0, 1, 0, 3, 1, .w1c, 0x0, [.p, .d, .c]⟩, -- SP_EVT_REFILL_DONE
  ⟨0x60, 1, 0, 1, 0, 0, 32, .ro, 0x0, [.p, .d, .c]⟩, -- ECC_CE_CNT
  ⟨0x60, 1, 0, 1, 0, 32, 32, .ro, 0x0, [.p, .d, .c]⟩, -- ECC_UE_CNT
  ⟨0x68, 1, 0, 1, 0, 0, 14, .ro, 0x0, [.p, .d, .c]⟩, -- SP_UE_LOC_INDEX
  ⟨0x68, 1, 0, 1, 0, 14, 1, .ro, 0x0, [.p, .d, .c]⟩, -- SP_UE_LOC_NODE
  ⟨0x68, 1, 0, 1, 0, 32, 32, .ro, 0x0, [.p, .d, .c]⟩, -- SP_UE_LOC_FRAME
  ⟨0x70, 1, 0, 1, 0, 0, 48, .ro, 0x0, [.p, .d, .c]⟩, -- EVICT_CNT
  ⟨0x78, 1, 0, 1, 0, 0, 48, .ro, 0x0, [.p, .d, .c]⟩, -- NODE_MISS_CNT
  ⟨0x80, 1, 0, 1, 0, 0, 48, .ro, 0x0, [.p, .d, .c]⟩] -- PREFETCH_CNT

/-- Port-pair template: Tables 03-9, 04-11, 04-12, 05-7. -/
def ppRows : List Row := [
  ⟨0x40, 1, 0, 1, 0, 0, 1, .ro, 0x0, [.p, .d, .c]⟩, -- PP_CFG_CS_USED0
  ⟨0x40, 1, 0, 1, 0, 1, 1, .ro, 0x0, [.p, .d, .c]⟩, -- PP_CFG_CS_USED1
  ⟨0x40, 1, 0, 1, 0, 2, 2, .ro, 0x0, [.p, .d, .c]⟩, -- PP_CFG_BURST
  ⟨0x40, 1, 0, 1, 0, 4, 1, .ro, 0x0, [.p]⟩, -- PP_CFG_BANK_18
  ⟨0x48, 1, 0, 2, 8, 0, 3, .ro, 0x0, [.p, .d, .c]⟩, -- UP_CFG_START_MODE
  ⟨0x48, 1, 0, 2, 8, 4, 3, .ro, 0x0, [.p, .d, .c]⟩, -- UP_CFG_RUN_MODE
  ⟨0x48, 1, 0, 2, 8, 7, 1, .ro, 0x0, [.p, .d, .c]⟩, -- UP_CFG_CMD_EXT
  ⟨0x48, 1, 0, 2, 8, 8, 5, .ro, 0x0, [.p, .d, .c]⟩, -- UP_CFG_DUMMY_START
  ⟨0x48, 1, 0, 2, 8, 16, 5, .ro, 0x0, [.p, .d, .c]⟩, -- UP_CFG_DUMMY_RUN
  ⟨0x48, 1, 0, 2, 8, 21, 1, .ro, 0x0, [.p, .d, .c]⟩, -- UP_CFG_ADDR4_DEFAULT
  ⟨0x48, 1, 0, 2, 8, 22, 1, .ro, 0x0, [.p, .d, .c]⟩, -- UP_CFG_CONT_EN
  ⟨0x48, 1, 0, 2, 8, 24, 8, .ro, 0x0, [.p, .d, .c]⟩, -- UP_CFG_FREQ_MAX
  ⟨0x48, 1, 0, 2, 8, 32, 5, .ro, 0x0, [.p, .d, .c]⟩, -- UP_CFG_DENSITY_LOG2
  ⟨0x48, 1, 0, 2, 8, 40, 8, .ro, 0x0, [.p, .d, .c]⟩, -- UP_CFG_MODE_SW_OPC
  ⟨0x48, 1, 0, 2, 8, 48, 8, .ro, 0x0, [.p, .d, .c]⟩, -- UP_CFG_MODE_SW_DATA
  ⟨0x58, 1, 0, 2, 8, 0, 3, .ro, 0x0, [.p, .d, .c, .g]⟩, -- UP_STATE_MODE
  ⟨0x58, 1, 0, 2, 8, 3, 1, .ro, 0x0, [.p, .d, .c, .g]⟩, -- UP_STATE_ADDR4
  ⟨0x58, 1, 0, 2, 8, 4, 1, .ro, 0x0, [.p, .d, .c, .g]⟩, -- UP_STATE_WEL
  ⟨0x58, 1, 0, 2, 8, 5, 1, .ro, 0x0, [.p, .d, .c]⟩, -- UP_STATE_WIP
  ⟨0x58, 1, 0, 2, 8, 6, 3, .ro, 0x0, [.p, .d, .c, .g]⟩, -- UP_STATE_WRAP
  ⟨0x58, 1, 0, 2, 8, 9, 1, .ro, 0x0, [.p, .d, .c, .g]⟩, -- UP_STATE_CONT
  ⟨0x58, 1, 0, 2, 8, 10, 1, .ro, 0x0, [.p, .d, .c, .g]⟩, -- UP_STATE_PROG_FAIL
  ⟨0x58, 1, 0, 2, 8, 11, 1, .ro, 0x0, [.p, .d, .c, .g]⟩, -- UP_STATE_ERASE_FAIL
  ⟨0x58, 1, 0, 2, 8, 12, 1, .ro, 0x0, [.p, .d, .c, .g]⟩, -- UP_STATE_PROT
  ⟨0x68, 1, 0, 1, 0, 0, 3, .ro, 0x0, [.p, .d, .c]⟩, -- DN_CFG_MODE
  ⟨0x68, 1, 0, 1, 0, 3, 1, .ro, 0x0, [.p, .d, .c]⟩, -- DN_CFG_ADDR4
  ⟨0x68, 1, 0, 1, 0, 4, 1, .ro, 0x0, [.p, .d, .c]⟩, -- DN_CFG_CMD_EXT
  ⟨0x68, 1, 0, 1, 0, 8, 8, .ro, 0x0, [.p, .d, .c]⟩, -- DN_CFG_FREQ
  ⟨0x68, 1, 0, 1, 0, 16, 5, .ro, 0x0, [.p, .d, .c]⟩, -- DN_CFG_DUMMY
  ⟨0x68, 1, 0, 1, 0, 24, 8, .ro, 0x0, [.p, .d, .c]⟩, -- DN_CFG_BG_FREQ
  ⟨0x68, 1, 0, 1, 0, 32, 8, .ro, 0x0, [.p, .d, .c]⟩, -- DN_CFG_TSHSL
  ⟨0x68, 1, 0, 1, 0, 40, 8, .ro, 0x0, [.p, .d, .c]⟩, -- DN_CFG_READ_OPC
  ⟨0x70, 1, 0, 2, 8, 0, 5, .ro, 0x0, [.p, .d, .c]⟩, -- DN_FLASH_DENSITY_LOG2
  ⟨0x70, 1, 0, 2, 8, 8, 4, .ro, 0x0, [.p, .d, .c]⟩, -- DN_FLASH_PAGE_LOG2
  ⟨0x70, 1, 0, 2, 8, 16, 16, .ro, 0x0, [.p, .d, .c]⟩, -- DN_FLASH_PROG_LIMIT
  ⟨0x70, 1, 0, 2, 8, 32, 32, .ro, 0x0, [.p, .d, .c]⟩, -- DN_FLASH_ERASE_LIMIT
  ⟨0x80, 1, 0, 2, 8, 0, 6, .ro, 0x0, [.p, .d, .c]⟩, -- DQS_TRIM_TAP
  ⟨0x80, 1, 0, 2, 8, 8, 6, .ro, 0x0, [.p, .d, .c]⟩, -- DQS_TRIM_WIN_LO
  ⟨0x80, 1, 0, 2, 8, 16, 6, .ro, 0x0, [.p, .d, .c]⟩, -- DQS_TRIM_WIN_HI
  ⟨0x80, 1, 0, 2, 8, 24, 1, .ro, 0x0, [.p, .d, .c]⟩, -- DQS_TRIM_SRC
  ⟨0x90, 1, 0, 1, 0, 0, 4, .ro, 0x0, [.p, .d, .c]⟩, -- PAD_CAL_DRIVE
  ⟨0x90, 1, 0, 1, 0, 4, 4, .ro, 0x0, [.p, .d, .c]⟩, -- PAD_CAL_ODT
  ⟨0x90, 1, 0, 1, 0, 8, 8, .ro, 0x0, [.p, .d, .c]⟩, -- PAD_CAL_ZQ_CODE
  ⟨0x98, 1, 0, 1, 0, 0, 1, .w1c, 0x0, [.p, .d, .c]⟩, -- PP_EVT_DQS_NARROW
  ⟨0x98, 1, 0, 1, 0, 1, 1, .w1c, 0x0, [.p, .d, .c]⟩, -- PP_EVT_DQS_FAIL
  ⟨0x98, 1, 0, 1, 0, 2, 1, .w1c, 0x0, [.p, .d, .c]⟩, -- PP_EVT_LAT_MISS
  ⟨0x98, 1, 0, 1, 0, 3, 1, .w1c, 0x0, [.p, .d, .c]⟩, -- PP_EVT_UNSUP_CMD
  ⟨0x98, 1, 0, 1, 0, 4, 1, .w1c, 0x0, [.p, .d, .c]⟩, -- PP_EVT_DN_TIMEOUT
  ⟨0xA0, 1, 0, 2, 8, 0, 32, .ro, 0x0, [.p, .d, .c]⟩, -- LAT_MISS_CNT
  ⟨0xB0, 1, 0, 2, 8, 0, 32, .ro, 0x0, [.p, .d, .c]⟩, -- UNSUP_CNT
  ⟨0xC0, 1, 0, 2, 8, 0, 48, .ro, 0x0, [.p, .d, .c]⟩, -- FWD_RD_CNT
  ⟨0xD0, 1, 0, 1, 0, 0, 32, .ro, 0x0, [.p, .d, .c]⟩, -- BURST_ABORT_CNT
  ⟨0x3040, 1, 0, 1, 0, 0, 1, .ro, 0x0, [.p, .d, .c]⟩, -- WB_CTL_ENABLE
  ⟨0x3040, 1, 0, 1, 0, 1, 1, .ro, 0x0, [.p, .d, .c]⟩, -- WB_CTL_PAIRED
  ⟨0x3048, 1, 0, 1, 0, 0, 2, .ro, 0x0, [.p, .d, .c]⟩, -- WB_STATUS_STAGED
  ⟨0x3048, 1, 0, 1, 0, 2, 2, .ro, 0x0, [.p, .d, .c]⟩, -- WB_STATUS_PIN_WAIT
  ⟨0x3048, 1, 0, 1, 0, 4, 1, .ro, 0x0, [.p, .d, .c]⟩, -- WB_STATUS_PAIR_STAGED
  ⟨0x3048, 1, 0, 1, 0, 5, 1, .ro, 0x0, [.p, .d, .c]⟩, -- WB_STATUS_HOLD
  ⟨0x3050, 1, 0, 2, 8, 0, 6, .ro, 0x0, [.p, .d, .c]⟩, -- WB_CS_REGION_COUNT
  ⟨0x3050, 1, 0, 2, 8, 8, 5, .ro, 0x0, [.p, .d, .c]⟩, -- WB_CS_WINDOW_COUNT
  ⟨0x3050, 1, 0, 2, 8, 13, 2, .ro, 0x0, [.p, .d, .c]⟩, -- WB_CS_WRSR_MODE
  ⟨0x3050, 1, 0, 2, 8, 16, 6, .ro, 0x0, [.p, .d, .c, .g]⟩, -- WB_CS_WP_VIEW
  ⟨0x3050, 1, 0, 2, 8, 32, 32, .ro, 0xFFFFFFFF, [.p, .d, .c]⟩, -- WB_CS_FILL
  ⟨0x3060, 1, 0, 1, 0, 0, 1, .w1c, 0x0, [.p, .d, .c]⟩, -- WB_EVT_BLOCKED
  ⟨0x3060, 1, 0, 1, 0, 1, 1, .w1c, 0x0, [.p, .d, .c]⟩, -- WB_EVT_FILLED
  ⟨0x3060, 1, 0, 1, 0, 2, 1, .w1c, 0x0, [.p, .d, .c]⟩, -- WB_EVT_SWAPPED
  ⟨0x3060, 1, 0, 1, 0, 3, 1, .w1c, 0x0, [.p, .d, .c]⟩, -- WB_EVT_STAGED
  ⟨0x3060, 1, 0, 1, 0, 4, 1, .w1c, 0x0, [.p, .d, .c]⟩, -- WB_EVT_DISAGREE
  ⟨0x3080, 1, 0, 2, 8, 0, 48, .ro, 0x0, [.p, .d, .c]⟩, -- BLOCK_CNT
  ⟨0x3090, 1, 0, 2, 8, 0, 48, .ro, 0x0, [.p, .d, .c]⟩, -- FILL_CNT
  ⟨0x30A0, 1, 0, 2, 8, 0, 48, .ro, 0x0, [.p, .d, .c]⟩, -- EMU_CNT
  ⟨0x30B0, 1, 0, 2, 8, 0, 48, .ro, 0x0, [.p, .d, .c]⟩, -- FWD_CNT
  ⟨0x30C0, 1, 0, 2, 8, 0, 8, .ro, 0x0, [.p, .d, .c]⟩, -- LAST_BLOCK_OPC
  ⟨0x30C0, 1, 0, 2, 8, 8, 4, .ro, 0x0, [.p, .d, .c]⟩, -- LAST_BLOCK_CLASS
  ⟨0x30C0, 1, 0, 2, 8, 16, 32, .ro, 0x0, [.p, .d, .c]⟩, -- LAST_BLOCK_ADDR
  ⟨0x3100, 2, 512, 32, 16, 0, 32, .ro, 0x0, [.p, .d, .c]⟩, -- REGION_BASE
  ⟨0x3100, 2, 512, 32, 16, 32, 32, .ro, 0x0, [.p, .d, .c]⟩, -- REGION_LIMIT
  ⟨0x3108, 2, 512, 32, 16, 0, 2, .ro, 0x0, [.p, .d, .c]⟩, -- REGION_CLASS
  ⟨0x3108, 2, 512, 32, 16, 2, 1, .ro, 0x0, [.p, .d, .c]⟩, -- REGION_ACTION
  ⟨0x3108, 2, 512, 32, 16, 3, 1, .ro, 0x0, [.p, .d, .c]⟩, -- REGION_DEGRADED
  ⟨0x3108, 2, 512, 32, 16, 4, 2, .ro, 0x0, [.p, .d, .c]⟩, -- REGION_ROLE
  ⟨0x3500, 2, 256, 16, 16, 0, 32, .ro, 0x0, [.p, .d, .c]⟩, -- WINDOW_BASE
  ⟨0x3500, 2, 256, 16, 16, 32, 32, .ro, 0x0, [.p, .d, .c]⟩, -- WINDOW_LIMIT
  ⟨0x3508, 2, 256, 16, 16, 0, 2, .ro, 0x0, [.p, .d, .c]⟩, -- WINDOW_PERM
  ⟨0x3508, 2, 256, 16, 16, 8, 5, .ro, 0x0, [.p, .d, .c]⟩, -- WINDOW_REGION
  ⟨0x3840, 1, 0, 2, 8, 0, 32, .ro, 0x0, [.p, .d, .c]⟩, -- DIS_CNT
  ⟨0x3850, 1, 0, 1, 0, 0, 8, .ro, 0x0, [.p, .d, .c]⟩, -- LAST_DIS_OPC
  ⟨0x3850, 1, 0, 1, 0, 8, 1, .ro, 0x0, [.p, .d, .c]⟩, -- LAST_DIS_CS
  ⟨0x3850, 1, 0, 1, 0, 10, 2, .ro, 0x0, [.p, .d, .c]⟩, -- LAST_DIS_DEC_A
  ⟨0x3850, 1, 0, 1, 0, 12, 2, .ro, 0x0, [.p, .d, .c]⟩, -- LAST_DIS_DEC_B
  ⟨0x3850, 1, 0, 1, 0, 16, 32, .ro, 0x0, [.p, .d, .c]⟩, -- LAST_DIS_ADDR
  ⟨0x4000, 1, 0, 2, 8, 0, 12, .ro, 0x100, [.p, .d, .c]⟩, -- VF_CFG_HORIZON
  ⟨0x4000, 1, 0, 2, 8, 12, 1, .ro, 0x0, [.p, .d, .c]⟩, -- VF_CFG_ANY_STREAMED
  ⟨0x4000, 1, 0, 2, 8, 13, 1, .ro, 0x0, [.p, .d, .c]⟩, -- VF_CFG_ANY_SEALED
  ⟨0x4010, 1, 0, 2, 8, 0, 6, .ro, 0x0, [.p, .d, .c]⟩, -- VF_STATE_DEPTH
  ⟨0x4010, 1, 0, 2, 8, 8, 6, .ro, 0x0, [.p, .d, .c]⟩, -- VF_STATE_DEPTH_HIGH
  ⟨0x4010, 1, 0, 2, 8, 16, 12, .ro, 0x0, [.p, .d, .c]⟩, -- VF_STATE_OLDEST_AGE
  ⟨0x4020, 1, 0, 1, 0, 0, 1, .w1c, 0x0, [.p, .d, .c]⟩, -- VF_EVT_MISMATCH
  ⟨0x4020, 1, 0, 1, 0, 1, 1, .w1c, 0x0, [.p, .d, .c]⟩, -- VF_EVT_NODE_MISMATCH
  ⟨0x4020, 1, 0, 1, 0, 2, 1, .w1c, 0x0, [.p, .d, .c]⟩, -- VF_EVT_OVERFLOW
  ⟨0x4020, 1, 0, 1, 0, 3, 1, .w1c, 0x0, [.p, .d, .c]⟩, -- VF_EVT_EXPIRY
  ⟨0x4020, 1, 0, 1, 0, 4, 1, .w1c, 0x0, [.p, .d, .c]⟩, -- VF_EVT_UNCHECKED
  ⟨0x4020, 1, 0, 1, 0, 5, 1, .w1c, 0x0, [.p, .d, .c]⟩, -- VF_EVT_CONTAINED
  ⟨0x4028, 1, 0, 1, 0, 0, 4, .ro, 0x0, [.p]⟩, -- VF_PAIR_SNOOP_LANE
  ⟨0x4028, 1, 0, 1, 0, 4, 1, .ro, 0x0, [.p, .d, .c]⟩, -- VF_PAIR_STEP_SUSPENDED
  ⟨0x4030, 1, 0, 2, 8, 0, 17, .ro, 0x0, [.p, .d, .c]⟩, -- VF_LAST_GRANULE
  ⟨0x4030, 1, 0, 2, 8, 17, 2, .ro, 0x0, [.p, .d, .c]⟩, -- VF_LAST_CAUSE
  ⟨0x4030, 1, 0, 2, 8, 19, 1, .ro, 0x0, [.p, .d, .c]⟩, -- VF_LAST_ACTION
  ⟨0x4030, 1, 0, 2, 8, 20, 12, .ro, 0x0, [.p, .d, .c]⟩, -- VF_LAST_AGE
  ⟨0x4030, 1, 0, 2, 8, 32, 32, .ro, 0x0, [.p, .d, .c]⟩, -- VF_LAST_FRAME
  ⟨0x4040, 1, 0, 2, 8, 0, 48, .ro, 0x0, [.p, .d, .c]⟩, -- CHECK_OK_CNT
  ⟨0x4050, 1, 0, 2, 8, 0, 48, .ro, 0x0, [.p, .d, .c]⟩, -- MISMATCH_CNT
  ⟨0x4060, 1, 0, 2, 8, 0, 48, .ro, 0x0, [.p, .d, .c]⟩, -- OVERFLOW_CNT
  ⟨0x4070, 1, 0, 2, 8, 0, 48, .ro, 0x0, [.p, .d, .c]⟩, -- EXPIRY_CNT
  ⟨0x4080, 1, 0, 2, 8, 0, 48, .ro, 0x0, [.p, .d, .c]⟩, -- DISCARD_CNT
  ⟨0x4090, 1, 0, 2, 8, 0, 48, .ro, 0x0, [.p, .d, .c]⟩, -- HIT_CNT
  ⟨0x4200, 2, 256, 32, 8, 0, 1, .ro, 0x0, [.p, .d, .c]⟩, -- PC_VALID
  ⟨0x4200, 2, 256, 32, 8, 1, 1, .ro, 0x0, [.p, .d, .c]⟩, -- PC_ACTION
  ⟨0x4200, 2, 256, 32, 8, 2, 1, .ro, 0x0, [.p, .d, .c]⟩, -- PC_PATH_OK
  ⟨0x4200, 2, 256, 32, 8, 4, 8, .ro, 0x0, [.p, .d, .c]⟩, -- PC_LINES
  ⟨0x4200, 2, 256, 32, 8, 16, 12, .ro, 0x0, [.p, .d, .c]⟩, -- PC_AGE
  ⟨0x4200, 2, 256, 32, 8, 32, 17, .ro, 0x0, [.p, .d, .c]⟩] -- PC_GRANULE

/-- The cell header: the fields of Table 02-4 that are state. Identification and links are computed. -/
def hdrRows : List Row := [
  ⟨0x10, 1, 0, 1, 0, 0, 2, .ro, 0x0, [.p, .d]⟩, -- STATE
  ⟨0x10, 1, 0, 1, 0, 2, 1, .ro, 0x0, [.p, .d]⟩, -- PENDING_ENABLE
  ⟨0x10, 1, 0, 1, 0, 3, 1, .ro, 0x0, [.p, .d, .c]⟩, -- FAULT
  ⟨0x10, 1, 0, 1, 0, 16, 16, .ro, 0x0, [.p, .d, .c]⟩, -- LAST_RESULT
  ⟨0x18, 1, 0, 1, 0, 0, 3, .wo, 0x0, [.p]⟩, -- CMD
  ⟨0x18, 1, 0, 1, 0, 8, 1, .rw, 0x0, [.p, .d, .c]⟩, -- EVT_REPORT
  ⟨0x28, 1, 0, 1, 0, 0, 1, .w1c, 0x0, [.p, .d, .c]⟩, -- STARTED
  ⟨0x28, 1, 0, 1, 0, 1, 1, .w1c, 0x0, [.p, .d, .c]⟩, -- STOPPED
  ⟨0x28, 1, 0, 1, 0, 2, 1, .w1c, 0x0, [.p, .d, .c]⟩, -- DRAIN_FORCED
  ⟨0x28, 1, 0, 1, 0, 3, 1, .w1c, 0x0, [.p, .d, .c]⟩, -- OFF_ACCESS
  ⟨0x28, 1, 0, 1, 0, 4, 1, .w1c, 0x0, [.p, .d, .c]⟩, -- START_FAIL
  ⟨0x28, 1, 0, 1, 0, 5, 1, .w1c, 0x0, [.p, .d, .c]⟩, -- BIST_DONE
  ⟨0x30, 1, 0, 1, 0, 0, 2, .rw, 0x0, [.p, .d]⟩, -- MODE
  ⟨0x30, 1, 0, 1, 0, 4, 1, .ro, 0x0, [.p, .d]⟩, -- DOMAIN_ON
  ⟨0x38, 1, 0, 1, 0, 0, 1, .wo, 0x0, [.p]⟩, -- RUN
  ⟨0x38, 1, 0, 1, 0, 1, 3, .ro, 0x0, [.p, .d, .c]⟩, -- RESULT
  ⟨0x38, 1, 0, 1, 0, 16, 16, .rw, 0x9C4, [.p, .d]⟩] -- BUDGET

/-- The rows that describe a byte address of PF0 BAR0 or of a function's pseudo block, and the address in the block. -/
def blockOf (a : Nat) : List Row × Nat :=
  if a < 0x10000 then
    if 0x1000 ≤ a ∧ a < 0x2800 then (compRows, (a - 0x1000) % 0x40)
    else if (cellAt a).isSome then (hdrRows, a % 64) else (devRows, a)
  else if (cellAt a).isSome then (hdrRows, a % 64)
  else if a < 0x20000 then (fsRows, a - 0x10000)
  else if a < 0x40000 then
    if a < 0x21000 then (otpRows, a - 0x20000) else if a < 0x22000 then (lcRows, a - 0x21000)
    else if a < 0x23000 then (dbgRows, a - 0x22000) else if a < 0x24000 then (wdtRows, a - 0x23000)
    else if a < 0x25000 then (baroRows, a - 0x24000) else if a < 0x26000 then (cntRows, a - 0x25000)
    else if a < 0x27000 then (bistRows, a - 0x26000) else (monRows, a - 0x27000)
  else if a < 0x80000 then
    if a < 0x40400 then (crRows, a - 0x40000)
    else if a < 0x45400 then (laneRows, (a - 0x40400) % 0x400)
    else if a < 0x4C000 then (ksRows, a - 0x48000) else if a < 0x4E000 then (seRows, a - 0x4C000)
    else if a < 0x4F000 then (aesRows, a - 0x4E000) else (rngRows, a - 0x4F000)
  else if a < 0x100000 then
    if 0x88000 ≤ a ∧ a < 0x8C000 then (attRows, a - 0x88000)
    else if 0x8E000 ≤ a ∧ a < 0x8E800 then (relayRows, (a - 0x8E000) % 0x400)
    else if 0x90000 ≤ a ∧ a < 0x94000 then (fnRows, a - 0x90000) else ([], a)
  else if a < 0x200000 then (spRows, a - 0x100000)
  else if a < 0x1000000 then ([], a)
  else if a < 0x1300000 then (ppRows, a % 0x10000)
  else if 0x10000000 ≤ a then (fnRows, (a - 0x10000000) % 0x4000)
  else ([], a)

/-- The row that describes the field at a bit address. -/
def rowAt (b : Nat) : Option Row :=
  let k := blockOf (b / 64 * 8)
  k.1.find? fun r => r.hits (8 * k.2 + b % 64)

/-- The value a field takes at reset: its row's value, and for the three replicated constants the value their table gives
per instance (FN_ID, R259; KS_SLOT.DEVICE, R232; VF_PAIR.SNOOP_LANE, R158), and for CELL_STATE.STATE the value of R468 (the digest
unit OFF with the Crypto complex that it follows, DEDUCED: log entry 79). -/
def resetVal (b : Nat) : Nat :=
  let a := b / 64 * 8
  if 0x10000000 ≤ a ∧ b % 0x20000 = 0 then (a - 0x10000000) / 0x4000
  else if b = 8 * 0x90000 + 8 then 1
  else if 0x49000 ≤ a ∧ a < 0x49200 ∧ b % 64 = 40 then 1
  else if 0x1000000 ≤ a ∧ a < 0x1300000 ∧ a % 0x10000 = 0x4028 ∧ b % 64 = 0 then (a - 0x1000000) / 0x10000 % 16
  else if a % 64 = 0x10 ∧ b % 64 = 0 ∧ (cellAt a).any (fun c => !c.capETable && c ≠ .digest) then 2
  else match rowAt b with
    | some r => r.reset
    | none => 0

/-- The reset kinds that load the field at a bit address. -/
def kindsAt (b : Nat) : List Kind :=
  match rowAt b with
  | some r => r.kinds
  | none => []

namespace Reg

/-! Header fields (Table 02-4) of the cell whose header lies at offset h. -/

def CELL_STATE (h : Nat) : Fld := ⟨8 * (h + 0x10) + 0, 2⟩
def CELL_PENDING_ENABLE (h : Nat) : Fld := ⟨8 * (h + 0x10) + 2, 1⟩
def CELL_FAULT (h : Nat) : Fld := ⟨8 * (h + 0x10) + 3, 1⟩
def CELL_LAST_RESULT (h : Nat) : Fld := ⟨8 * (h + 0x10) + 16, 16⟩
def CELL_EVT_REPORT (h : Nat) : Fld := ⟨8 * (h + 0x18) + 8, 1⟩
def CELL_EVT_STARTED (h : Nat) : Fld := ⟨8 * (h + 0x28) + 0, 1⟩
def CELL_EVT_STOPPED (h : Nat) : Fld := ⟨8 * (h + 0x28) + 1, 1⟩
def CELL_EVT_DRAIN_FORCED (h : Nat) : Fld := ⟨8 * (h + 0x28) + 2, 1⟩
def CELL_EVT_OFF_ACCESS (h : Nat) : Fld := ⟨8 * (h + 0x28) + 3, 1⟩
def CELL_EVT_START_FAIL (h : Nat) : Fld := ⟨8 * (h + 0x28) + 4, 1⟩
def CELL_EVT_BIST_DONE (h : Nat) : Fld := ⟨8 * (h + 0x28) + 5, 1⟩
def CELL_PWR_MODE (h : Nat) : Fld := ⟨8 * (h + 0x30) + 0, 2⟩
def CELL_PWR_DOMAIN_ON (h : Nat) : Fld := ⟨8 * (h + 0x30) + 4, 1⟩
def CELL_BIST_RESULT (h : Nat) : Fld := ⟨8 * (h + 0x38) + 1, 3⟩
def CELL_BIST_BUDGET (h : Nat) : Fld := ⟨8 * (h + 0x38) + 16, 16⟩

/-! MSI-X table and pending-bit array of function f, vector v (Table 02-9) -/

def MSIX_ADDR (f v : Nat) : Fld := ⟨8 * (fnBase f + 0x2000 + 16 * v), 64⟩
def MSIX_DATA (f v : Nat) : Fld := ⟨8 * (fnBase f + 0x2008 + 16 * v), 32⟩
def MSIX_MASK (f v : Nat) : Fld := ⟨8 * (fnBase f + 0x200C + 16 * v), 1⟩
def MSIX_PBA (f w : Nat) : Fld := ⟨8 * (fnBase f + 0x3000 + 8 * w), 64⟩

/-! Fields of Table 00-2 -/

def DEVICE_ID_PART : Fld := ⟨8 * (0x40) + 16, 16⟩
def DEVICE_ID_STEP_MAJOR : Fld := ⟨8 * (0x40) + 4, 4⟩
def DEVICE_ID_STEP_MINOR : Fld := ⟨8 * (0x40) + 0, 4⟩

/-! Fields of Table 04-10 -/

def POL_STATUS_STATE : Fld := ⟨8 * (0x400) + 0, 2⟩
def POL_STATUS_COPY : Fld := ⟨8 * (0x400) + 2, 1⟩
def POL_STATUS_ORIGIN : Fld := ⟨8 * (0x400) + 3, 1⟩
def POL_STATUS_LAST_LOAD : Fld := ⟨8 * (0x400) + 16, 16⟩
def POL_SEQ : Fld := ⟨8 * (0x408) + 0, 32⟩
def POL_SVN : Fld := ⟨8 * (0x408) + 32, 8⟩
def POL_FUSED_SVN : Fld := ⟨8 * (0x408) + 40, 8⟩
def POL_DIGEST (i : Nat) : Fld := ⟨8 * (0x410 + 8 * i) + 0, 64⟩

/-! Fields of Table 06-8 -/

def DEV_START_TICK : Fld := ⟨8 * (0x800) + 0, 32⟩
def DEV_LAST_RELEASE : Fld := ⟨8 * (0x800) + 32, 32⟩
def RELEASED_MAP (w : Nat) : Fld := ⟨8 * (0x810 + 8 * w) + 0, 64⟩
def QUARANTINE_MAP (w : Nat) : Fld := ⟨8 * (0x820 + 8 * w) + 0, 64⟩

/-! Fields of Table 10-13 -/

def FW_STATE : Fld := ⟨8 * (0xC00) + 0, 3⟩
def FW_TRIAL_STARTS : Fld := ⟨8 * (0xC00) + 3, 2⟩
def FW_SOURCE : Fld := ⟨8 * (0xC00) + 5, 3⟩
def FW_SETTINGS_RESET : Fld := ⟨8 * (0xC00) + 8, 1⟩
def FW_LAST_RESULT : Fld := ⟨8 * (0xC00) + 16, 16⟩
def FW_VERSION : Fld := ⟨8 * (0xC08) + 0, 32⟩
def FW_SVN : Fld := ⟨8 * (0xC08) + 32, 8⟩
def FW_FUSED_SVN : Fld := ⟨8 * (0xC08) + 40, 8⟩
def FW_RETREAT_VERSION : Fld := ⟨8 * (0xC10) + 0, 32⟩
def FW_HEALTH_LEFT : Fld := ⟨8 * (0xC10) + 32, 32⟩
def FW_HEALTH_FRAMES : Fld := ⟨8 * (0xC18) + 0, 32⟩
def CH_POSITION : Fld := ⟨8 * (0xD00) + 0, 6⟩
def CH_UNITS : Fld := ⟨8 * (0xD00) + 8, 7⟩
def CH_HEAD : Fld := ⟨8 * (0xD00) + 16, 1⟩
def CH_SYNCED : Fld := ⟨8 * (0xD00) + 17, 1⟩
def CH_CHAIN_TIME : Fld := ⟨8 * (0xD08) + 0, 64⟩
def CH_SYNC_ERR : Fld := ⟨8 * (0xD10) + 0, 16⟩
def CH_SYNC_AGE : Fld := ⟨8 * (0xD10) + 32, 16⟩
def FRONT_STATE : Fld := ⟨8 * (0xD18) + 0, 4⟩
def FRONT_LAST_STATUS : Fld := ⟨8 * (0xD18) + 16, 16⟩
def FRONT_SEQ : Fld := ⟨8 * (0xD18) + 32, 32⟩
def FRONT_LANDFALL : Fld := ⟨8 * (0xD20) + 0, 64⟩
def FRONT_CHUNKS_OK : Fld := ⟨8 * (0xD28) + 0, 32⟩
def FRONT_CHUNKS_RETRIED : Fld := ⟨8 * (0xD28) + 32, 32⟩
def FRONT_ARMED_MAP : Fld := ⟨8 * (0xD30) + 0, 64⟩
def FRONT_LANDED_MAP : Fld := ⟨8 * (0xD38) + 0, 64⟩

/-! Fields of Table 10-14 -/

def REC_STATE : Fld := ⟨8 * (0xE00) + 0, 3⟩
def REC_SOURCE : Fld := ⟨8 * (0xE00) + 3, 3⟩
def REC_LAST_STATUS : Fld := ⟨8 * (0xE00) + 16, 16⟩
def REC_LEN : Fld := ⟨8 * (0xE08) + 0, 32⟩
def REC_OXM_LEN : Fld := ⟨8 * (0xE08) + 32, 32⟩
def REC_RECEIVED : Fld := ⟨8 * (0xE10) + 0, 32⟩
def REC_CTL_START : Fld := ⟨8 * (0xE18) + 0, 1⟩
def REC_CTL_PUSH : Fld := ⟨8 * (0xE18) + 1, 1⟩
def REC_CTL_FINISH : Fld := ⟨8 * (0xE18) + 2, 1⟩
def REC_CTL_ABORT : Fld := ⟨8 * (0xE18) + 3, 1⟩
def REC_CTL_PUSH_LEN : Fld := ⟨8 * (0xE18) + 16, 13⟩
def REC_DATA (i : Nat) : Fld := ⟨8 * (0x6000 + 8 * i) + 0, 64⟩

/-! Fields of Table 13-8 -/

def PAIR_STATE : Fld := ⟨8 * (0x8840) + 0, 3⟩
def PAIR_BOUND : Fld := ⟨8 * (0x8840) + 3, 1⟩
def PAIR_ROLE : Fld := ⟨8 * (0x8840) + 4, 1⟩
def PAIR_YIELDED : Fld := ⟨8 * (0x8840) + 5, 1⟩
def PAIR_LAST_STATUS : Fld := ⟨8 * (0x8840) + 16, 16⟩
def PAIR_PARTNER_SERIAL (i : Nat) : Fld := ⟨8 * (0x8848 + 8 * i) + 0, 64⟩
def VAULT_GEN : Fld := ⟨8 * (0x8858) + 0, 64⟩
def VAULT_LAST_WRITE : Fld := ⟨8 * (0x8860) + 0, 32⟩
def VAULT_PASS : Fld := ⟨8 * (0x8860) + 32, 32⟩
def VAULT_LIFE_DAYS : Fld := ⟨8 * (0x8868) + 0, 32⟩
def VAULT_DIRTY : Fld := ⟨8 * (0x8868) + 32, 1⟩
def VAULT_WEAR_LOW : Fld := ⟨8 * (0x8868) + 33, 1⟩
def VAULT_ENDURANCE : Fld := ⟨8 * (0x8870) + 0, 32⟩
def TK_START : Fld := ⟨8 * (0x8878) + 0, 32⟩
def TK_DONE : Fld := ⟨8 * (0x8878) + 32, 32⟩
def TK_GEN : Fld := ⟨8 * (0x8880) + 0, 64⟩

/-! Fields of Table 06-9 -/

def COMP_STATUS_STATE (n : Nat) : Fld := ⟨8 * (0x1000 + 0x40 * n) + 0, 3⟩
def COMP_STATUS_READY (n : Nat) : Fld := ⟨8 * (0x1000 + 0x40 * n) + 3, 1⟩
def COMP_STATUS_RELEASE (n : Nat) : Fld := ⟨8 * (0x1000 + 0x40 * n) + 4, 1⟩
def COMP_STATUS_KEY_STALE (n : Nat) : Fld := ⟨8 * (0x1000 + 0x40 * n) + 5, 1⟩
def COMP_STATUS_FORCED (n : Nat) : Fld := ⟨8 * (0x1000 + 0x40 * n) + 6, 1⟩
def COMP_STATUS_HOLD (n : Nat) : Fld := ⟨8 * (0x1000 + 0x40 * n) + 8, 6⟩
def COMP_STATUS_GOLDEN (n : Nat) : Fld := ⟨8 * (0x1000 + 0x40 * n) + 16, 3⟩
def COMP_STATUS_LAST_STATUS (n : Nat) : Fld := ⟨8 * (0x1000 + 0x40 * n) + 32, 16⟩
def COMP_OXM_SVN (n : Nat) : Fld := ⟨8 * (0x1008 + 0x40 * n) + 0, 8⟩
def COMP_OXM_FLOOR (n : Nat) : Fld := ⟨8 * (0x1008 + 0x40 * n) + 8, 8⟩
def COMP_OXM_SLOT (n : Nat) : Fld := ⟨8 * (0x1008 + 0x40 * n) + 16, 3⟩
def COMP_OXM_FLOOR_LOST (n : Nat) : Fld := ⟨8 * (0x1008 + 0x40 * n) + 19, 1⟩
def COMP_OXM_GOLDEN_SVN (n : Nat) : Fld := ⟨8 * (0x1008 + 0x40 * n) + 24, 8⟩
def COMP_OXM_GOLDEN_SLOT (n : Nat) : Fld := ⟨8 * (0x1008 + 0x40 * n) + 32, 3⟩
def COMP_TIME_VERIFY_START (n : Nat) : Fld := ⟨8 * (0x1010 + 0x40 * n) + 0, 32⟩
def COMP_TIME_RELEASED (n : Nat) : Fld := ⟨8 * (0x1010 + 0x40 * n) + 32, 32⟩
def COMP_THAW_COUNT (n : Nat) : Fld := ⟨8 * (0x1018 + 0x40 * n) + 0, 2⟩
def COMP_THAW_PASS (n : Nat) : Fld := ⟨8 * (0x1018 + 0x40 * n) + 2, 2⟩
def COMP_THAW_LAST_RESULT (n : Nat) : Fld := ⟨8 * (0x1018 + 0x40 * n) + 16, 16⟩
def COMP_THAW_UNITS_WRITTEN (n : Nat) : Fld := ⟨8 * (0x1020 + 0x40 * n) + 0, 32⟩
def COMP_THAW_UNITS_SKIPPED (n : Nat) : Fld := ⟨8 * (0x1020 + 0x40 * n) + 32, 32⟩
def COMP_CFG_HOLD_MIN (n : Nat) : Fld := ⟨8 * (0x1028 + 0x40 * n) + 0, 16⟩
def COMP_EVT_RELEASED (n : Nat) : Fld := ⟨8 * (0x1030 + 0x40 * n) + 0, 1⟩
def COMP_EVT_HELD (n : Nat) : Fld := ⟨8 * (0x1030 + 0x40 * n) + 1, 1⟩
def COMP_EVT_THAW_START (n : Nat) : Fld := ⟨8 * (0x1030 + 0x40 * n) + 2, 1⟩
def COMP_EVT_THAW_DONE (n : Nat) : Fld := ⟨8 * (0x1030 + 0x40 * n) + 3, 1⟩
def COMP_EVT_QUARANTINED (n : Nat) : Fld := ⟨8 * (0x1030 + 0x40 * n) + 4, 1⟩
def COMP_EVT_KEY_STALE (n : Nat) : Fld := ⟨8 * (0x1030 + 0x40 * n) + 5, 1⟩
def COMP_EVT_GOLDEN (n : Nat) : Fld := ⟨8 * (0x1030 + 0x40 * n) + 6, 1⟩
def COMP_CNT_RESET_REQ_CNT (n : Nat) : Fld := ⟨8 * (0x1038 + 0x40 * n) + 0, 32⟩
def COMP_CNT_RELEASE_CNT (n : Nat) : Fld := ⟨8 * (0x1038 + 0x40 * n) + 32, 32⟩

/-! Fields of Table 02-7 -/

def FS_FRAME_CNT : Fld := ⟨8 * (0x10040) + 0, 64⟩
def FS_STATUS_OVERRUN : Fld := ⟨8 * (0x10048) + 0, 1⟩
def FS_STATUS_OVR_SLOT : Fld := ⟨8 * (0x10048) + 1, 5⟩
def FS_OVR_CNT : Fld := ⟨8 * (0x10050) + 0, 32⟩
def FS_PILOT_LOAD0 : Fld := ⟨8 * (0x10058) + 0, 16⟩
def FS_PILOT_LOAD1 : Fld := ⟨8 * (0x10058) + 16, 16⟩
def FS_PILOT_LOAD2 : Fld := ⟨8 * (0x10058) + 32, 16⟩
def FS_PILOT_LOAD3 : Fld := ⟨8 * (0x10058) + 48, 16⟩
def FS_LULL_LOAD : Fld := ⟨8 * (0x10060) + 0, 7⟩
def FS_PROFILE : Fld := ⟨8 * (0x10068) + 0, 1⟩
def FS_IC_CFG_DEBOUNCE (k : Nat) : Fld := ⟨8 * (0x10100 + 4 * k) + 0, 4⟩
def FS_IC_CFG_STUCK_LIMIT (k : Nat) : Fld := ⟨8 * (0x10100 + 4 * k) + 16, 16⟩
def FS_IC_LEVEL (w : Nat) : Fld := ⟨8 * (0x10300 + 4 * w) + 0, 32⟩
def FS_IC_CHATTER (w : Nat) : Fld := ⟨8 * (0x10320 + 4 * w) + 0, 32⟩
def FS_IC_STUCK (w : Nat) : Fld := ⟨8 * (0x10340 + 4 * w) + 0, 32⟩

/-! Fields of Table 11-10 -/

def OTP_STATUS_VQPS_OK : Fld := ⟨8 * (0x20040) + 0, 1⟩
def OTP_STATUS_PUMP_OK : Fld := ⟨8 * (0x20040) + 1, 1⟩
def OTP_STATUS_BUSY : Fld := ⟨8 * (0x20040) + 2, 1⟩
def OTP_STATUS_WEAK_SEEN : Fld := ⟨8 * (0x20040) + 3, 1⟩
def OTP_STATUS_WEAK_SECURITY : Fld := ⟨8 * (0x20040) + 4, 1⟩
def OTP_STATUS_REPAIR_WAIT : Fld := ⟨8 * (0x20040) + 5, 1⟩
def OTP_STATUS_INTEGRITY_FAIL : Fld := ⟨8 * (0x20040) + 6, 1⟩
def OTP_STATUS_LAST_STATUS : Fld := ⟨8 * (0x20040) + 16, 16⟩
def OTP_REGION_STATE : Fld := ⟨8 * (0x20048) + 0, 64⟩
def OTP_RLOCK_MAP : Fld := ⟨8 * (0x20050) + 0, 32⟩
def OTP_WEAK_CNT : Fld := ⟨8 * (0x20058) + 0, 32⟩
def OTP_RECHECK_PASSES : Fld := ⟨8 * (0x20058) + 32, 32⟩
def OTP_LAST_WEAK_WORD : Fld := ⟨8 * (0x20060) + 0, 11⟩
def OTP_LAST_WEAK_FRAME : Fld := ⟨8 * (0x20060) + 32, 32⟩
def OTP_PULSE_CNT : Fld := ⟨8 * (0x20068) + 0, 32⟩
def OTP_FAIL_CNT : Fld := ⟨8 * (0x20068) + 32, 32⟩
def OTP_EVT_SEAL_BAD : Fld := ⟨8 * (0x20070) + 0, 1⟩
def OTP_REPAIR_CTL_GO : Fld := ⟨8 * (0x20080) + 0, 1⟩

/-! Fields of Table 11-11 -/

def LC_STATE_STATE : Fld := ⟨8 * (0x21040) + 0, 2⟩
def LC_STATE_REPAIR : Fld := ⟨8 * (0x21040) + 2, 1⟩
def LC_STATE_APPROVED : Fld := ⟨8 * (0x21040) + 3, 1⟩
def LC_STATE_ZEROISED : Fld := ⟨8 * (0x21040) + 4, 1⟩
def LC_STATE_LAST_STATUS : Fld := ⟨8 * (0x21040) + 16, 16⟩
def LC_CONFIG_BOOT_ORDER : Fld := ⟨8 * (0x21048) + 0, 3⟩
def LC_CONFIG_COSIGN_REQ : Fld := ⟨8 * (0x21048) + 3, 1⟩
def LC_CONFIG_APPROVED : Fld := ⟨8 * (0x21048) + 4, 1⟩
def LC_CONFIG_TAMPER_ZEROISE : Fld := ⟨8 * (0x21048) + 5, 2⟩
def LC_CONFIG_PROFILE : Fld := ⟨8 * (0x21048) + 7, 2⟩
def LC_OKS_USABLE : Fld := ⟨8 * (0x21050) + 0, 8⟩
def LC_OKS_REVOKED : Fld := ⟨8 * (0x21050) + 8, 8⟩
def LC_OKS_CLASS : Fld := ⟨8 * (0x21050) + 16, 16⟩
def LC_CNT_FW_SVN : Fld := ⟨8 * (0x21058) + 0, 8⟩
def LC_CNT_POL_SVN : Fld := ⟨8 * (0x21058) + 8, 8⟩
def LC_CNT_DEBUG : Fld := ⟨8 * (0x21058) + 16, 7⟩
def LC_TAMPER_LATCHED : Fld := ⟨8 * (0x21060) + 0, 2⟩
def LC_TAMPER_COUNT : Fld := ⟨8 * (0x21060) + 16, 16⟩

/-! Fields of Table 11-12 -/

def DBG_STATE_LEVEL : Fld := ⟨8 * (0x22040) + 0, 2⟩
def DBG_STATE_CHALLENGE_OPEN : Fld := ⟨8 * (0x22040) + 2, 1⟩
def DBG_STATE_GRANTED : Fld := ⟨8 * (0x22040) + 3, 1⟩
def DBG_STATE_LAST_STATUS : Fld := ⟨8 * (0x22040) + 16, 16⟩
def DBG_CHALLENGE_LEFT : Fld := ⟨8 * (0x22048) + 0, 32⟩
def DBG_DENIED_CNT : Fld := ⟨8 * (0x22048) + 32, 32⟩

/-! Fields of Table 12-6 -/

def WDT_WD_OPEN : Fld := ⟨8 * (0x23040) + 0, 32⟩
def WDT_WD_CLOSE : Fld := ⟨8 * (0x23040) + 32, 32⟩
def WDT_HARD_FRAMES : Fld := ⟨8 * (0x23048) + 0, 32⟩
def WDT_BOOT_CLOSE : Fld := ⟨8 * (0x23048) + 32, 32⟩
def WDT_STATE : Fld := ⟨8 * (0x23050) + 0, 2⟩
def WDT_PERIOD_START : Fld := ⟨8 * (0x23050) + 32, 32⟩
def WDT_SERVICE : Fld := ⟨8 * (0x23058) + 0, 16⟩
def WDT_CHECKIN : Fld := ⟨8 * (0x23060) + 0, 5⟩
def WDT_ENROLLED : Fld := ⟨8 * (0x23068) + 0, 32⟩
def WDT_MODE : Fld := ⟨8 * (0x23068) + 32, 32⟩
def WDT_CHECKED : Fld := ⟨8 * (0x23070) + 0, 32⟩
def WDT_LAST_FAIL_CAUSE : Fld := ⟨8 * (0x23078) + 0, 3⟩
def WDT_LAST_FAIL_TASK : Fld := ⟨8 * (0x23078) + 8, 5⟩
def WDT_LAST_FAIL_FRAME : Fld := ⟨8 * (0x23078) + 32, 32⟩
def WDT_EXPIRY_CNT : Fld := ⟨8 * (0x23080) + 0, 32⟩
def WDT_ESCALATE_CNT : Fld := ⟨8 * (0x23080) + 32, 32⟩
def WDT_HISTORY : Fld := ⟨8 * (0x23088) + 0, 64⟩

/-! Fields of Table 12-7 -/

def BARO_STATUS_FULL : Fld := ⟨8 * (0x24040) + 0, 1⟩
def BARO_STATUS_CLEARING : Fld := ⟨8 * (0x24040) + 1, 1⟩
def BARO_STATUS_QUEUE_OVF : Fld := ⟨8 * (0x24040) + 2, 1⟩
def BARO_STATUS_WRITE_POINT : Fld := ⟨8 * (0x24040) + 16, 15⟩
def BARO_SEQ : Fld := ⟨8 * (0x24048) + 0, 32⟩
def BARO_DROPPED : Fld := ⟨8 * (0x24048) + 32, 32⟩
def BARO_OP_HOURS : Fld := ⟨8 * (0x24050) + 0, 24⟩
def BARO_OP_SECONDS : Fld := ⟨8 * (0x24050) + 24, 12⟩
def BARO_POWER_CYCLES : Fld := ⟨8 * (0x24058) + 0, 32⟩
def BARO_CLEAR_SEQ : Fld := ⟨8 * (0x24058) + 32, 32⟩
def BARO_QUEUE : Fld := ⟨8 * (0x24060) + 0, 9⟩
def BARO_CFG_RING_COPY : Fld := ⟨8 * (0x24068) + 0, 1⟩
def BARO_CORRUPT : Fld := ⟨8 * (0x24070) + 0, 32⟩

/-! Fields of Table 12-8 -/

def CNT_SNAP_CTL_PENDING : Fld := ⟨8 * (0x25040) + 0, 1⟩
def CNT_SNAP_CTL_DONE : Fld := ⟨8 * (0x25040) + 1, 1⟩
def CNT_SNAP_TARGET : Fld := ⟨8 * (0x25048) + 0, 64⟩
def CNT_SNAP_FRAME : Fld := ⟨8 * (0x25050) + 0, 64⟩
def CNT_OVF : Fld := ⟨8 * (0x25058) + 0, 64⟩
def CNT_SEL_SOURCE (i : Nat) : Fld := ⟨8 * (0x25100 + 8 * i) + 0, 9⟩
def CNT_SEL_ENABLE (i : Nat) : Fld := ⟨8 * (0x25100 + 8 * i) + 15, 1⟩
def CNT (i : Nat) : Fld := ⟨8 * (0x25300 + 8 * i) + 0, 48⟩
def SNAP (i : Nat) : Fld := ⟨8 * (0x25500 + 8 * i) + 0, 48⟩

/-! Fields of Table 12-9 -/

def BIST_ACTIVE : Fld := ⟨8 * (0x26040) + 0, 2⟩
def BIST_RUN_CELL (r : Nat) : Fld := ⟨8 * (0x26048 + 8 * r) + 0, 32⟩
def BIST_RUN_FRAMES (r : Nat) : Fld := ⟨8 * (0x26048 + 8 * r) + 32, 16⟩
def BIST_LAST_CELL : Fld := ⟨8 * (0x26058) + 0, 32⟩
def BIST_LAST_RESULT : Fld := ⟨8 * (0x26058) + 32, 3⟩
def BIST_LAST_FRAMES : Fld := ⟨8 * (0x26058) + 48, 16⟩
def BIST_PASS_CNT : Fld := ⟨8 * (0x26060) + 0, 32⟩
def BIST_FAIL_CNT : Fld := ⟨8 * (0x26060) + 32, 32⟩
def BIST_INCOMPLETE_CNT : Fld := ⟨8 * (0x26068) + 0, 32⟩
def BIST_MISR_LAST : Fld := ⟨8 * (0x26070) + 0, 64⟩

/-! Fields of Table 14-7 -/

def MON_TJ : Fld := ⟨8 * (0x27040) + 0, 16⟩
def MON_TJ_MAX : Fld := ⟨8 * (0x27040) + 16, 16⟩
def MON_GOV_STEP : Fld := ⟨8 * (0x27040) + 32, 2⟩
def MON_IMON : Fld := ⟨8 * (0x27048) + 0, 16⟩
def MON_IMON_MAX : Fld := ⟨8 * (0x27048) + 16, 16⟩
def MON_VCORE : Fld := ⟨8 * (0x27048) + 32, 16⟩
def MON_CFG_GOV_TRIP : Fld := ⟨8 * (0x27050) + 0, 8⟩
def MON_CFG_CUR_WARN : Fld := ⟨8 * (0x27050) + 8, 8⟩
def MON_EVT_STEP : Fld := ⟨8 * (0x27058) + 0, 1⟩
def MON_EVT_CURRENT_WARN : Fld := ⟨8 * (0x27058) + 1, 1⟩
def MON_EVT_CURRENT_LIMIT : Fld := ⟨8 * (0x27058) + 2, 1⟩
def MON_EVT_VOLTAGE : Fld := ⟨8 * (0x27058) + 3, 1⟩
def MON_EVT_CLOCK : Fld := ⟨8 * (0x27058) + 4, 1⟩
def MON_STEP_UP_CNT : Fld := ⟨8 * (0x27060) + 0, 32⟩
def MON_STEP_DOWN_CNT : Fld := ⟨8 * (0x27060) + 32, 32⟩
def MON_STEP_FRAMES : Fld := ⟨8 * (0x27068) + 0, 48⟩
def CAL_STATUS_SRC : Fld := ⟨8 * (0x27070) + 0, 2⟩
def CAL_STATUS_BUSY : Fld := ⟨8 * (0x27070) + 2, 1⟩
def CAL_STATUS_LAST_STATUS : Fld := ⟨8 * (0x27070) + 16, 16⟩
def CAL_STATUS_VERSION : Fld := ⟨8 * (0x27070) + 32, 16⟩
def CAL_CTL_COMMIT : Fld := ⟨8 * (0x27078) + 0, 1⟩
def DRZ_STATE : Fld := ⟨8 * (0x27080) + 0, 2⟩
def DRZ_EXIT_FRAMES : Fld := ⟨8 * (0x27080) + 32, 32⟩
def CAL_SEQ : Fld := ⟨8 * (0x27088) + 0, 32⟩
def CAL_STAGE (i : Nat) : Fld := ⟨8 * (0x28000 + 8 * i) + 0, 64⟩
def CAL_PAGE (i : Nat) : Fld := ⟨8 * (0x29000 + 8 * i) + 0, 64⟩
def CAL_TOKEN (i : Nat) : Fld := ⟨8 * (0x2A000 + 4 * i) + 0, 32⟩

/-! Fields of Table 07-12 -/

def CR_STATE : Fld := ⟨8 * (0x40040) + 0, 2⟩
def CR_ALARM_TAMPER : Fld := ⟨8 * (0x40048) + 0, 1⟩
def CR_ALARM_VOLTAGE : Fld := ⟨8 * (0x40048) + 1, 1⟩
def CR_ALARM_CLOCK : Fld := ⟨8 * (0x40048) + 2, 1⟩
def CR_ALARM_BIST : Fld := ⟨8 * (0x40048) + 3, 1⟩
def CR_ALARM_BUS_ERROR : Fld := ⟨8 * (0x40048) + 4, 1⟩
def CR_ALARM_PARITY : Fld := ⟨8 * (0x40048) + 5, 1⟩
def CR_EPOCH : Fld := ⟨8 * (0x40050) + 0, 32⟩
def CR_CLEAR_CNT : Fld := ⟨8 * (0x40050) + 32, 32⟩
def CR_CTX_USED : Fld := ⟨8 * (0x40058) + 0, 11⟩
def CR_CTX_FW : Fld := ⟨8 * (0x40058) + 16, 7⟩
def CR_CTX_EXPORTED : Fld := ⟨8 * (0x40058) + 32, 32⟩
def CR_EXPORT_CNT : Fld := ⟨8 * (0x40060) + 0, 48⟩
def CR_IMPORT_CNT : Fld := ⟨8 * (0x40068) + 0, 48⟩
def CR_LENGTH_ERR_CNT : Fld := ⟨8 * (0x40070) + 0, 32⟩
def CR_KAT_FAIL : Fld := ⟨8 * (0x40078) + 0, 11⟩
def CR_HOST_LANES : Fld := ⟨8 * (0x40080) + 0, 20⟩

/-! Fields of Table 07-13 -/

def LANE_HOST_BUSY (j : Nat) : Fld := ⟨8 * (0x40440 + 0x400 * j) + 0, 1⟩
def LANE_TAP_MASK (j : Nat) : Fld := ⟨8 * (0x40440 + 0x400 * j) + 1, 3⟩
def LANE_JOB_FUNC (j : Nat) : Fld := ⟨8 * (0x40440 + 0x400 * j) + 16, 8⟩
def LANE_VERDICT (j : Nat) : Fld := ⟨8 * (0x40448 + 0x400 * j) + 0, 16⟩
def LANE_HOST_BLOCKS (j : Nat) : Fld := ⟨8 * (0x40450 + 0x400 * j) + 0, 48⟩
def LANE_TAP_BLOCKS (j : Nat) : Fld := ⟨8 * (0x40458 + 0x400 * j) + 0, 48⟩
def LANE_CHECK_CNT (j : Nat) : Fld := ⟨8 * (0x40460 + 0x400 * j) + 0, 48⟩

/-! Fields of Table 07-14 -/

def KS_FREE : Fld := ⟨8 * (0x48040) + 0, 11⟩
def KS_EVT_LOAD_REFUSED : Fld := ⟨8 * (0x48048) + 0, 1⟩
def KS_EVT_ZEROISED : Fld := ⟨8 * (0x48048) + 1, 1⟩
def KS_LOAD_CTL_SLOT : Fld := ⟨8 * (0x48050) + 0, 10⟩
def KS_LOAD_CTL_LEN : Fld := ⟨8 * (0x48050) + 16, 7⟩
def KS_LOAD_CTL_ATTR : Fld := ⟨8 * (0x48050) + 24, 8⟩
def KS_LOAD_CTL_TYPE : Fld := ⟨8 * (0x48050) + 32, 3⟩
def KS_LOAD_CTL_GO : Fld := ⟨8 * (0x48050) + 35, 1⟩
def KS_KEY_IN (i : Nat) : Fld := ⟨8 * (0x48080 + 8 * i) + 0, 64⟩
def KS_SLOT_VALID (s : Nat) : Fld := ⟨8 * (0x49000 + 8 * s) + 0, 1⟩
def KS_SLOT_ORIGIN (s : Nat) : Fld := ⟨8 * (0x49000 + 8 * s) + 1, 2⟩
def KS_SLOT_ATTR (s : Nat) : Fld := ⟨8 * (0x49000 + 8 * s) + 4, 8⟩
def KS_SLOT_LEN (s : Nat) : Fld := ⟨8 * (0x49000 + 8 * s) + 12, 7⟩
def KS_SLOT_TYPE (s : Nat) : Fld := ⟨8 * (0x49000 + 8 * s) + 19, 3⟩
def KS_SLOT_OWNER (s : Nat) : Fld := ⟨8 * (0x49000 + 8 * s) + 32, 8⟩
def KS_SLOT_DEVICE (s : Nat) : Fld := ⟨8 * (0x49000 + 8 * s) + 40, 1⟩

/-! Fields of Table 07-15 -/

def SE_STATE : Fld := ⟨8 * (0x4C040) + 0, 2⟩
def SE_QUEUE : Fld := ⟨8 * (0x4C040) + 8, 7⟩
def SE_UCODE : Fld := ⟨8 * (0x4C048) + 0, 32⟩
def SE_VERDICT : Fld := ⟨8 * (0x4C050) + 0, 16⟩
def SE_OPS : Fld := ⟨8 * (0x4C058) + 0, 48⟩
def SE_VERIFY_FAIL : Fld := ⟨8 * (0x4C060) + 0, 32⟩
def SE_SIGN_LIMIT : Fld := ⟨8 * (0x4C060) + 32, 32⟩

/-! Fields of Table 07-16 -/

def AES_BUSY : Fld := ⟨8 * (0x4E040) + 0, 1⟩
def AES_TAG_FAIL : Fld := ⟨8 * (0x4E048) + 0, 32⟩
def AES_KW_FAIL : Fld := ⟨8 * (0x4E048) + 32, 32⟩
def AES_BYTES : Fld := ⟨8 * (0x4E050) + 0, 48⟩

/-! Fields of Table 07-17 -/

def RNG_STATE : Fld := ⟨8 * (0x4F040) + 0, 2⟩
def RNG_EVT_RCT_FAIL : Fld := ⟨8 * (0x4F048) + 0, 1⟩
def RNG_EVT_APT_FAIL : Fld := ⟨8 * (0x4F048) + 1, 1⟩
def RNG_RESEED_CNT : Fld := ⟨8 * (0x4F050) + 0, 32⟩
def RNG_GEN_SINCE_RESEED : Fld := ⟨8 * (0x4F050) + 32, 16⟩

/-! Fields of Table 09-8 -/

def ATT_MEAS_GEN : Fld := ⟨8 * (0x88040) + 0, 64⟩
def ATT_ENTRIES : Fld := ⟨8 * (0x88048) + 0, 8⟩
def ATT_SESSIONS : Fld := ⟨8 * (0x88048) + 8, 4⟩
def ATT_ID_STATE : Fld := ⟨8 * (0x88048) + 12, 2⟩
def ATT_REPORTS : Fld := ⟨8 * (0x88050) + 0, 32⟩
def ATT_SPDM_ERR : Fld := ⟨8 * (0x88050) + 32, 32⟩
def ATT_CHUNK_ERR : Fld := ⟨8 * (0x88058) + 0, 32⟩
def ATT_RESYNCH : Fld := ⟨8 * (0x88058) + 32, 32⟩
def ATT_EID_PCIE : Fld := ⟨8 * (0x88060) + 0, 8⟩
def ATT_EID_I3C0 : Fld := ⟨8 * (0x88060) + 8, 8⟩
def ATT_EID_I3C1 : Fld := ⟨8 * (0x88060) + 16, 8⟩

/-! Fields of Table 10-15 -/

def RL_LINK (r : Nat) : Fld := ⟨8 * (0x8E040 + 0x400 * r) + 0, 2⟩
def RL_PEER_POS (r : Nat) : Fld := ⟨8 * (0x8E040 + 0x400 * r) + 8, 8⟩
def RL_DELAY (r : Nat) : Fld := ⟨8 * (0x8E040 + 0x400 * r) + 16, 16⟩
def RL_DOWN_CNT (r : Nat) : Fld := ⟨8 * (0x8E040 + 0x400 * r) + 32, 32⟩
def RL_TX_FRAMES (r : Nat) : Fld := ⟨8 * (0x8E048 + 0x400 * r) + 0, 48⟩
def RL_RX_FRAMES (r : Nat) : Fld := ⟨8 * (0x8E050 + 0x400 * r) + 0, 48⟩
def RL_CRC_ERR (r : Nat) : Fld := ⟨8 * (0x8E058 + 0x400 * r) + 0, 32⟩
def RL_RETRIES (r : Nat) : Fld := ⟨8 * (0x8E058 + 0x400 * r) + 32, 32⟩

/-! Fields of Table 08-2 -/

def FN_ID_FUNCTION (f : Nat) : Fld := ⟨8 * (fnBase f + 0x0) + 0, 8⟩
def FN_ID_PF (f : Nat) : Fld := ⟨8 * (fnBase f + 0x0) + 8, 1⟩
def FN_STATE_STATE (f : Nat) : Fld := ⟨8 * (fnBase f + 0x8) + 0, 2⟩
def FN_STATE_PENDING_ENABLE (f : Nat) : Fld := ⟨8 * (fnBase f + 0x8) + 2, 1⟩
def FN_STATE_RESETTING (f : Nat) : Fld := ⟨8 * (fnBase f + 0x8) + 3, 1⟩
def FN_STATE_DROWSY (f : Nat) : Fld := ⟨8 * (fnBase f + 0x8) + 4, 1⟩
def FN_STATE_DRIZZLE (f : Nat) : Fld := ⟨8 * (fnBase f + 0x8) + 5, 1⟩
def FN_STATE_LAST_RESULT (f : Nat) : Fld := ⟨8 * (fnBase f + 0x8) + 16, 16⟩
def FN_STATE_FN_GEN (f : Nat) : Fld := ⟨8 * (fnBase f + 0x8) + 32, 16⟩
def FN_CTL_CMD (f : Nat) : Fld := ⟨8 * (fnBase f + 0x10) + 0, 2⟩
def FN_CFG_IDLE_FRAMES (f : Nat) : Fld := ⟨8 * (fnBase f + 0x18) + 0, 32⟩
def FN_EVT_HOST_MEM (f : Nat) : Fld := ⟨8 * (fnBase f + 0x20) + 0, 1⟩
def FN_EVT_RING_ERR (f : Nat) : Fld := ⟨8 * (fnBase f + 0x20) + 1, 1⟩
def FN_EVT_EVT_LOST (f : Nat) : Fld := ⟨8 * (fnBase f + 0x20) + 2, 1⟩
def FN_ERR_ADDR (f : Nat) : Fld := ⟨8 * (fnBase f + 0x28) + 0, 64⟩
def FN_CNT_EVT_LOST (f : Nat) : Fld := ⟨8 * (fnBase f + 0x30) + 0, 32⟩
def FN_CNT_KICKS (f : Nat) : Fld := ⟨8 * (fnBase f + 0x30) + 32, 32⟩
def RCT_BASE (f : Nat) : Fld := ⟨8 * (fnBase f + 0x40) + 0, 64⟩
def RCT_RINGS (f : Nat) : Fld := ⟨8 * (fnBase f + 0x48) + 0, 9⟩
def RING_CTL_RING (f : Nat) : Fld := ⟨8 * (fnBase f + 0x50) + 0, 16⟩
def RING_CTL_OP (f : Nat) : Fld := ⟨8 * (fnBase f + 0x50) + 16, 3⟩
def RING_RESULT_RING (f : Nat) : Fld := ⟨8 * (fnBase f + 0x58) + 0, 16⟩
def RING_RESULT_STATUS (f : Nat) : Fld := ⟨8 * (fnBase f + 0x58) + 16, 16⟩
def RING_RESULT_STATE (f : Nat) : Fld := ⟨8 * (fnBase f + 0x58) + 32, 2⟩
def RING_RESULT_PENDING_ENABLE (f : Nat) : Fld := ⟨8 * (fnBase f + 0x58) + 34, 1⟩
def RING_MAP (f w : Nat) : Fld := ⟨8 * (fnBase f + 0x60 + 8 * w) + 0, 64⟩
def DB_BASE (f : Nat) : Fld := ⟨8 * (fnBase f + 0x80) + 0, 64⟩
def FN_INT_VECTOR (f : Nat) : Fld := ⟨8 * (fnBase f + 0x100) + 0, 8⟩
def FN_INT_EN (f : Nat) : Fld := ⟨8 * (fnBase f + 0x100) + 8, 1⟩
def FN_KICK (f : Nat) : Fld := ⟨8 * (fnBase f + 0x1000) + 0, 32⟩

/-! Fields of Table 05-6 -/

def SP_PART_PIN_USED : Fld := ⟨8 * (0x100040) + 0, 14⟩
def SP_PART_STRBUF : Fld := ⟨8 * (0x100040) + 16, 14⟩
def SP_PART_CACHE : Fld := ⟨8 * (0x100040) + 32, 14⟩
def SP_PART_PENDING : Fld := ⟨8 * (0x100040) + 48, 14⟩
def SP_NODES_USED : Fld := ⟨8 * (0x100048) + 0, 13⟩
def SP_NODES_ROOTED : Fld := ⟨8 * (0x100048) + 16, 9⟩
def SP_STATUS_PIN_BUSY : Fld := ⟨8 * (0x100050) + 0, 1⟩
def SP_STATUS_REFILL : Fld := ⟨8 * (0x100050) + 1, 1⟩
def SP_STATUS_PF_STOPPED : Fld := ⟨8 * (0x100050) + 2, 1⟩
def SP_STATUS_SCRUB_PASSES : Fld := ⟨8 * (0x100050) + 32, 32⟩
def SP_EVT_ECC_CE : Fld := ⟨8 * (0x100058) + 0, 1⟩
def SP_EVT_ECC_UE : Fld := ⟨8 * (0x100058) + 1, 1⟩
def SP_EVT_PIN_DONE : Fld := ⟨8 * (0x100058) + 2, 1⟩
def SP_EVT_REFILL_DONE : Fld := ⟨8 * (0x100058) + 3, 1⟩
def ECC_CE_CNT : Fld := ⟨8 * (0x100060) + 0, 32⟩
def ECC_UE_CNT : Fld := ⟨8 * (0x100060) + 32, 32⟩
def SP_UE_LOC_INDEX : Fld := ⟨8 * (0x100068) + 0, 14⟩
def SP_UE_LOC_NODE : Fld := ⟨8 * (0x100068) + 14, 1⟩
def SP_UE_LOC_FRAME : Fld := ⟨8 * (0x100068) + 32, 32⟩
def EVICT_CNT : Fld := ⟨8 * (0x100070) + 0, 48⟩
def NODE_MISS_CNT : Fld := ⟨8 * (0x100078) + 0, 48⟩
def PREFETCH_CNT : Fld := ⟨8 * (0x100080) + 0, 48⟩

/-! Fields of Table 03-9 -/

def PP_CFG_CS_USED0 (p : Nat) : Fld := ⟨8 * (0x1000040 + 0x10000 * p) + 0, 1⟩
def PP_CFG_CS_USED1 (p : Nat) : Fld := ⟨8 * (0x1000040 + 0x10000 * p) + 1, 1⟩
def PP_CFG_BURST (p : Nat) : Fld := ⟨8 * (0x1000040 + 0x10000 * p) + 2, 2⟩
def PP_CFG_BANK_18 (p : Nat) : Fld := ⟨8 * (0x1000040 + 0x10000 * p) + 4, 1⟩
def UP_CFG_START_MODE (p c : Nat) : Fld := ⟨8 * (0x1000048 + 0x10000 * p + 8 * c) + 0, 3⟩
def UP_CFG_RUN_MODE (p c : Nat) : Fld := ⟨8 * (0x1000048 + 0x10000 * p + 8 * c) + 4, 3⟩
def UP_CFG_CMD_EXT (p c : Nat) : Fld := ⟨8 * (0x1000048 + 0x10000 * p + 8 * c) + 7, 1⟩
def UP_CFG_DUMMY_START (p c : Nat) : Fld := ⟨8 * (0x1000048 + 0x10000 * p + 8 * c) + 8, 5⟩
def UP_CFG_DUMMY_RUN (p c : Nat) : Fld := ⟨8 * (0x1000048 + 0x10000 * p + 8 * c) + 16, 5⟩
def UP_CFG_ADDR4_DEFAULT (p c : Nat) : Fld := ⟨8 * (0x1000048 + 0x10000 * p + 8 * c) + 21, 1⟩
def UP_CFG_CONT_EN (p c : Nat) : Fld := ⟨8 * (0x1000048 + 0x10000 * p + 8 * c) + 22, 1⟩
def UP_CFG_FREQ_MAX (p c : Nat) : Fld := ⟨8 * (0x1000048 + 0x10000 * p + 8 * c) + 24, 8⟩
def UP_CFG_DENSITY_LOG2 (p c : Nat) : Fld := ⟨8 * (0x1000048 + 0x10000 * p + 8 * c) + 32, 5⟩
def UP_CFG_MODE_SW_OPC (p c : Nat) : Fld := ⟨8 * (0x1000048 + 0x10000 * p + 8 * c) + 40, 8⟩
def UP_CFG_MODE_SW_DATA (p c : Nat) : Fld := ⟨8 * (0x1000048 + 0x10000 * p + 8 * c) + 48, 8⟩
def UP_STATE_MODE (p c : Nat) : Fld := ⟨8 * (0x1000058 + 0x10000 * p + 8 * c) + 0, 3⟩
def UP_STATE_ADDR4 (p c : Nat) : Fld := ⟨8 * (0x1000058 + 0x10000 * p + 8 * c) + 3, 1⟩
def UP_STATE_WEL (p c : Nat) : Fld := ⟨8 * (0x1000058 + 0x10000 * p + 8 * c) + 4, 1⟩
def UP_STATE_WIP (p c : Nat) : Fld := ⟨8 * (0x1000058 + 0x10000 * p + 8 * c) + 5, 1⟩
def UP_STATE_WRAP (p c : Nat) : Fld := ⟨8 * (0x1000058 + 0x10000 * p + 8 * c) + 6, 3⟩
def UP_STATE_CONT (p c : Nat) : Fld := ⟨8 * (0x1000058 + 0x10000 * p + 8 * c) + 9, 1⟩
def UP_STATE_PROG_FAIL (p c : Nat) : Fld := ⟨8 * (0x1000058 + 0x10000 * p + 8 * c) + 10, 1⟩
def UP_STATE_ERASE_FAIL (p c : Nat) : Fld := ⟨8 * (0x1000058 + 0x10000 * p + 8 * c) + 11, 1⟩
def UP_STATE_PROT (p c : Nat) : Fld := ⟨8 * (0x1000058 + 0x10000 * p + 8 * c) + 12, 1⟩
def DN_CFG_MODE (p : Nat) : Fld := ⟨8 * (0x1000068 + 0x10000 * p) + 0, 3⟩
def DN_CFG_ADDR4 (p : Nat) : Fld := ⟨8 * (0x1000068 + 0x10000 * p) + 3, 1⟩
def DN_CFG_CMD_EXT (p : Nat) : Fld := ⟨8 * (0x1000068 + 0x10000 * p) + 4, 1⟩
def DN_CFG_FREQ (p : Nat) : Fld := ⟨8 * (0x1000068 + 0x10000 * p) + 8, 8⟩
def DN_CFG_DUMMY (p : Nat) : Fld := ⟨8 * (0x1000068 + 0x10000 * p) + 16, 5⟩
def DN_CFG_BG_FREQ (p : Nat) : Fld := ⟨8 * (0x1000068 + 0x10000 * p) + 24, 8⟩
def DN_CFG_TSHSL (p : Nat) : Fld := ⟨8 * (0x1000068 + 0x10000 * p) + 32, 8⟩
def DN_CFG_READ_OPC (p : Nat) : Fld := ⟨8 * (0x1000068 + 0x10000 * p) + 40, 8⟩
def DN_FLASH_DENSITY_LOG2 (p c : Nat) : Fld := ⟨8 * (0x1000070 + 0x10000 * p + 8 * c) + 0, 5⟩
def DN_FLASH_PAGE_LOG2 (p c : Nat) : Fld := ⟨8 * (0x1000070 + 0x10000 * p + 8 * c) + 8, 4⟩
def DN_FLASH_PROG_LIMIT (p c : Nat) : Fld := ⟨8 * (0x1000070 + 0x10000 * p + 8 * c) + 16, 16⟩
def DN_FLASH_ERASE_LIMIT (p c : Nat) : Fld := ⟨8 * (0x1000070 + 0x10000 * p + 8 * c) + 32, 32⟩
def DQS_TRIM_TAP (p c : Nat) : Fld := ⟨8 * (0x1000080 + 0x10000 * p + 8 * c) + 0, 6⟩
def DQS_TRIM_WIN_LO (p c : Nat) : Fld := ⟨8 * (0x1000080 + 0x10000 * p + 8 * c) + 8, 6⟩
def DQS_TRIM_WIN_HI (p c : Nat) : Fld := ⟨8 * (0x1000080 + 0x10000 * p + 8 * c) + 16, 6⟩
def DQS_TRIM_SRC (p c : Nat) : Fld := ⟨8 * (0x1000080 + 0x10000 * p + 8 * c) + 24, 1⟩
def PAD_CAL_DRIVE (p : Nat) : Fld := ⟨8 * (0x1000090 + 0x10000 * p) + 0, 4⟩
def PAD_CAL_ODT (p : Nat) : Fld := ⟨8 * (0x1000090 + 0x10000 * p) + 4, 4⟩
def PAD_CAL_ZQ_CODE (p : Nat) : Fld := ⟨8 * (0x1000090 + 0x10000 * p) + 8, 8⟩
def PP_EVT_DQS_NARROW (p : Nat) : Fld := ⟨8 * (0x1000098 + 0x10000 * p) + 0, 1⟩
def PP_EVT_DQS_FAIL (p : Nat) : Fld := ⟨8 * (0x1000098 + 0x10000 * p) + 1, 1⟩
def PP_EVT_LAT_MISS (p : Nat) : Fld := ⟨8 * (0x1000098 + 0x10000 * p) + 2, 1⟩
def PP_EVT_UNSUP_CMD (p : Nat) : Fld := ⟨8 * (0x1000098 + 0x10000 * p) + 3, 1⟩
def PP_EVT_DN_TIMEOUT (p : Nat) : Fld := ⟨8 * (0x1000098 + 0x10000 * p) + 4, 1⟩
def LAT_MISS_CNT (p c : Nat) : Fld := ⟨8 * (0x10000A0 + 0x10000 * p + 8 * c) + 0, 32⟩
def UNSUP_CNT (p c : Nat) : Fld := ⟨8 * (0x10000B0 + 0x10000 * p + 8 * c) + 0, 32⟩
def FWD_RD_CNT (p c : Nat) : Fld := ⟨8 * (0x10000C0 + 0x10000 * p + 8 * c) + 0, 48⟩
def BURST_ABORT_CNT (p : Nat) : Fld := ⟨8 * (0x10000D0 + 0x10000 * p) + 0, 32⟩

/-! Fields of Table 04-11 -/

def WB_CTL_ENABLE (p : Nat) : Fld := ⟨8 * (0x1003040 + 0x10000 * p) + 0, 1⟩
def WB_CTL_PAIRED (p : Nat) : Fld := ⟨8 * (0x1003040 + 0x10000 * p) + 1, 1⟩
def WB_STATUS_STAGED (p : Nat) : Fld := ⟨8 * (0x1003048 + 0x10000 * p) + 0, 2⟩
def WB_STATUS_PIN_WAIT (p : Nat) : Fld := ⟨8 * (0x1003048 + 0x10000 * p) + 2, 2⟩
def WB_STATUS_PAIR_STAGED (p : Nat) : Fld := ⟨8 * (0x1003048 + 0x10000 * p) + 4, 1⟩
def WB_STATUS_HOLD (p : Nat) : Fld := ⟨8 * (0x1003048 + 0x10000 * p) + 5, 1⟩
def WB_CS_REGION_COUNT (p c : Nat) : Fld := ⟨8 * (0x1003050 + 0x10000 * p + 8 * c) + 0, 6⟩
def WB_CS_WINDOW_COUNT (p c : Nat) : Fld := ⟨8 * (0x1003050 + 0x10000 * p + 8 * c) + 8, 5⟩
def WB_CS_WRSR_MODE (p c : Nat) : Fld := ⟨8 * (0x1003050 + 0x10000 * p + 8 * c) + 13, 2⟩
def WB_CS_WP_VIEW (p c : Nat) : Fld := ⟨8 * (0x1003050 + 0x10000 * p + 8 * c) + 16, 6⟩
def WB_CS_FILL (p c : Nat) : Fld := ⟨8 * (0x1003050 + 0x10000 * p + 8 * c) + 32, 32⟩
def WB_EVT_BLOCKED (p : Nat) : Fld := ⟨8 * (0x1003060 + 0x10000 * p) + 0, 1⟩
def WB_EVT_FILLED (p : Nat) : Fld := ⟨8 * (0x1003060 + 0x10000 * p) + 1, 1⟩
def WB_EVT_SWAPPED (p : Nat) : Fld := ⟨8 * (0x1003060 + 0x10000 * p) + 2, 1⟩
def WB_EVT_STAGED (p : Nat) : Fld := ⟨8 * (0x1003060 + 0x10000 * p) + 3, 1⟩
def WB_EVT_DISAGREE (p : Nat) : Fld := ⟨8 * (0x1003060 + 0x10000 * p) + 4, 1⟩
def BLOCK_CNT (p c : Nat) : Fld := ⟨8 * (0x1003080 + 0x10000 * p + 8 * c) + 0, 48⟩
def FILL_CNT (p c : Nat) : Fld := ⟨8 * (0x1003090 + 0x10000 * p + 8 * c) + 0, 48⟩
def EMU_CNT (p c : Nat) : Fld := ⟨8 * (0x10030A0 + 0x10000 * p + 8 * c) + 0, 48⟩
def FWD_CNT (p c : Nat) : Fld := ⟨8 * (0x10030B0 + 0x10000 * p + 8 * c) + 0, 48⟩
def LAST_BLOCK_OPC (p c : Nat) : Fld := ⟨8 * (0x10030C0 + 0x10000 * p + 8 * c) + 0, 8⟩
def LAST_BLOCK_CLASS (p c : Nat) : Fld := ⟨8 * (0x10030C0 + 0x10000 * p + 8 * c) + 8, 4⟩
def LAST_BLOCK_ADDR (p c : Nat) : Fld := ⟨8 * (0x10030C0 + 0x10000 * p + 8 * c) + 16, 32⟩
def REGION_BASE (p c i : Nat) : Fld := ⟨8 * (0x1003100 + 0x10000 * p + 512 * c + 16 * i) + 0, 32⟩
def REGION_LIMIT (p c i : Nat) : Fld := ⟨8 * (0x1003100 + 0x10000 * p + 512 * c + 16 * i) + 32, 32⟩
def REGION_CLASS (p c i : Nat) : Fld := ⟨8 * (0x1003108 + 0x10000 * p + 512 * c + 16 * i) + 0, 2⟩
def REGION_ACTION (p c i : Nat) : Fld := ⟨8 * (0x1003108 + 0x10000 * p + 512 * c + 16 * i) + 2, 1⟩
def REGION_DEGRADED (p c i : Nat) : Fld := ⟨8 * (0x1003108 + 0x10000 * p + 512 * c + 16 * i) + 3, 1⟩
def REGION_ROLE (p c i : Nat) : Fld := ⟨8 * (0x1003108 + 0x10000 * p + 512 * c + 16 * i) + 4, 2⟩
def WINDOW_BASE (p c w : Nat) : Fld := ⟨8 * (0x1003500 + 0x10000 * p + 256 * c + 16 * w) + 0, 32⟩
def WINDOW_LIMIT (p c w : Nat) : Fld := ⟨8 * (0x1003500 + 0x10000 * p + 256 * c + 16 * w) + 32, 32⟩
def WINDOW_PERM (p c w : Nat) : Fld := ⟨8 * (0x1003508 + 0x10000 * p + 256 * c + 16 * w) + 0, 2⟩
def WINDOW_REGION (p c w : Nat) : Fld := ⟨8 * (0x1003508 + 0x10000 * p + 256 * c + 16 * w) + 8, 5⟩

/-! Fields of Table 04-12 -/

def DIS_CNT (p c : Nat) : Fld := ⟨8 * (0x1003840 + 0x10000 * p + 8 * c) + 0, 32⟩
def LAST_DIS_OPC (p : Nat) : Fld := ⟨8 * (0x1003850 + 0x10000 * p) + 0, 8⟩
def LAST_DIS_CS (p : Nat) : Fld := ⟨8 * (0x1003850 + 0x10000 * p) + 8, 1⟩
def LAST_DIS_DEC_A (p : Nat) : Fld := ⟨8 * (0x1003850 + 0x10000 * p) + 10, 2⟩
def LAST_DIS_DEC_B (p : Nat) : Fld := ⟨8 * (0x1003850 + 0x10000 * p) + 12, 2⟩
def LAST_DIS_ADDR (p : Nat) : Fld := ⟨8 * (0x1003850 + 0x10000 * p) + 16, 32⟩

/-! Fields of Table 05-7 -/

def VF_CFG_HORIZON (p c : Nat) : Fld := ⟨8 * (0x1004000 + 0x10000 * p + 8 * c) + 0, 12⟩
def VF_CFG_ANY_STREAMED (p c : Nat) : Fld := ⟨8 * (0x1004000 + 0x10000 * p + 8 * c) + 12, 1⟩
def VF_CFG_ANY_SEALED (p c : Nat) : Fld := ⟨8 * (0x1004000 + 0x10000 * p + 8 * c) + 13, 1⟩
def VF_STATE_DEPTH (p c : Nat) : Fld := ⟨8 * (0x1004010 + 0x10000 * p + 8 * c) + 0, 6⟩
def VF_STATE_DEPTH_HIGH (p c : Nat) : Fld := ⟨8 * (0x1004010 + 0x10000 * p + 8 * c) + 8, 6⟩
def VF_STATE_OLDEST_AGE (p c : Nat) : Fld := ⟨8 * (0x1004010 + 0x10000 * p + 8 * c) + 16, 12⟩
def VF_EVT_MISMATCH (p : Nat) : Fld := ⟨8 * (0x1004020 + 0x10000 * p) + 0, 1⟩
def VF_EVT_NODE_MISMATCH (p : Nat) : Fld := ⟨8 * (0x1004020 + 0x10000 * p) + 1, 1⟩
def VF_EVT_OVERFLOW (p : Nat) : Fld := ⟨8 * (0x1004020 + 0x10000 * p) + 2, 1⟩
def VF_EVT_EXPIRY (p : Nat) : Fld := ⟨8 * (0x1004020 + 0x10000 * p) + 3, 1⟩
def VF_EVT_UNCHECKED (p : Nat) : Fld := ⟨8 * (0x1004020 + 0x10000 * p) + 4, 1⟩
def VF_EVT_CONTAINED (p : Nat) : Fld := ⟨8 * (0x1004020 + 0x10000 * p) + 5, 1⟩
def VF_PAIR_SNOOP_LANE (p : Nat) : Fld := ⟨8 * (0x1004028 + 0x10000 * p) + 0, 4⟩
def VF_PAIR_STEP_SUSPENDED (p : Nat) : Fld := ⟨8 * (0x1004028 + 0x10000 * p) + 4, 1⟩
def VF_LAST_GRANULE (p c : Nat) : Fld := ⟨8 * (0x1004030 + 0x10000 * p + 8 * c) + 0, 17⟩
def VF_LAST_CAUSE (p c : Nat) : Fld := ⟨8 * (0x1004030 + 0x10000 * p + 8 * c) + 17, 2⟩
def VF_LAST_ACTION (p c : Nat) : Fld := ⟨8 * (0x1004030 + 0x10000 * p + 8 * c) + 19, 1⟩
def VF_LAST_AGE (p c : Nat) : Fld := ⟨8 * (0x1004030 + 0x10000 * p + 8 * c) + 20, 12⟩
def VF_LAST_FRAME (p c : Nat) : Fld := ⟨8 * (0x1004030 + 0x10000 * p + 8 * c) + 32, 32⟩
def CHECK_OK_CNT (p c : Nat) : Fld := ⟨8 * (0x1004040 + 0x10000 * p + 8 * c) + 0, 48⟩
def MISMATCH_CNT (p c : Nat) : Fld := ⟨8 * (0x1004050 + 0x10000 * p + 8 * c) + 0, 48⟩
def OVERFLOW_CNT (p c : Nat) : Fld := ⟨8 * (0x1004060 + 0x10000 * p + 8 * c) + 0, 48⟩
def EXPIRY_CNT (p c : Nat) : Fld := ⟨8 * (0x1004070 + 0x10000 * p + 8 * c) + 0, 48⟩
def DISCARD_CNT (p c : Nat) : Fld := ⟨8 * (0x1004080 + 0x10000 * p + 8 * c) + 0, 48⟩
def HIT_CNT (p c : Nat) : Fld := ⟨8 * (0x1004090 + 0x10000 * p + 8 * c) + 0, 48⟩
def PC_VALID (p c e : Nat) : Fld := ⟨8 * (0x1004200 + 0x10000 * p + 256 * c + 8 * e) + 0, 1⟩
def PC_ACTION (p c e : Nat) : Fld := ⟨8 * (0x1004200 + 0x10000 * p + 256 * c + 8 * e) + 1, 1⟩
def PC_PATH_OK (p c e : Nat) : Fld := ⟨8 * (0x1004200 + 0x10000 * p + 256 * c + 8 * e) + 2, 1⟩
def PC_LINES (p c e : Nat) : Fld := ⟨8 * (0x1004200 + 0x10000 * p + 256 * c + 8 * e) + 4, 8⟩
def PC_AGE (p c e : Nat) : Fld := ⟨8 * (0x1004200 + 0x10000 * p + 256 * c + 8 * e) + 16, 12⟩
def PC_GRANULE (p c e : Nat) : Fld := ⟨8 * (0x1004200 + 0x10000 * p + 256 * c + 8 * e) + 32, 17⟩

end Reg

end Sys2Proof.Machine
end

