-- ==== Sys2Proof/Machine/Codes.lean ====
section
/-! DEFINITION. The codes that software reads: status codes (08_host_rings.md R278, Table 08-9), event codes
(12_supervision.md R397, Table 12-3), and the enumerated states of cells, components, the life cycle and the pair. -/

namespace Sys2Proof.Machine

/-- Status codes of Table 08-9, the complete list (R278). -/
inductive Status where
  | ok
  | pending
  | notSupported
  | roleDenied
  | descInvalid
  | ringInvalid
  | hostMemory
  | lengthMismatch
  | alignment
  | policyFormat
  | policyInvalid
  | oxmInvalid
  | oxmCoverage
  | authFail
  | keyRevoked
  | svnRollback
  | lastOwnerKey
  | debugDenied
  | busyDraining
  | functionResetting
  | componentReleased
  | componentState
  | policyBusy
  | updateBusy
  | notOwner
  | noGolden
  | frameBudget
  | pinQuota
  | portLatency
  | queueFull
  | thawLimit
  | lockIncomplete
  | otpWeak
  | otpLocked
  | otpNoSupply
  | otpProgramFail
  | lifecycleDenied
  | noContext
  | contextInvalid
  | contextStale
  | cryptoCleared
  | keySlot
  | keyUsage
  | keyExhausted
  | entropyFail
  | signLimit
  | selftestFail
  | flashWrite
  | chainMismatch
  | relayTimeout
  | landfallMissed
  | healthFail
  deriving DecidableEq, Repr

/-- The 16-bit value of a status code (Table 08-9). -/
def Status.code : Status → Nat
  | .ok => 0x0000
  | .pending => 0x0001
  | .notSupported => 0x0002
  | .roleDenied => 0x0003
  | .descInvalid => 0x0004
  | .ringInvalid => 0x0005
  | .hostMemory => 0x0006
  | .lengthMismatch => 0x0100
  | .alignment => 0x0101
  | .policyFormat => 0x0102
  | .policyInvalid => 0x0103
  | .oxmInvalid => 0x0104
  | .oxmCoverage => 0x0105
  | .authFail => 0x0200
  | .keyRevoked => 0x0201
  | .svnRollback => 0x0202
  | .lastOwnerKey => 0x0203
  | .debugDenied => 0x0204
  | .busyDraining => 0x0300
  | .functionResetting => 0x0301
  | .componentReleased => 0x0302
  | .componentState => 0x0303
  | .policyBusy => 0x0304
  | .updateBusy => 0x0305
  | .notOwner => 0x0306
  | .noGolden => 0x0307
  | .frameBudget => 0x0400
  | .pinQuota => 0x0401
  | .portLatency => 0x0402
  | .queueFull => 0x0403
  | .thawLimit => 0x0404
  | .lockIncomplete => 0x0500
  | .otpWeak => 0x0501
  | .otpLocked => 0x0502
  | .otpNoSupply => 0x0503
  | .otpProgramFail => 0x0504
  | .lifecycleDenied => 0x0600
  | .noContext => 0x0700
  | .contextInvalid => 0x0701
  | .contextStale => 0x0702
  | .cryptoCleared => 0x0703
  | .keySlot => 0x0704
  | .keyUsage => 0x0705
  | .keyExhausted => 0x0706
  | .entropyFail => 0x0707
  | .signLimit => 0x0708
  | .selftestFail => 0x0709
  | .flashWrite => 0x0800
  | .chainMismatch => 0x0900
  | .relayTimeout => 0x0901
  | .landfallMissed => 0x0902
  | .healthFail => 0x0903

/-- Event codes of Table 12-3, the complete list (R397). -/
inductive Ev where
  | frameOverrun
  | inputChatter
  | inputStuck
  | cellStartFail
  | cellDrainForced
  | powerOn
  | cellStarted
  | cellStopped
  | cellOffAccess
  | cellBistDone
  | eventsLost
  | portDnTimeout
  | portDqsNarrow
  | portDqsFail
  | policyNone
  | wbBlocked
  | wbDisagree
  | spEccUe
  | vfMismatch
  | vfNodeMismatch
  | vfOverflow
  | vfExpiry
  | compThawStart
  | compThawDone
  | compQuarantined
  | compKeyStale
  | compForced
  | compImageWritten
  | compFloorLost
  | compReleased
  | compHeld
  | compGolden
  | cryptoClear
  | cryptoKatFail
  | rngHealthFail
  | attMeasChanged
  | relayLinkDown
  | otpWeak
  | lcTransition
  | tamper
  | oksRevoked
  | debugGranted
  | zeroised
  | wdtExpiry
  | wdtTrapSave
  | wdtEscalate
  | baroCleared
  | baroQueueLost
  | bistFail
  | bistIncomplete
  | thermalStep
  | thermalShutdown
  | currentLimit
  | voltageAlarm
  | drizzleEnter
  | drizzleExit
  | fwUpdateStart
  | fwTrial
  | fwConfirmed
  | fwFallback
  | settingsReset
  | ucodeLoadFail
  | pairBound
  | takeover
  | heartbeatLost
  | vaultWear
  | vaultWriteFail
  deriving DecidableEq, Repr

/-- The 16-bit value of an event code (Table 12-3). -/
def Ev.code : Ev → Nat
  | .frameOverrun => 0x0001
  | .inputChatter => 0x0002
  | .inputStuck => 0x0003
  | .cellStartFail => 0x0004
  | .cellDrainForced => 0x0005
  | .powerOn => 0x0006
  | .cellStarted => 0x0010
  | .cellStopped => 0x0011
  | .cellOffAccess => 0x0012
  | .cellBistDone => 0x0013
  | .eventsLost => 0x00FF
  | .portDnTimeout => 0x1001
  | .portDqsNarrow => 0x1002
  | .portDqsFail => 0x1003
  | .policyNone => 0x1010
  | .wbBlocked => 0x1011
  | .wbDisagree => 0x1012
  | .spEccUe => 0x1020
  | .vfMismatch => 0x1021
  | .vfNodeMismatch => 0x1022
  | .vfOverflow => 0x1023
  | .vfExpiry => 0x1024
  | .compThawStart => 0x1101
  | .compThawDone => 0x1102
  | .compQuarantined => 0x1103
  | .compKeyStale => 0x1104
  | .compForced => 0x1105
  | .compImageWritten => 0x1106
  | .compFloorLost => 0x1107
  | .compReleased => 0x1108
  | .compHeld => 0x1109
  | .compGolden => 0x110A
  | .cryptoClear => 0x2001
  | .cryptoKatFail => 0x2002
  | .rngHealthFail => 0x2003
  | .attMeasChanged => 0x3001
  | .relayLinkDown => 0x3002
  | .otpWeak => 0x4001
  | .lcTransition => 0x4002
  | .tamper => 0x4003
  | .oksRevoked => 0x4004
  | .debugGranted => 0x4005
  | .zeroised => 0x4006
  | .wdtExpiry => 0x4010
  | .wdtTrapSave => 0x4011
  | .wdtEscalate => 0x4012
  | .baroCleared => 0x4020
  | .baroQueueLost => 0x4021
  | .bistFail => 0x4030
  | .bistIncomplete => 0x4031
  | .thermalStep => 0x4040
  | .thermalShutdown => 0x4041
  | .currentLimit => 0x4042
  | .voltageAlarm => 0x4043
  | .drizzleEnter => 0x4044
  | .drizzleExit => 0x4045
  | .fwUpdateStart => 0x5001
  | .fwTrial => 0x5002
  | .fwConfirmed => 0x5003
  | .fwFallback => 0x5004
  | .settingsReset => 0x5005
  | .ucodeLoadFail => 0x5006
  | .pairBound => 0x6001
  | .takeover => 0x6002
  | .heartbeatLost => 0x6003
  | .vaultWear => 0x6004
  | .vaultWriteFail => 0x6005

/-- Codes that appear in event-ring records only and never in the Barograph (R397). -/
def Ev.ringOnly : Ev → Bool
  | .cellStarted => true
  | .cellStopped => true
  | .cellOffAccess => true
  | .cellBistDone => true
  | .eventsLost => true
  | .compReleased => true
  | .compHeld => true
  | .compGolden => true
  | .attMeasChanged => true
  | _ => false

/-- States of a cell (R19, Table 02-4). -/
inductive CellState where
  | off | starting | active | draining
  deriving DecidableEq, Repr

/-- Encoding of CELL_STATE.STATE. -/
def CellState.code : CellState → Nat
  | off => 0 | starting => 1 | active => 2 | draining => 3

/-- The state a value of CELL_STATE.STATE denotes. -/
def CellState.ofCode : Nat → CellState
  | 0 => off | 1 => starting | 2 => active | _ => draining

/-- States of a guarded component (R18, Table 06-9). -/
inductive CompState where
  | held | verifying | released | contained | thawing | quarantined
  deriving DecidableEq, Repr

/-- Encoding of COMP_STATUS.STATE. -/
def CompState.code : CompState → Nat
  | held => 0 | verifying => 1 | released => 2 | contained => 3 | thawing => 4 | quarantined => 5

/-- The state a value of COMP_STATUS.STATE denotes. -/
def CompState.ofCode : Nat → CompState
  | 0 => held | 1 => verifying | 2 => released | 3 => contained | 4 => thawing | _ => quarantined

/-- Life-cycle states (R366, LC.STATE.STATE). -/
inductive LcState where
  | blank | test | production | endOfLife
  deriving DecidableEq, Repr

/-- Encoding of the field. -/
def LcState.code : LcState → Nat
  | blank => 0 | test => 1 | production => 2 | endOfLife => 3

/-- The state a value of the field denotes. -/
def LcState.ofCode : Nat → LcState
  | 0 => blank | 1 => test | 2 => production | _ => endOfLife

/-- States of a firmware update (R318, FW.STATE). -/
inductive FwState where
  | idle | preparing | writing | trial | restoring
  deriving DecidableEq, Repr

/-- Encoding of the field. -/
def FwState.code : FwState → Nat
  | idle => 0 | preparing => 1 | writing => 2 | trial => 3 | restoring => 4

/-- The state a value of the field denotes. -/
def FwState.ofCode : Nat → FwState
  | 0 => idle | 1 => preparing | 2 => writing | 3 => trial | _ => restoring

/-- States of a Front (R343, FRONT.STATE). -/
inductive FrontState where
  | idle | receiving | armed | committed | landed | settled | fellBack | aborted
  deriving DecidableEq, Repr

/-- Encoding of the field. -/
def FrontState.code : FrontState → Nat
  | idle => 0 | receiving => 1 | armed => 2 | committed => 3 | landed => 4 | settled => 5 | fellBack => 6 | aborted => 7

/-- The state a value of the field denotes. -/
def FrontState.ofCode : Nat → FrontState
  | 0 => idle | 1 => receiving | 2 => armed | 3 => committed | 4 => landed | 5 => settled | 6 => fellBack | _ => aborted

/-- States of the Crypto complex (CR.STATE, Table 07-12). -/
inductive CrState where
  | selftest | ready | clearing | error
  deriving DecidableEq, Repr

/-- Encoding of the field. -/
def CrState.code : CrState → Nat
  | selftest => 0 | ready => 1 | clearing => 2 | error => 3

/-- The state a value of the field denotes. -/
def CrState.ofCode : Nat → CrState
  | 0 => selftest | 1 => ready | 2 => clearing | _ => error

/-- Pair states (R412, Table 13-1). -/
inductive PairState where
  | owning | notOwning | yielded | listening | taking | returning
  deriving DecidableEq, Repr

/-- Encoding of the field. -/
def PairState.code : PairState → Nat
  | owning => 0 | notOwning => 1 | yielded => 2 | listening => 3 | taking => 4 | returning => 5

/-- The state a value of the field denotes. -/
def PairState.ofCode : Nat → PairState
  | 0 => owning | 1 => notOwning | 2 => yielded | 3 => listening | 4 => taking | _ => returning

end Sys2Proof.Machine
end

