-- ==== Sys2Proof/Machine/Bytes.lean ====
section
/-! DEFINITION. Byte strings: little-endian numbers (00_scope.md R16), slices, and the CRC-32 of IEEE 802.3 that records,
relay frames and pages carry. -/

namespace Sys2Proof.Machine

/-- The number a little-endian byte string denotes (R16). -/
def leNat : Bytes → Nat
  | [] => 0
  | b :: r => b.toNat + 256 * leNat r

/-- The little-endian string of n bytes of a number (R16). -/
def leBytes : Nat → Nat → Bytes
  | 0, _ => []
  | n + 1, v => BitVec.ofNat 8 v :: leBytes n (v / 256)

/-- The number a byte string denotes with its first byte most significant. -/
def beNat (b : Bytes) : Nat := b.foldl (fun a x => 256 * a + x.toNat) 0

/-- The byte string of n bytes of a number, most significant first (digests, R16; flash addresses). -/
def beBytes (n v : Nat) : Bytes := (leBytes n v).reverse

/-- Bytes [at, at + n) of a string; what lies beyond its end reads zero. -/
def slice (b : Bytes) (at_ n : Nat) : Bytes :=
  let r := (b.drop at_).take n
  r ++ List.replicate (n - r.length) 0

/-- The little-endian number of n bytes at an offset. -/
def leAt (b : Bytes) (at_ n : Nat) : Nat := leNat (slice b at_ n)

/-- One bit of the CRC-32 register of IEEE 802.3, reflected form. -/
def crcBit (c : BitVec 32) : BitVec 32 := if c.getLsbD 0 then (c >>> 1) ^^^ 0xEDB88320#32 else c >>> 1

/-- One byte into the CRC-32 register. -/
def crcByte (c : BitVec 32) (b : Byte) : BitVec 32 :=
  crcBit (crcBit (crcBit (crcBit (crcBit (crcBit (crcBit (crcBit (c ^^^ b.setWidth 32))))))))

/-- CRC-32 (IEEE 802.3) of a byte string. -/
def crc32 (b : Bytes) : Nat := ((b.foldl crcByte 0xFFFFFFFF#32) ^^^ 0xFFFFFFFF#32).toNat

/-- Zero padding to a length. -/
def padTo (n : Nat) (b : Bytes) : Bytes := b ++ List.replicate (n - b.length) 0

/-- Bit i of a number. -/
def bit (v i : Nat) : Bool := v.testBit i

/-- A number with bit i set to a value. -/
def withBit (v i : Nat) (b : Bool) : Nat :=
  if v.testBit i = b then v else if b then v + 2 ^ i else v - 2 ^ i

/-- The bits hi..lo of a number. -/
def bits (v lo w : Nat) : Nat := v / 2 ^ lo % 2 ^ w

/-- 1 for true and 0 for false, as a register bit. -/
def flag (b : Bool) : Nat := if b then 1 else 0

/-- The low 32 bits of a frame number. -/
def lo32 (v : Nat) : Nat := v % 2 ^ 32

/-- Lowest i below n that satisfies p. -/
def lowest (n : Nat) (p : Nat → Bool) : Option Nat := (List.range n).find? p

/-- Number of i below n that satisfy p. -/
def countUpTo (n : Nat) (p : Nat → Bool) : Nat := ((List.range n).filter p).length

end Sys2Proof.Machine
end

