-- ==== Sys2Proof/Machine/Hash.lean ====
section
/-! DEFINITION. Digests, HMAC and key derivation (07_crypto_engines.md R216, R220, R234), over the compression functions of FIPS 180-4 and FIPS
202, which the spec cites: padding, the form of STATE (Table 07-4), the outer hash of HMAC (FIPS 198-1) and the counter mode of SP 800-108. -/

namespace Sys2Proof.Machine

/-- Bytes in a block of an algorithm (Tables 07-1 and 07-3). -/
def algBlock : Nat → Nat
  | 0 => 64 | 1 => 128 | 2 => 128 | 3 => 136 | 4 => 104 | 5 => 72 | 6 => 168 | _ => 136

/-- Bytes of a digest. -/
def algLen (a outLen : Nat) : Nat :=
  match a with
  | 0 => 32 | 1 => 48 | 2 => 64 | 3 => 32 | 4 => 48 | 5 => 64 | _ => outLen

/-- Bytes of a SHA-2 chaining value. -/
def chainLen (a : Nat) : Nat := if a = 0 then 32 else 64

/-- Exclusive or of a string with a repeated byte. -/
def xorAll (v : Byte) (b : Bytes) : Bytes := b.map fun x => x ^^^ v

/-- What SHA-2 appends to a message of n bytes (FIPS 180-4): a one, zeros, and the length in bits in 8 or 16 bytes. -/
def shaPad (a n : Nat) : Bytes :=
  let block := algBlock a
  let lenField := if a = 0 then 8 else 16
  let zeros := (block - (n + 1 + lenField) % block) % block
  0x80 :: List.replicate zeros 0 ++ beBytes lenField (8 * n)

/-- What SHA-3 and SHAKE append to a message whose last part has n bytes (FIPS 202): the suffix, zeros, and the last bit of the block. -/
def sha3Pad (a n : Nat) : Bytes :=
  let k := algBlock a - n % algBlock a
  let suffix : Byte := if a < 6 then 0x06 else 0x1F
  if k = 1 then [suffix ^^^ 0x80] else suffix :: List.replicate (k - 2) 0 ++ [0x80]

/-- Absorb whole blocks of SHA-2 into a chaining value. -/
def shaChain (a : Nat) (chain blocks : Bytes) : Bytes := slice (Config.shaBlocks a chain blocks) 0 (chainLen a)

/-- The SHA-2 digest that a chaining value gives once the rest of a message of n bytes in all has been absorbed. -/
def shaEnd (a : Nat) (chain rest : Bytes) (n : Nat) : Bytes := slice (shaChain a chain (rest ++ shaPad a n)) 0 (algLen a 0)

/-- A SHA-2 digest of a whole message. -/
def shaDigest (a : Nat) (b : Bytes) : Bytes := shaEnd a (slice (Config.shaInit a) 0 (chainLen a)) b b.length

/-- SHA-384 of a byte string as 48 bytes, first byte first (R16). -/
def sha384b (b : Bytes) : Bytes := shaDigest 1 b

/-- The chaining value after the block that a pad byte makes of an HMAC key of at most one block (FIPS 198-1). -/
def hmacChain (a : Nat) (v : Byte) (key : Bytes) : Bytes :=
  shaChain a (slice (Config.shaInit a) 0 (chainLen a)) (xorAll v (padTo (algBlock a) key))

/-- The end of an HMAC: the inner digest, then the outer hash. -/
def hmacEnd (a : Nat) (inner outer rest : Bytes) (n : Nat) : Bytes :=
  shaEnd a outer (shaEnd a inner rest (algBlock a + n)) (algBlock a + algLen a 0)

/-- HMAC by ALG 0 to 2 of a whole message. -/
def hmac (a : Nat) (key b : Bytes) : Bytes := hmacEnd a (hmacChain a 0x36 key) (hmacChain a 0x5C key) b b.length

/-- SP 800-108 in counter mode with HMAC-SHA-384 (R234): the 32-bit counter stands before Label, a zero byte, Context and the length in
bits. -/
def kdf (key label context : Bytes) (n : Nat) : Bytes :=
  ((List.range ((n + 47) / 48)).flatMap fun i =>
    hmac 1 key (beBytes 4 (i + 1) ++ label ++ [0] ++ context ++ beBytes 4 (8 * n))).take n

/-- STATE of a digest before its first byte, in the 200 bytes of Table 07-4: for SHA-2 the chaining value, for HMAC that of the inner key block with
the outer-key state at 64. -/
def hashInit (a : Nat) (key : Option Bytes) : Bytes :=
  if a ≤ 2 then
    match key with
    | some k => padTo 200 (padTo 64 (hmacChain a 0x36 k) ++ hmacChain a 0x5C k)
    | none => padTo 200 (slice (Config.shaInit a) 0 (chainLen a))
  else List.replicate 200 0

/-- STATE after absorbing whole blocks. -/
def hashBlocks (a : Nat) (st blocks : Bytes) : Bytes :=
  if a ≤ 2 then padTo 64 (shaChain a (slice st 0 (chainLen a)) blocks) ++ slice st 64 136 else slice (Config.keccakBlocks a st blocks) 0 200

/-- The digest that STATE gives with the bytes not yet absorbed, after a count of bytes (R216). -/
def hashEnd (a : Nat) (keyed : Bool) (st buf : Bytes) (count outLen : Nat) : Bytes :=
  let chain := slice st 0 (chainLen a)
  if 2 < a then slice (Config.keccakOut a (hashBlocks a st (buf ++ sha3Pad a buf.length)) (algLen a outLen)) 0 (algLen a outLen)
  else if keyed then hmacEnd a chain (slice st 64 (chainLen a)) buf count
  else shaEnd a chain buf count

end Sys2Proof.Machine
end

