-- ==== Sys2Proof/Machine/SMap.lean ====
section
/-! DEFINITION. Sparse maps in one canonical form: keys strictly rising, and no entry equal to what an unlisted key reads
as. The register file and the HOME flash are such maps. -/

namespace Sys2Proof.Machine.SMap

variable {α : Type}

/-- The value at a key: the listed one, else what an unlisted key reads as. -/
def get (dflt : Nat → α) : List (Nat × α) → Nat → α
  | [], k => dflt k
  | (j, v) :: m, k => if j = k then v else get dflt m k

/-- List the value at the key, in its place. -/
def put : List (Nat × α) → Nat → α → List (Nat × α)
  | [], k, v => [(k, v)]
  | (j, w) :: m, k, v =>
    if k < j then (k, v) :: (j, w) :: m else if j = k then (k, v) :: m else (j, w) :: put m k v

/-- Take the key off the list. -/
def drop : List (Nat × α) → Nat → List (Nat × α)
  | [], _ => []
  | (j, w) :: m, k => if j = k then drop m k else (j, w) :: drop m k

/-- Write a value: writing what an unlisted key reads as takes the key off the list. -/
def set [DecidableEq α] (dflt : Nat → α) (m : List (Nat × α)) (k : Nat) (v : α) : List (Nat × α) :=
  if v = dflt k then drop m k else put m k v

/-- Keys strictly rising from a bound on. -/
def sortedFrom : Nat → List (Nat × α) → Bool
  | _, [] => true
  | b, (j, _) :: m => decide (b ≤ j) && sortedFrom (j + 1) m

/-- The canonical form. -/
def wf [DecidableEq α] (dflt : Nat → α) (m : List (Nat × α)) : Bool :=
  sortedFrom 0 m && m.all fun e => decide (e.2 ≠ dflt e.1)

end Sys2Proof.Machine.SMap
end

