-- ==== Sys2Proof/Machine/Data.lean ====
section
/-! DEFINITION. The plain data that commands carry and that the state holds beside the registers. -/

namespace Sys2Proof.Machine

/-! ## Commands and their issuers (08_host_rings.md) -/

/-- Who issues a command: a ring of a function, the mailbox of an I3C target (R286), or the firmware itself (R9). -/
inductive Port where
  | fn (f : Fin 256) | i3c (k : Fin 2) | fw
  deriving DecidableEq, Repr

/-- Names one dispatched descriptor: issuer, ring of the function, SQ index. -/
structure OpRef where
  port : Port
  ring : Nat
  index : Nat
  deriving DecidableEq, Repr

/-- A descriptor as the engine has fetched it: its 64 bytes (Table 08-5), bit b of the byte at offset k as bit 8k + b; the entries of its
gather and scatter lists, if it has any (R269); the bytes that its source holds; and the address of a read of its own data that failed
(R275). -/
structure Desc where
  ref : OpRef
  raw : BitVec 512
  gather : List (BitVec 128)
  scatter : List (BitVec 128)
  src : Bytes
  failAddr : Option Nat
  deriving DecidableEq, Repr

namespace Desc

/-- OPCODE, FENCE, QUIET, INT, SGL_SRC and SGL_DST, TAG, SRC_LEN and DST_LEN (Table 08-5). -/
def opcode (x : Desc) : Nat := (x.raw.extractLsb' 0 16).toNat
def fence (x : Desc) : Bool := x.raw.getLsbD 16
def quiet (x : Desc) : Bool := x.raw.getLsbD 17
def intr (x : Desc) : Bool := x.raw.getLsbD 18
def sglSrc (x : Desc) : Bool := x.raw.getLsbD 19
def sglDst (x : Desc) : Bool := x.raw.getLsbD 20
def tag (x : Desc) : Word := x.raw.extractLsb' 32 32
def srcField (x : Desc) : Nat := (x.raw.extractLsb' 128 32).toNat
def dstField (x : Desc) : Nat := (x.raw.extractLsb' 160 32).toNat

/-- A PARAM field of w bits at an offset within PARAM (Table 08-6). -/
def par (x : Desc) (off w : Nat) : BitVec w := x.raw.extractLsb' (256 + 8 * off) w

/-- LEN of a list entry, and its reserved bytes (R269). -/
def entryLen (e : BitVec 128) : Nat := (e.extractLsb' 64 32).toNat
def entryReserved (e : BitVec 128) : Bool := e.extractLsb' 96 32 ≠ 0

/-- The gather sum (R269). -/
def gatherSum (x : Desc) : Nat := if x.sglSrc then (x.gather.map entryLen).sum else x.srcField

/-- Bytes of the destination: DST_LEN, or the sum over the scatter list. -/
def dstLen (x : Desc) : Nat := if x.sglDst then (x.scatter.map entryLen).sum else x.dstField

/-- A list has 1 to 256 entries (Table 08-5, R269). -/
def listsOk (x : Desc) : Bool :=
  (!x.sglSrc || decide (1 ≤ x.srcField ∧ x.srcField ≤ 256)) && (!x.sglDst || decide (1 ≤ x.dstField ∧ x.dstField ≤ 256))

/-- Reserved bits of PARAM in the digest layout (Table 08-6). -/
def digestReserved : Nat := 0xFF00000000000000FC00FC00FC008080

/-- Commands whose PARAM has the digest layout (Table 08-6). -/
def hasDigestParam (o : Nat) : Bool := decide ((0x100 ≤ o ∧ o ≤ 0x103) ∨ o = 0x108 ∨ o = 0x10A)

/-- A reserved bit of the descriptor, or a reserved byte of a list entry, is not zero (R269). -/
def reserved (x : Desc) : Bool :=
  x.raw.extractLsb' 21 11 ≠ 0 || (x.sglSrc && x.gather.any entryReserved) || (x.sglDst && x.scatter.any entryReserved)
    || (hasDigestParam x.opcode && (x.par 0 128).toNat &&& digestReserved ≠ 0)

/-- The lists are those that the descriptor names: one of up to 256 entries is read whole. -/
def listsRead (x : Desc) : Bool :=
  (!x.sglSrc || decide (256 < x.srcField) || x.gather.length = x.srcField)
    && (!x.sglDst || decide (256 < x.dstField) || x.scatter.length = x.dstField)

end Desc

/-- An operation that has been dispatched (R273): its result once it has one, the digest context that it works on, the blocks
that a lane has still to digest for it (R211), and the work that its engine counts when it completes. -/
structure Op where
  ref : OpRef
  opcode : Nat
  tag : Word
  quiet : Bool
  intr : Bool
  status : Option Status
  verdict : Nat
  result0 : Nat
  result1 : Nat
  dst : Bytes
  ctx : Nat
  left : Nat
  work : Nat
  deriving DecidableEq, Repr

/-- What a command answers: nothing yet when it completes later (R273). -/
structure Ans where
  status : Option Status
  verdict : Nat := 0
  result0 : Nat := 0
  result1 : Nat := 0
  dst : Bytes := []
  ctx : Nat := 0
  left : Nat := 0
  work : Nat := 0
  deriving DecidableEq, Repr

/-- Where the start of the device stands (10_own_firmware_update.md R307 to R311; 11 R356, R369; 14 R445; 15 R460). -/
inductive Phase where
  | off | romWaiting | noStart | integrityFail | lcRepair | pilotDown | running | shutdown | halted
  deriving DecidableEq, Repr

/-- The source of an event record: a cell or a component (Table 12-2). -/
inductive Source where
  | cell (c : Cell) | comp (n : Nat)
  deriving DecidableEq, Repr

/-- An event record waiting for an event ring (R276). -/
structure EvtRec where
  code : Nat
  result0 : Nat
  result1 : Nat
  deriving DecidableEq, Repr

/-- An RCT entry as read at ENABLE (Table 08-3). -/
structure Rct where
  sqBase : Nat
  cqBase : Nat
  sqLog2 : Nat
  cqLog2 : Nat
  kind : Nat
  rflags : Nat
  vector : Nat
  intCount : Nat
  intFrames : Nat
  reservedZero : Bool
  deriving DecidableEq, Repr

/-- Bytes 0x00 to 0x2F of an RCT entry, bit b of the byte at offset k as bit 8k + b (Table 08-3). -/
def parseRct (b : BitVec 384) : Rct where
  sqBase := (b.extractLsb' 0 64).toNat
  cqBase := (b.extractLsb' 64 64).toNat
  sqLog2 := (b.extractLsb' 128 8).toNat
  cqLog2 := (b.extractLsb' 136 8).toNat
  kind := (b.extractLsb' 144 8).toNat
  rflags := (b.extractLsb' 152 8).toNat
  vector := (b.extractLsb' 160 16).toNat
  intCount := (b.extractLsb' 176 8).toNat
  intFrames := (b.extractLsb' 192 16).toNat
  reservedZero := b.extractLsb' 184 8 = 0 && b.extractLsb' 208 176 = 0

/-- SQ_TAIL and CQ_HEAD of ring i of a group, in its line of the Doorbell Page (Table 08-4). -/
def lineTail (l : BitVec 512) (i : Nat) : Nat := (l.extractLsb' (32 * i) 16).toNat
def lineHead (l : BitVec 512) (i : Nat) : Nat := (l.extractLsb' (256 + 32 * i) 16).toNat

/-- A ring that is not OFF (R260, R261, R279). -/
structure Ring where
  state : CellState
  pendingEnable : Bool
  rct : Rct
  sqHead : Nat
  sqTail : Nat
  cqTail : Nat
  cqHead : Nat
  phase : Bool
  unsignalled : Nat
  oldest : Nat
  intNow : Bool
  cached : Bool
  lastUse : Nat
  deriving DecidableEq, Repr

/-- A PCIe function beyond its register block (R256, R257, R259, R261, R265, R266, R276, R279): Bus Master Enable, Memory Space Enable,
MSI-X Enable and Function Mask in its configuration space; the DB_SEQ seen last, the one under which group lines are being read and the lines
still to be read; idle frames, the frame in which the sleep hint was written and not yet confirmed, the frame of the last drowsy scan or wake,
the frame in which it was enabled, its rings, RING_CTL writes to be taken (ring, OP, frame), event records to be posted, those lost since the
last one posted, and whether the vector of FN_INT is due. -/
structure Fn where
  bme : Bool := false
  mse : Bool := false
  msix : Bool := false
  msixMask : Bool := false
  dbSeq : Nat := 0
  dbNext : Nat := 0
  groups : List (Fin 32) := []
  idle : Nat := 0
  confirm : Option Nat := none
  scanAt : Nat := 0
  enabled : Nat := 0
  rings : List (Nat × Ring) := []
  ctl : List (Nat × Nat × Nat) := []
  events : List EvtRec := []
  lost : Nat := 0
  intDue : Bool := false
  deriving DecidableEq, Repr

/-- What the ring engine has done in the present frame (R265): descriptors fetched, each with its function and ring; group lines read; RCT fills
and write-backs; completions written. -/
structure HostUse where
  fetched : List (Fin 256 × Nat) := []
  lines : Nat := 0
  fills : Nat := 0
  posted : Nat := 0
  deriving DecidableEq, Repr

/-- A completion to be written to a CQ (Table 08-7). -/
structure Cpl where
  op : Op
  sqHead : Nat
  deriving DecidableEq, Repr

/-- The mailbox of one I3C target (R284, R286). -/
structure Mbx where
  desc : Bytes := List.replicate 64 0
  cpl : Bytes := List.replicate 32 0
  data : Bytes := []
  appended : Bytes := []
  busy : Bool := false
  phase : Bool := false
  lastStatus : Nat := 0
  deriving DecidableEq, Repr

/-! ## Cells, inputs and supervision (02_frames_cells_map.md, 12_supervision.md) -/

/-- What a cell's header does not show: whether a group's own logic is ACTIVE (R61), the frame from which START_FRAMES or
the drain limit counts (R58, R59), whether it waits for its parent (R63), whether an ENABLE of the group is to reach its
descendants, and the descendants it waits for (R61). -/
structure CellX where
  ownUp : Bool := false
  since : Nat := 0
  waitParent : Bool := false
  enabling : Bool := false
  waits : List Cell := []
  deriving DecidableEq, Repr

/-- A Pilot task bound to a core (R37), and whose it is. -/
inductive TaskOf where
  | op (r : OpRef) | cell (c : Cell) | work (id : Nat)
  deriving DecidableEq, Repr

/-- A committed slice cost (R37, R40), with the first frame of the task and its last. -/
structure Task where
  of : TaskOf
  core : Nat
  cost : Nat
  start : Nat
  last : Nat
  deriving DecidableEq, Repr

/-- A conditioned input (R46 to R50): last raw sample (active), consecutive samples differing from the conditioned level,
raw changes in the window, consecutive frames of one raw level, frames of active conditioned level. -/
structure Inp where
  raw : Bool := false
  run : Nat := 0
  changes : Nat := 0
  steady : Nat := 0
  active : Nat := 0
  deriving DecidableEq, Repr

/-- A BIST run in progress (R403 to R405). -/
structure BistRun where
  cell : Cell
  frames : Nat
  waiting : Bool
  deriving DecidableEq, Repr

/-- A Barograph record waiting to be written (Table 12-2). -/
structure BaroRec where
  code : Nat
  flags : Nat
  source : Nat
  hours : Nat
  seconds : Nat
  cycles : Nat
  frame : Nat
  seq : Nat
  detail0 : Nat
  detail1 : Bytes
  deriving DecidableEq, Repr

/-- The Barograph beyond its registers (R389 to R391, R397): the queue, the records lost since the last accepted one, the
timestamp latched in slot 0, frames of the present second (R390), and the windows of the rate limits by key. -/
structure Baro where
  queue : List BaroRec := []
  lost : Nat := 0
  hours : Nat := 0
  seconds : Nat := 0
  cycles : Nat := 0
  frame : Nat := 0
  ticks : Nat := 0
  windows : List (Nat × Nat) := []
  deriving DecidableEq, Repr

/-- The watchdog beyond its registers (R381 to R384, R386): the last frame in which it is armed, the values under which the
period in progress is judged, the frame that started it, and the frame in which the hard timer ends with whether it
escalates. -/
structure Wdt where
  armedTo : Option Nat := none
  opens : Nat := 0
  closes : Nat := 0
  enrolled : Nat := 0
  mode : Nat := 0
  start : Nat := 0
  trapEnd : Option (Nat × Bool) := none
  deriving DecidableEq, Repr

/-- The event counters beyond their registers (R400 to R402). -/
structure Cnt where
  tally : List (Nat × Nat) := []
  load : List (Nat × Nat) := []
  selected : List (Nat × Nat) := []
  clear : Nat := 0
  snapshot : Option OpRef := none
  deriving DecidableEq, Repr

/-! ## Policy and OXM (04_windbreak_policy.md, 10_own_firmware_update.md) -/

/-- A pair record (Table 04-2). -/
structure PairRec where
  mode : Nat
  freq : Nat
  dummy : Nat
  tshsl : Nat
  readOpc : Nat
  pflags : Nat
  deriving DecidableEq, Repr

/-- A region descriptor (Table 04-4). -/
structure Region where
  base : Nat
  limit : Nat
  cls : Nat
  action : Nat
  role : Nat
  deriving DecidableEq, Repr

/-- A window descriptor (Table 04-4). -/
structure Window where
  base : Nat
  limit : Nat
  perm : Nat
  deriving DecidableEq, Repr

/-- A component record (Table 04-3). -/
structure CompRec where
  startMode : Nat
  runMode : Nat
  freqMax : Nat
  densityLog2 : Nat
  cflags : Nat
  swOpc : Nat
  swData : Nat
  wrsrMode : Nat
  wpBits : Nat
  idLen : Nat
  idBytes : Bytes
  fill : Nat
  flashLog2 : Nat
  pageLog2 : Nat
  eraseTypes : Nat
  progLimit : Nat
  eraseLimit : Nat
  oxmLoc : Nat
  oxmLen : Nat
  horizon : Nat
  regions : List Region
  windows : List Window
  deriving DecidableEq, Repr

/-- A Guard Policy whose records have been parsed (Table 04-1). -/
structure Policy where
  origin : Nat
  profile : Nat
  seq : Nat
  svn : Nat
  flags : Nat
  ownerSlot : Nat
  pairs : List (Nat × PairRec)
  comps : List (Nat × CompRec)
  deriving DecidableEq, Repr

/-- A PART entry of an OXM (Table 10-6, Tables 05-1 and 06-3). -/
structure Part where
  required : Bool
  boot : Nat
  base : Nat
  len : Nat
  treeAddr : Nat
  treeLen : Nat
  root : Bytes
  deriving DecidableEq, Repr

/-- A component OXM (Table 10-5, KIND 0 or 1), with its bytes. -/
structure Oxm where
  kind : Nat
  svn : Nat
  slot : Nat
  target : Nat
  parts : List Part
  raw : Bytes
  deriving DecidableEq, Repr

/-! ## The flash path (03_port_pairs.md, 05_verified_fetch.md, 06_hold_release_thaw.md) -/

/-- Decisions of the Windbreak, the more restrictive first (R129, R141). -/
inductive Decision where
  | block | fill | emulate | forward
  deriving DecidableEq, Repr

/-- Granule states with a frame (Table 05-4); ABSENT is the lack of one. -/
inductive GState where
  | pending | cached | buffered | pinned | refetch
  deriving DecidableEq, Repr

/-- A granule frame of Snowpack: whose granule it holds, its bank, its state, its bytes with those not yet present
missing, and whether they are verified (R151, R162). -/
structure Frame where
  gc : Nat
  granule : Nat
  bank : Nat
  state : GState
  bytes : List (Nat × Byte)
  verified : Bool
  deriving DecidableEq, Repr

/-- A node-store slot: component, part by its PART_BASE and ROOT, level, index, its bank, whether it is a rooted slot (R151, R154, R173). -/
structure Node where
  gc : Nat
  part : Nat
  root : Bytes
  level : Nat
  index : Nat
  bank : Nat
  rooted : Bool
  bytes : Bytes
  deriving DecidableEq, Repr

/-- A pending-check entry (R164): its place in PC[c], the granule, action, horizon, the parts with their roots in force
when it was opened, and the frame in which it was opened. -/
structure Pend where
  gc : Nat
  e : Nat
  granule : Nat
  action : Nat
  horizon : Nat
  parts : List Part
  born : Nat
  deriving DecidableEq, Repr

/-- Snowpack beyond its registers: frames and nodes with the most recently used first, the pending entries, and the
granules not to be prefetched (R163). -/
structure Snow where
  frames : List Frame := []
  nodes : List Node := []
  pend : List Pend := []
  noPrefetch : List (Nat × Nat) := []
  scrub : Nat := 0
  deriving DecidableEq, Repr

/-- What a verification stream is for: a start or re-verification, pass 1 or pass 3 of a thaw (R157, R183, R195). -/
inductive StreamFor where
  | verify | golden | thaw3
  deriving DecidableEq, Repr

/-- A verification stream (R157, R183): the parts still to be streamed with whether each is streamed in full, the next
granule of the first, whether its level-1 node has been read, and whether a node or granule has failed. -/
structure Stream where
  what : StreamFor
  parts : List (Bool × Part)
  next : Nat
  nodeDone : Bool
  failed : Bool
  deriving DecidableEq, Repr

/-- A step of a row of writes to a flash (R101, R103, Table 06-5, R204): an erase of `len` bytes or a program, with its address, after a
Write Enable of its own and polled to its end; an erase unit written, or skipped as equal; a golden granule that has failed. -/
inductive WStep where
  | erase (addr len : Nat)
  | program (addr : Nat) (bytes : Bytes)
  | unit (written : Bool)
  | bad
  deriving DecidableEq, Repr

/-- A program or erase issued downstream and not yet complete (R103): an erase or a program, the frame of issue, whether the
device itself made it, and the steps that follow it. -/
structure DnOp where
  erase : Bool
  frame : Nat
  own : Bool
  rest : List WStep
  deriving DecidableEq, Repr

/-- The device's own writes of a thaw or an image write (R195, R204): whether they have been worked out, and what ended them early. -/
structure Writes where
  planned : Bool := false
  fault : Option Status := none
  deriving DecidableEq, Repr

/-- A thaw in progress (R195): the pass, and its writes. -/
structure Thaw where
  pass : Nat
  writes : Writes := {}
  deriving DecidableEq, Repr

/-- The bytes so far of a node or granule that is read in several transactions (R101, R165): for what it is read and its address. -/
structure Piece where
  what : Nat
  addr : Nat
  bytes : Bytes
  deriving DecidableEq, Repr

/-- An image write in progress (R203, R204), with its writes, and whether they are those of its OXM. -/
structure ImgWrite where
  golden : Bool
  oxm : Bytes
  image : Bytes
  count : Nat
  requester : OpRef
  front : Bool
  writes : Writes := {}
  storing : Bool := false
  deriving DecidableEq, Repr

/-- A failed check of a RELEASED component, until RELEASE falls (R169): cause of VF_LAST, granule, age, frame. -/
structure Fail where
  cause : Nat
  granule : Nat
  age : Nat
  frame : Nat
  deriving DecidableEq, Repr

/-- The upstream port and the flash path of GCn beyond their registers: the entry in force and the entry staged (R137,
R138; a staged removal is `some none`), the opcode of the last transaction, the opcode of continuous read, the flash's ID
bytes (R86), the emulated SFDP image and the flash's own SFDP bytes (R87), the poison gate and the failures of a containment under way (R169), the granule in which the last
read ended (R163), the operation in progress downstream, the bytes moved by its priority-4 transactions (R99), what is being read in
several transactions, and whether pin fetches are in progress (Table 05-6). -/
structure Gc where
  entry : Option CompRec := none
  staged : Option (Option CompRec) := none
  lastOpc : Nat := 0
  contOpc : Nat := 0
  idBytes : Bytes := []
  sfdp : Bytes := []
  sfdpRaw : Bytes := []
  poisoned : Bool := false
  fails : List Fail := []
  lastGranule : Option Nat := none
  op : Option DnOp := none
  stream : Option Stream := none
  thaw : Option Thaw := none
  write : Option ImgWrite := none
  audit : Bool := false
  moved : Nat := 0
  pieces : List Piece := []
  pinning : Bool := false
  deriving DecidableEq, Repr

/-- A port pair beyond its registers: pair record in force and staged (`some none` removes it), disagreements of the filter engines
in the window (R142) with the window, D_RST_N connected (R456), the sweep of a retraining (next tap and
taps that passed), Tj of the last training, impedance code waiting and the frame of the latest calibration (R108). -/
structure Pair where
  record : Option PairRec := none
  staged : Option (Option PairRec) := none
  disagree : Nat := 0
  window : Nat := 0
  rstN0 : Bool := true
  rstN1 : Bool := true
  sweep : Option (Nat × Nat × List Nat) := none
  trainTj0 : Nat := 0
  trainTj1 : Nat := 0
  zqNext : Option Nat := none
  zqAt : Nat := 0
  deriving DecidableEq, Repr

/-- A component beyond its registers: OXM in force and golden OXM, frames at which thaws began (R194), the frame RELEASE
fell (R188), a thaw request to be taken up (R169 step 5, R182), a revocation to be examined (R199), whether its release was
forced and waits for the next tick (R201), and whether the refill of R427 runs. -/
structure Comp where
  oxm : Option Oxm := none
  golden : Option Oxm := none
  thaws : List Nat := []
  fell : Nat := 0
  thawDue : Bool := false
  revoked : Option Nat := none
  forceDue : Bool := false
  refill : Bool := false
  deriving DecidableEq, Repr

/-- The policy beyond its registers: the object in force, the object of a load in progress and who asked for it, whether it is stored and
in which HOME copy, the chip selects that have still to meet it, and the object that a Pilot reset interrupted in its swaps (R140). -/
structure Pol where
  bytes : Bytes := []
  load : Option Bytes := none
  requester : Option OpRef := none
  stored : Bool := false
  copy : Nat := 0
  todo : List Nat := []
  swapping : Bytes := []
  deriving DecidableEq, Repr

/-- Ownership beyond PAIR.STATE (13_standby_takeover.md R412 to R414, R424, R429): the frame of the first raw-active sample while
frozen, the frame OWN_OUT fell, the frame of entry into TAKING and whether its record has been applied, the levels of HEARTBEAT
and OWN_OUT, whether RELEASE is driven, a STANDBY_RETURN that waits for its record or its end, the private key of the pairing offer,
and what the record of a takeover leads to: components continued, held and verified again, and a record that is too new. -/
structure Own where
  frozen : Option Nat := none
  outFell : Option Nat := none
  taking : Option Nat := none
  applied : Bool := false
  beat : Bool := false
  ownOut : Bool := false
  drivesRelease : Bool := false
  returning : Option OpRef := none
  offer : Option Bytes := none
  detail : Nat := 0
  tail : List BaroRec := []
  deriving DecidableEq, Repr

/-- The vault as its writer sees it (R421 to R423): where the next record goes, whether one has been written, the items of the latest
record, what the DIRTY marks have covered (levels and modes by component; policy, OXMs, revocations and versions), marks in the
mark log, the frame after that of the latest mark, frames at which the log wrapped, and the frame of the latest wear event. -/
structure Vault where
  next : Nat := 0x10000
  written : Bool := false
  items : List Nat := []
  seen : List Nat := []
  seenAll : List Nat := []
  marks : Nat := 0
  markedTo : Nat := 0
  wraps : List Nat := []
  wornAt : Option Nat := none
  deriving DecidableEq, Repr

/-- What a checkpoint says of a component (Table 13-5, Table 13-7): its state, READY, hold reasons, GOLDEN, mode, address mode and
write-protect view, and the DIRTY mark bit that covers it. -/
structure TkComp where
  state : CompState
  ready : Bool
  hold : Nat
  golden : Nat
  mode : Nat
  addr4 : Nat
  wpView : Nat
  marked : Bool
  thaws : Nat
  deriving DecidableEq, Repr

/-- A checkpoint record that passed its tag (R419, R420): GEN, WRITER, PASS, whether an ALL mark follows it, and its sections. -/
structure TkRec where
  gen : Nat
  writer : Bytes
  pass : Nat
  allMarked : Bool
  fwSvn : Nat
  polSvn : Nat
  revoked : Nat
  floors : List Nat
  policy : Bytes
  staged : List (Nat × Option CompRec)
  oxms : List (Nat × Bytes)
  goldens : List (Nat × Bytes)
  comps : List (Nat × TkComp)
  entries : List (Nat × Bytes)
  measGen : Nat
  fns : List (Nat × List Nat)
  owners : List (Nat × Nat)
  settings : Bytes
  tail : List BaroRec
  deriving DecidableEq, Repr

/-! ## Power, clocks and temperature (14_power_clock_thermal.md) -/

/-- A staged change of the governor step (R443): the new step, whether it rises, whether current caused it. -/
structure StepTo where
  step : Nat
  up : Bool
  current : Bool
  deriving DecidableEq, Repr

/-- The monitors beyond their registers (R443 to R445): the highest sensor of each of the latest 16 frames, the frame of
the last change, frames at or below GOV_TRIP - 5 and at or above CUR_WARN, evaluations at the shutdown threshold, the
change to be made at the next tick, and the frame in which a shutdown began. -/
structure Mon where
  hist : List Int := []
  changed : Option Nat := none
  cool : Nat := 0
  warn : Nat := 0
  hot : Nat := 0
  staged : Option StepTo := none
  shutAt : Option Nat := none
  deriving DecidableEq, Repr

/-- Power domains of Table 14-1 by number: those switched on, those waiting to be, in order of request, and the
switches closed in the present frame (R433, R434). -/
structure Pwr where
  on : List Nat := []
  queue : List Nat := []
  closed : Nat := 0
  deriving DecidableEq, Repr

/-- Drizzle beyond DRZ.STATE (R439, R441): cause of the wake that is latched, the frame it came, cells that entry disabled. -/
structure Driz where
  wake : Option Nat := none
  wakeAt : Nat := 0
  cells : List Cell := []
  deriving DecidableEq, Repr

/-! ## The Crypto complex (07_crypto_engines.md) -/

/-- Parameters of a digest command (Table 07-3). -/
structure DigestParam where
  alg : Nat
  keyed : Bool
  keySlot : Nat
  total : Nat
  chunk : Nat
  outLen : Nat
  expectLen : Nat
  dest : Nat
  destSlot : Nat
  destAttr : Nat
  handle : Nat
  save : Nat
  deriving DecidableEq, Repr

/-- The digest parameters that a descriptor carries (Table 08-6). -/
def Desc.digest (x : Desc) : DigestParam where
  alg := (x.raw.extractLsb' 256 4).toNat
  keyed := x.raw.getLsbD 260
  dest := (x.raw.extractLsb' 261 2).toNat
  expectLen := (x.raw.extractLsb' 264 7).toNat
  outLen := (x.raw.extractLsb' 272 10).toNat
  keySlot := (x.raw.extractLsb' 288 10).toNat
  destSlot := (x.raw.extractLsb' 304 10).toNat
  total := (x.par 0x08 48).toNat
  destAttr := (x.par 0x0E 8).toNat
  chunk := (x.par 0x10 32).toNat
  handle := (x.par 0x14 32).toNat
  save := (x.par 0x18 64).toNat

/-- Where a context is: on chip, in host memory, or waiting for a free internal context since a frame (R219). -/
inductive Place where
  | internal | exported | waiting (since : Nat)
  deriving DecidableEq, Repr

/-- A digest context (R218 to R223); `once` marks one that ends with the operations on it: that of a DIGEST, and one whose handle has been
destroyed; `attr` holds the attributes of the key of a keyed one, `held` the last frame in which its job held a lane, `fw` says that it
is the firmware's (R212). -/
structure Ctx where
  handle : Nat
  fnum : Nat
  ring : Nat
  alg : Nat
  keyed : Bool
  attr : Nat
  outLen : Nat
  total : Nat
  chain : Bytes
  buf : Bytes
  count : Nat
  save : Nat
  place : Place
  once : Bool
  held : Nat
  fw : Bool
  deriving DecidableEq, Repr

/-- A digest command that waits for its context (R219, R222, R223): descriptor, opcode, parameters, the bytes to compare with. -/
structure Deferred where
  desc : Desc
  opcode : Nat
  param : DigestParam
  expect : Bytes
  deriving DecidableEq, Repr

/-- The material of a key slot, and the encryptions made under it (R231, R237). -/
structure Key where
  bytes : Bytes := []
  uses : Nat := 0
  deriving DecidableEq, Repr

/-- The tests under way (R230, R244). -/
inductive Tests where
  | none | powerUp | squall
  deriving DecidableEq, Repr

/-- The Crypto complex beyond its registers: contexts, the last sequence number of a handle, deferred commands, key material,
whether no wrap key could be drawn (R228 step 5), tests under way, jobs on lanes in the present frame, tap blocks of the
frame per lane, generate requests, frame of the latest reseed, frame of the latest health failure, CTX_IMPORT commands that wait for
their slots with their CTX_SAVE, exports and imports of the present frame (R219), whether the DRBG has its seed and a wrap key is still to be
drawn (R221, R238), and the operation that the signature engine performs (R240). -/
structure Crypto where
  ctxs : List Ctx := []
  seq : Nat := 0
  deferred : List Deferred := []
  keys : List (Nat × Key) := []
  noWrap : Bool := false
  tests : Tests := .none
  lanes : List (Nat × Nat) := []
  taps : List (Nat × Nat) := []
  gen : Nat := 0
  reseedAt : Nat := 0
  healthAt : Option Nat := none
  imports : List (Desc × Nat) := []
  exported : Nat := 0
  imported : Nat := 0
  seeded : Bool := false
  wrapDue : Bool := false
  se : Option OpRef := none
  deriving DecidableEq, Repr

/-! ## OTP (11_lifecycle_otp_debug.md) -/

/-- An OTP word at the three reference levels (R351). -/
structure OtpWord where
  normal : Nat := 0
  high : Nat := 0
  low : Nat := 0
  deriving DecidableEq, Repr

/-- What happens when a burn reaches a place or its end. -/
inductive BurnAct where
  | answer (r : OpRef) | pulses (r : OpRef) | reburn (w : Nat) | revoke (k : Nat) | transition (k : Nat) (r : Option OpRef)
  | zeroise (r : Option OpRef) | clearKeys (why : Nat) | policySvn | grant (level : Nat) (r : OpRef) | repaired | lcRepaired | bound (r : OpRef)
  deriving DecidableEq, Repr

/-- A step of a burn: the bits of a word to be burned, each pulsed unless it reads 1 already, at margin-high when `strong`
(R355, R358); or an act. -/
inductive BurnStep where
  | word (w : Nat) (v : Nat) (strong : Bool)
  | act (a : BurnAct)
  deriving DecidableEq, Repr

/-- A burn in progress: its steps, the pulse under way (word and bit), pulses given to that bit, pulses in all, and the
command that a failure answers (R354). -/
structure Burn where
  steps : List BurnStep
  pulse : Option (Nat × Nat)
  tries : Nat
  pulses : Nat
  requester : Option OpRef
  deriving DecidableEq, Repr

/-- The OTP controller beyond its registers: burns in order, whether the internal pump can hold its voltage, words recorded as
WEAK since power-on (R352), the next word to be re-read with the frame of the last re-read, whether the device secret path
is closed (R373, R374), and the frame of the last retry of a repair (R357, R369). -/
structure OtpX where
  burns : List Burn := []
  pump : Bool := false
  weakSeen : List Nat := []
  recheck : Nat := 0
  recheckAt : Nat := 0
  secretClosed : Bool := false
  zeroiseDue : Bool := false
  retryAt : Nat := 0
  deriving DecidableEq, Repr

/-- Debug authorisation beyond its registers: the open challenge with the frame of its expiry (R371), a Pilot halted through JTAG
and the levels that EXTEST drives on the pins (R370). -/
structure Dbg where
  challenge : Option (Bytes × Nat) := none
  halted : Bool := false
  extest : Option Nat := none
  deriving DecidableEq, Repr

/-- The run since the last power-on or device reset: straps as latched (R458), the level of PERST_N, the frame of a device reset
that is due (R367), VF Enable and NumVFs (R281), the lanes and the generation at which the link runs, 0 when it is down (R254, R283), boot sources still to be tried with the frame of the latest change (R309, R311),
the bytes staged by a recovery transfer (R309), and, until the firmware's first start after a reset of the device, whether that was a power-on reset (R390). -/
structure Run where
  profile : Bool := false
  bootOrder : Nat := 0
  groupRole : Bool := false
  perst : Bool := false
  resetDue : Option Nat := none
  vfEnable : Bool := false
  numVfs : Nat := 0
  linkWidth : Nat := 0
  linkGen : Nat := 0
  sources : List Nat := []
  sourceAt : Nat := 0
  recBytes : Bytes := []
  fresh : Option Bool := none
  deriving DecidableEq, Repr

/-! ## Attestation (09_attestation.md) -/

/-- ERROR codes of an SPDM response that R299 to R304 name, and those of DSP0274 for a request out of turn, for a session whose
FINISH fails and for another version (PRESUMED, log entry 19). -/
inductive SpdmError where
  | invalidRequest | unsupportedRequest | unspecified | responseNotReady (rdtExponent rdtm : Nat) | largeResponse (handle : Nat) | requestResynch
  | sessionLimitExceeded | unexpectedRequest | decryptError | versionMismatch
  deriving DecidableEq, Repr

/-- Algorithms and specifications that the responder selects (Table 09-6). -/
inductive SpdmAlg where
  | ecdsaP384 | sha384 | dmtf | secp384r1 | aes256Gcm | spdm
  deriving DecidableEq, Repr

/-- The head of an SPDM request: its version, and whether its length agrees with its fields (R299, R300). -/
structure ReqHead where
  version : Byte
  whole : Bool
  deriving DecidableEq, Repr

/-- SPDM responses (R299 to R303), with what R299, R301 and R303 give of their content: the wire layout of DSP0274 is not
in the spec, but for the lengths that large responses are cut by. -/
inductive SpdmMsg where
  | version (v : Nat)
  | capabilities (flags ctExponent dataTransferSize maxMsgSize : Nat)
  | algorithms (baseAsym baseHash measSpec measHash dhe aead keySchedule : SpdmAlg)
  | digests (digest : Bytes)
  | certificate (portion : Bytes) (remainder : Nat)
  | challengeAuth (chainHash nonce summary signature : Bytes)
  | measurements (count : Nat) (record nonce signature : Bytes)
  | keyExchange (session : Nat) (nonce summary signature : Bytes)
  | finish
  | endSession
  | chunkSendAck (handle seq : Nat)
  | chunk (handle seq : Nat) (last : Bool) (bytes : Bytes)
  | error (e : SpdmError)
  deriving DecidableEq, Repr

/-- A session of an endpoint (R304): whether FINISH has completed it, and the frame of its last message. -/
structure Session where
  id : Nat
  done : Bool
  last : Nat
  deriving DecidableEq, Repr

/-- A large response that is held (R303). -/
structure Held where
  session : Option Nat
  handle : Nat
  next : Nat
  bytes : Bytes
  last : Nat
  deriving DecidableEq, Repr

/-- A chunked request that is open (R303). -/
structure ChunkReq where
  session : Option Nat
  handle : Nat
  next : Nat
  total : Nat
  got : Nat
  last : Nat
  deriving DecidableEq, Repr

/-- An SPDM endpoint (R298, R302, R303, R304): how far version, capabilities and algorithms have come, the requester's
DataTransferSize, the held response, the open chunked request, MEAS_GEN at the start of each measurement sequence by session,
a response that was not ready with its wire form, the sessions, and the next handle. -/
structure Ep where
  stage : Nat := 0
  transfer : Nat := 4096
  held : Option Held := none
  chunk : Option ChunkReq := none
  seqs : List (Option Nat × Nat) := []
  delayed : Option (Option Nat × SpdmMsg × Bytes) := none
  sessions : List Session := []
  handle : Nat := 0
  deriving DecidableEq, Repr

/-- Attestation beyond its registers: the entries as of the latest tick, the reports that wait for their snapshot (R295), the digests of loader, firmware and microcode, whether the
device has taken over, the endpoints, and the next session (R287, R290, R305). -/
structure Att where
  entries : List (Nat × Bytes) := []
  waiting : List Desc := []
  loader : Bytes := []
  firmware : Bytes := []
  microcode : Bytes := []
  takenOver : Bool := false
  eps : List (Nat × Ep) := []
  session : Nat := 0
  deriving DecidableEq, Repr

/-! ## The device's own firmware, the relay links and a Front (10_own_firmware_update.md) -/

/-- The firmware beyond its registers: generations of the update record and of the settings, the settings as last saved or applied
with the frame of the latest save (R322), the health window of the present trial (R319, R343), the head's decision to settle
(R340), whether a Barograph clear is pending (R394), whether the owner OXM is still to be checked (R312), whether the
microcode loaded (R323), whether the image commits its security version and the version that a confirmed one commits (R320), the version of the microcode loaded (R243); what R319 compares with: whether a policy
was in force, and the units and position in the chain. -/
structure Fw where
  gen : Nat := 0
  setGen : Nat := 0
  settings : Bytes := []
  savedAt : Nat := 0
  window : Nat := 0
  settled : Bool := false
  clearPending : Bool := false
  owed : Bool := false
  ucodeOk : Bool := false
  commit : Bool := false
  svnTo : Nat := 0
  ucode : Nat := 0
  hadPolicy : Bool := false
  units : Nat := 1
  position : Nat := 0
  deriving DecidableEq, Repr

/-- The fields of a relay frame (Table 10-8). -/
structure RFrame where
  type : Nat
  flags : Nat
  seq : Nat
  ack : Nat
  src : Nat
  dst : Nat
  xfer : Nat
  payload : Bytes
  deriving DecidableEq, Repr

/-- A frame sent and not acknowledged (R328): the frame number of its latest send and its consecutive sends. -/
structure TxFrame where
  frame : RFrame
  sentAt : Nat
  sends : Nat
  deriving DecidableEq, Repr

/-- A relay link beyond its registers (R328): next sequence number to send and to take, frames not acknowledged, frames waiting
for the window, frames received out of sequence, the transfer being received, the number of the latest transfer sent, and the chunks kept to be
sent again, by transfer (R334, R336). -/
structure Link where
  txSeq : Nat := 0
  rxSeq : Nat := 0
  window : List TxFrame := []
  waiting : List RFrame := []
  early : List RFrame := []
  rx : Option Bytes := none
  xfer : Nat := 0
  sent : List (Nat × Bytes) := []
  deriving DecidableEq, Repr

/-- A Front beyond its registers (R332 to R343): the manifest of the open Front, the FRONT_LAUNCH that waits, objects received and
not yet taken (R336), the next chunk and its failures, the bytes of the part in progress, staged parts (entry, HOME place, length),
whether SETTLED has come, whether LANDED or NOT_HEALTHY has been sent, whether this activation catches up, whether the slot
holds the staged image, the HOME policy copy written at activation, whether the staged policy is still to be written, the FRONT
words that units last reported, whether a SETTLED is to be sent again (R343), and whether the chain has more than 64 units (R329). -/
structure Front where
  manifest : Bytes := []
  requester : Option OpRef := none
  inbox : List Bytes := []
  next : Nat := 0
  fails : Nat := 0
  part : Bytes := []
  staged : List (Nat × Nat × Nat) := []
  settledGot : Bool := false
  reported : Bool := false
  catchUp : Bool := false
  written : Bool := false
  policyCopy : Option Nat := none
  policyDue : Bool := false
  reports : List (Nat × Nat) := []
  resend : Bool := false
  tooLong : Bool := false
  deriving DecidableEq, Repr

/-! ## What commands bring from outside -/

/-- A transaction on an upstream port: the component, the extension byte of the octal modes (R78), the decision of filter
engine B where it differs (R141), and whether a downstream read of priority 3 to 6 runs (R101). -/
structure UpTx where
  gc : Fin 96
  ext : Byte
  decB : Option Decision
  bgBusy : Bool
  deriving DecidableEq, Repr

/-- An ECC error met by a read: the granule, the line of its frame, the frame's number, whether it is uncorrectable (R155). -/
structure EccHit where
  granule : Nat
  line : Nat
  index : Nat
  ue : Bool
  deriving DecidableEq, Repr

/-- What the start of a cell finds (R57): for a downstream engine, per chip select, whether D_RST_N is connected (R456), the
taps that pass (R106), the flash's ID and SFDP bytes (R86, R87); for the signature engine, whether its microcode loads and
tests 7 to 9 pass (R243, R323). -/
structure StartIn where
  rstN0 : Bool
  rstN1 : Bool
  taps0 : List Nat
  taps1 : List Nat
  id0 : Bytes
  id1 : Bytes
  sfdp0 : Bytes
  sfdp1 : Bytes
  kat : Nat
  deriving DecidableEq, Repr

/-- What one erase unit of pass 2 is read as (Table 06-5): its primary bytes, the golden copy of them, and the nodes of the golden tree
that the node store no longer holds, in the order in which they are needed. -/
structure UnitIn where
  primary : Bytes
  golden : Bytes
  nodes : List Bytes
  deriving DecidableEq, Repr

/-- What a scan of a function reads (R263, R265): DB_SEQ and DB_GROUPS, and the lines of groups that it reads, bit b of the byte at offset k as bit
8k + b. -/
structure Scan where
  f : Fin 256
  dbSeq : Word
  groups : BitVec 32
  lines : List (Fin 32 × BitVec 512)
  deriving DecidableEq, Repr

/-- Which host memory read failed (R275): one that fetches for a ring, or one of a command's own data. -/
inductive HostRead where
  | fetch (ring : Nat) | data (ring index : Nat)
  deriving DecidableEq, Repr

/-- Straps and bank senses at the rise of PWR_GOOD (R458), with the level of PERST_N. -/
structure Straps where
  profile : Bool
  bootOrder : Fin 4
  standby : Bool
  bank18 : BitVec 48
  perst : Bool
  deriving DecidableEq, Repr

/-- What the sensors read in slot 2: the thermal sensors in units of 0.25 degrees, the core current and the core voltage (R443,
R444). -/
structure Monitors where
  sensors : List Int
  imon : Nat
  vcore : Nat
  deriving DecidableEq, Repr

/-- What the boot ROM finds: the outcome of test 0 (R307), VQPS within its limits, the pump able to hold its voltage (R354), the sensors. -/
structure BootIn where
  test0 : Bool
  vqps : Bool
  pump : Bool
  mon : Monitors
  deriving DecidableEq, Repr

/-- What a start of the firmware finds: whether the microcode passes its integrity check (R323), the tests among 7 to 9 that fail
(R243), and the read-backs of the slot restored (R318), of a policy copy written (R339) and of a Barograph record 0 (R394). -/
structure PilotIn where
  ucode : Bool
  failed : BitVec 10
  restored : Bool
  stored : Bool
  cleared : Bool
  deriving DecidableEq, Repr

/-- What the scrub finds in a line (R155): a corrected error, or an uncorrectable one in a frame (component, granule,
line, number) or in a node (component, part, level, index, number). -/
inductive EccFound where
  | corrected
  | frame (gc granule line index : Nat)
  | node (gc part level index number : Nat)
  deriving DecidableEq, Repr

/-- What a frame brings (R34 to R43): the pins of the conditioned inputs, the monitors, the OTP supplies, the scans of functions, the
slices still running at the tick with their home slots and cores, ring-engine work not finished with its slot, and what the scrub finds. -/
structure TickIn where
  pins : BitVec 99
  mon : Monitors
  vqps : Bool
  pump : Bool
  scans : List Scan
  strays : List Desc
  late : List (Fin 4 × Fin 12)
  ringLate : Option (Fin 6)
  ecc : List EccFound
  deriving DecidableEq, Repr

/-- Instructions of the TAP (R370, Table 11-6): those of IEEE 1149.1, EXTEST with the levels for RELEASE[95:0], and the scopes of the
debug levels. -/
inductive Jtag where
  | bypass | idcode | sample
  | extest (release : BitVec 96)
  | readReg (a : BitVec 26)
  | halt | resume | step | memory | scan
  deriving DecidableEq, Repr

/-! ## What the block drives -/

/-- What the block drives, as another agent sees it (log entry 2): bytes on an upstream port; a transaction, a reset or a
status poll on a downstream bus; data returned to a register or window read; Unsupported Request; a write to host memory
at an address or to the destination of an operation; an MSI-X message; bytes to an I3C controller; an MCTP message; a
relay frame; a program or erase of the VAULT; a level on a test data output. -/
inductive Out where
  | upstream (gc : Nat) (bytes : Bytes)
  | downstream (gc : Nat) (opc : Nat) (four : Bool) (addr : Nat) (bytes : Bytes)
  | flashReset (gc : Nat) (pulse : Bool) (modes : List Nat)
  | regData (port : Port) (size : Nat) (value : Nat)
  | unsupported (port : Port)
  | hostWrite (f : Nat) (addr : Nat) (bytes : Bytes)
  | dst (ref : OpRef) (bytes : Bytes)
  | msix (f : Nat) (vector : Nat)
  | i3c (k : Nat) (bytes : Bytes)
  | mctp (ep : Nat) (bytes : Bytes)
  | spdm (ep : Nat) (session : Option Nat) (m : SpdmMsg)
  | relay (r : Nat) (bytes : Bytes)
  | vault (addr : Nat) (bytes : Bytes)
  | vaultErase (addr : Nat)
  | tdo (bits : Nat)
  deriving DecidableEq, Repr

end Sys2Proof.Machine
end

