-- ==== Sys2Proof/Syntax.lean ====
section
/-! DEFINITION. The commands of the block: one constructor per row of the command table (the empty queue is no command). Each
docstring is the row's summary with the rule that governs it; the operands are what the command brings from outside. -/

namespace Sys2Proof

open Machine

/-- A command: a transaction on a port or a window, a command of a requester, or an event of the device. -/
inductive Instr where
  /-- Rising PWR_GOOD after a qualifying low starts a power-on reset: straps and bank senses latch, the OTP integrity read runs,
  the loader is verified and the boot sources are tried. (R307) -/
  | powerOnReset (straps : Straps) (x : BootIn)
  /-- A PWR_GOOD low of tPGL or longer puts every output in high impedance and holds the device in reset. (R460) -/
  | pwrGoodQualifyingLow (ns : Nat)
  /-- A device reset, by command, by a cell RESET of the device cell, by a life-cycle transition or by watchdog escalation,
  restarts the boot ROM without removing power. (R13) -/
  | deviceReset (x : Option Desc) (b : BootIn)
  /-- A reset of the Pilot complex alone interrupts firmware work while the hardware keeps enforcing and released components
  keep running. (R8) -/
  | pilotReset
  /-- At each Pilot start the resident loader acts on the update-record state and starts an image, then the firmware reloads
  microcode and takes up interrupted work. (R318) -/
  | pilotStart (x : PilotIn)
  /-- Every 3,000 core cycles a frame tick runs the fixed slot duties of Table 02-1. (R34) -/
  | frameTick (x : TickIn)
  /-- DEBOUNCE consecutive differing samples change an input's conditioned level, with the response of its input. (R46) -/
  | inputLevelChange (k : Fin 99)
  /-- A 65th raw change in a 4,096-frame window latches CHATTER for the input. (R47) -/
  | inputChatter (k : Fin 99)
  /-- An input active for STUCK_LIMIT thousand frames sets its STUCK flag. (R49) -/
  | inputStuck (k : Fin 99)
  /-- A write of 1 to an IC_CHATTER bit clears it only after one second of steady raw level. (R48) -/
  | icChatterClear (k : Fin 99)
  /-- A 32-bit read of the FRAME_CNT low word latches the high word. (R45) -/
  | frameCntLowRead (port : Port)
  /-- A write to a register without behaviour of its own acts by its access type. (R11) -/
  | registerWrite (port : Port) (a : BitVec 26) (wide : Bool) (v : DWord) (good : Bool)
  /-- A BAR access that is not an aligned 4- or 8-byte access completes with Unsupported Request. (R70) -/
  | unsupportedAccess (f : Fin 256) (a : BitVec 26)
  /-- A bad access to the crypto range, a 4-byte KS.KEY_IN access or a register-bus parity error clears the Crypto complex.
  (R227) -/
  | cryptoBusError (parity : Bool)
  /-- An access beyond the header of a cell that is not ACTIVE reads zero or is discarded and sets OFF_ACCESS. (R65) -/
  | offAccess (port : Port) (a size : Nat) (write : Bool)
  /-- A Pilot task is bound to a core with room or refused with FRAME_BUDGET. (R37) -/
  | pilotTaskSubmit (id cost total : Nat)
  /-- CELL_CTL ENABLE starts a cell, latches a pending enable or is refused. (R53) -/
  | enable (c : Cell) (firmware : Bool)
  /-- CELL_CTL DISABLE drains a cell or group, or cancels a pending enable. (R53) -/
  | disable (c : Cell)
  /-- CELL_CTL RESET loads the cell's C fields and restarts or aborts its work. (R53) -/
  | cellReset (c : Cell)
  /-- A CELL_CTL.CMD value of 4 to 7 is refused with NOT_SUPPORTED. (R52) -/
  | cellCmdUnsupported (c : Cell)
  /-- The power controller closes a waiting domain switch, at most four per frame. (R434) -/
  | domainSwitchClose
  /-- A STARTING cell completes its start sequence and becomes ACTIVE. (R57) -/
  | startSequenceComplete (c : Cell) (x : StartIn)
  /-- A power domain not good within START_FRAMES returns the cell to OFF with FAULT. (R58) -/
  | startFail (c : Cell)
  /-- A DRAINING cell finishes its work, goes OFF and takes any pending enable. (R53) -/
  | drainComplete (c : Cell)
  /-- A drain still running after 5,000 frames is aborted and the cell goes OFF. (R59) -/
  | drainLimit (c : Cell)
  /-- After a 20 °C change, one tap is tested per idle bus gap and TAP changes after the sweep. (R107) -/
  | dqsRetrain (p : Fin 48) (c : Fin 2) (pass : Bool)
  /-- Every second the impedance code is recalibrated and applied when all chip selects are high. (R108) -/
  | zqRecalibration (p : Fin 48) (code : Byte) (idle : Bool)
  /-- A write of CELL_BIST.RUN requests a BIST run that is admitted or refused. (R403) -/
  | bistRun (c : Cell)
  /-- A BIST run ends with PASS or FAIL when its MISR is compared. (R406) -/
  | bistEnd (c : Cell) (misr : DWord)
  /-- A run that reaches its BUDGET is aborted as INCOMPLETE. (R406) -/
  | bistBudgetExpiry (c : Cell)
  /-- Read (0x03) is served without dummy cycles from pinned frames or the stream buffer only. (R95) -/
  | read (t : UpTx) (a : BitVec 32) (flash : Bytes) (ecc : Option EccHit)
  /-- 4-byte Read (0x13) is served without dummy cycles from pinned frames or the stream buffer only. (R95) -/
  | fourByteRead (t : UpTx) (a : BitVec 32) (flash : Bytes) (ecc : Option EccHit)
  /-- Fast Read (0x0B) is judged per granule and answered at the advertised wait. (R89) -/
  | fastRead (t : UpTx) (a : BitVec 32) (flash : Bytes) (ecc : Option EccHit)
  /-- 4-byte Fast Read (0x0C) is judged per granule and answered at the advertised wait. (R89) -/
  | fourByteFastRead (t : UpTx) (a : BitVec 32) (flash : Bytes) (ecc : Option EccHit)
  /-- Quad Output Read (0x6B) is judged per granule and answered at the advertised wait. (R89) -/
  | quadOutputRead (t : UpTx) (a : BitVec 32) (flash : Bytes) (ecc : Option EccHit)
  /-- 4-byte Quad Output Read (0x6C) is judged per granule and answered at the advertised wait. (R89) -/
  | fourByteQuadOutputRead (t : UpTx) (a : BitVec 32) (flash : Bytes) (ecc : Option EccHit)
  /-- Quad I/O Read (0xEB) is judged per granule and answered at the advertised wait. (R89) -/
  | quadIoRead (t : UpTx) (a : BitVec 32) (m : Byte) (flash : Bytes) (ecc : Option EccHit)
  /-- 4-byte Quad I/O Read (0xEC) is judged per granule and answered at the advertised wait. (R89) -/
  | fourByteQuadIoRead (t : UpTx) (a : BitVec 32) (m : Byte) (flash : Bytes) (ecc : Option EccHit)
  /-- DTR Quad I/O Read (0xED) is judged per granule and answered at the advertised wait. (R89) -/
  | dtrQuadIoRead (t : UpTx) (a : BitVec 32) (m : Byte) (flash : Bytes) (ecc : Option EccHit)
  /-- 4-byte DTR Quad I/O Read or Octal DTR Read (0xEE) is judged per granule and answered at the advertised wait. (R89) -/
  | octalDtrRead (t : UpTx) (a : BitVec 32) (m : Byte) (flash : Bytes) (ecc : Option EccHit)
  /-- With continuous read armed, a transaction starting with an address is taken as the same read. (R81) -/
  | continuousRead (t : UpTx) (a : BitVec 32) (m : Byte) (flash : Bytes) (ecc : Option EccHit)
  /-- Page Program (0x02) is gathered, judged over its changed bytes, and forwarded or blocked. (R130) -/
  | pageProgram (t : UpTx) (a : BitVec 32) (data : Bytes)
  /-- 4-byte Page Program (0x12) is gathered, judged and forwarded or blocked. (R130) -/
  | fourBytePageProgram (t : UpTx) (a : BitVec 32) (data : Bytes)
  /-- Quad Input Page Program (0x32) is gathered, judged and forwarded or blocked. (R130) -/
  | quadInputPageProgram (t : UpTx) (a : BitVec 32) (data : Bytes)
  /-- 4-byte Quad Input Page Program (0x34) is gathered, judged and forwarded or blocked. (R130) -/
  | fourByteQuadInputPageProgram (t : UpTx) (a : BitVec 32) (data : Bytes)
  /-- Quad I/O Page Program (0x38) is gathered, judged and forwarded or blocked. (R130) -/
  | quadIoPageProgram (t : UpTx) (a : BitVec 32) (data : Bytes)
  /-- 4-byte Quad I/O Page Program (0x3E) is gathered, judged and forwarded or blocked. (R130) -/
  | fourByteQuadIoPageProgram (t : UpTx) (a : BitVec 32) (data : Bytes)
  /-- 4 KiB Erase (0x20) is judged over its erase block and forwarded or blocked. (R130) -/
  | erase4Kib (t : UpTx) (a : BitVec 32)
  /-- 4-byte 4 KiB Erase (0x21) is judged over its erase block and forwarded or blocked. (R130) -/
  | fourByteErase4Kib (t : UpTx) (a : BitVec 32)
  /-- 32 KiB Erase (0x52) is judged over its erase block and forwarded or blocked. (R130) -/
  | erase32Kib (t : UpTx) (a : BitVec 32)
  /-- 4-byte 32 KiB Erase (0x5C) is judged over its erase block and forwarded or blocked. (R130) -/
  | fourByteErase32Kib (t : UpTx) (a : BitVec 32)
  /-- 64 KiB Erase (0xD8) is judged over its erase block and forwarded or blocked. (R130) -/
  | erase64Kib (t : UpTx) (a : BitVec 32)
  /-- 4-byte 64 KiB Erase (0xDC) is judged over its erase block and forwarded or blocked. (R130) -/
  | fourByteErase64Kib (t : UpTx) (a : BitVec 32)
  /-- Chip Erase (0x60) is blocked in every region. (R129) -/
  | chipErase (t : UpTx)
  /-- Chip Erase (0xC7) is blocked in every region. (R129) -/
  | chipEraseC7 (t : UpTx)
  /-- Read Status Register (0x05) returns WIP, WEL and the write-protect view. (R84) -/
  | readStatusRegister (t : UpTx) (len : Nat)
  /-- Read Flag Status Register (0x70) returns READY and the emulated fail and protect flags. (R84) -/
  | readFlagStatusRegister (t : UpTx) (len : Nat)
  /-- Clear Flag Status Register (0x50) clears ERASE_FAIL, PROG_FAIL and PROT. (R84) -/
  | clearFlagStatusRegister (t : UpTx)
  /-- Write Enable (0x06) sets WEL. (R84) -/
  | writeEnable (t : UpTx)
  /-- Write Disable (0x04) clears WEL. (R84) -/
  | writeDisable (t : UpTx)
  /-- Read ID (0x9F) returns the flash's or the policy's ID bytes. (R86) -/
  | readId (t : UpTx) (len : Nat)
  /-- Read SFDP (0x5A) returns the emulated SFDP image. (R87) -/
  | readSfdp (t : UpTx) (a : BitVec 24) (len : Nat)
  /-- Set Burst with Wrap (0x77) sets the wrap length or is refused for 128 bytes or more. (R80) -/
  | setBurstWithWrap (t : UpTx) (data : Byte)
  /-- Reset Enable (0x66) arms the emulated software reset. (R79) -/
  | resetEnable (t : UpTx)
  /-- Reset (0x99) after Reset Enable with WIP 0 returns the emulated state to its release values. (R79) -/
  | reset (t : UpTx)
  /-- Enter 4-Byte Address Mode (0xB7) sets the upstream address width to 4 bytes. (R75) -/
  | enter4ByteAddressMode (t : UpTx)
  /-- Exit 4-Byte Address Mode (0xE9) sets the upstream address width to 3 bytes. (R75) -/
  | exit4ByteAddressMode (t : UpTx)
  /-- Write Status Register (0x01) is blocked or emulated as WRSR_MODE gives. (R131) -/
  | writeStatusRegister (t : UpTx) (a : BitVec 32) (data : Byte)
  /-- Write Volatile Configuration Register (0x81) is emulated. (R129) -/
  | writeVolatileConfigurationRegister (t : UpTx) (a : BitVec 32) (data : Byte)
  /-- Write Status Register 2 (0x31) is blocked. (R129) -/
  | writeStatusRegister2 (t : UpTx) (data : Byte)
  /-- Write Non-volatile Configuration Register (0xB1) is blocked. (R129) -/
  | writeNonvolatileConfigRegister (t : UpTx) (a : BitVec 32) (data : Byte)
  /-- Program security registers (0x42) is blocked. (R129) -/
  | programSecurityRegisters (t : UpTx) (a : BitVec 32) (data : Bytes)
  /-- Erase security registers (0x44) is blocked. (R129) -/
  | eraseSecurityRegisters (t : UpTx) (a : BitVec 32)
  /-- MODE_SW_OPC with address 0 and MODE_SW_DATA after Write Enable switches the port from START_MODE to RUN_MODE. (R77) -/
  | modeSwitch (t : UpTx) (a : BitVec 32) (data : Bytes)
  /-- An unlisted opcode or one in a wrong mode is ignored until U_CS_N rises and counted. (R82) -/
  | unsupportedOpcode (t : UpTx) (opc : Byte)
  /-- A status poll finds a forwarded or device program or erase complete, clearing WIP and WEL or setting the fail flag. (R85)
  -/
  | downstreamOpComplete (n : Fin 96) (failed : Bool)
  /-- A flash still busy at PROG_LIMIT or ERASE_LIMIT is reset and the operation reported failed. (R103) -/
  | dnTimeout (n : Fin 96)
  /-- A priority-3 completion fetch brings missing nodes or bytes of a pending entry. (R165) -/
  | completionFetch (n : Fin 96) (e : Fin 32) (b : Bytes)
  /-- The digest of a completed pending frame is compared with its slot and the entry closes as CACHED or fails. (R165) -/
  | checkResult (n : Fin 96) (e : Fin 32)
  /-- An entry still open at the slot-27 test of frame F + H expires. (R166) -/
  | horizonExpiry (n : Fin 96) (e : Fin 32)
  /-- At the first tick with U_CS_N high, or the second tick, RELEASE falls and the component becomes CONTAINED. (R169) -/
  | containmentReleaseFall (n : Fin 96) (csHigh : Bool)
  /-- The firmware takes up step 5 of a containment and makes a thaw request. (R169) -/
  | containedThawRequest (n : Fin 96)
  /-- A node or granule of a verification stream arrives, is digested and compared, and may complete the required set or fail.
  (R157) -/
  | verifyStreamRead (n : Fin 96) (b : Bytes)
  /-- A pin fetch for a swap, a refill or lost pinned granules is verified and pinned, or fails. (R160) -/
  | pinFetch (n : Fin 96) (b : Bytes)
  /-- A pinned granule lost to ECC is fetched again and returns to PINNED or fails as a check failure. (R155) -/
  | refetch (n : Fin 96) (g : Fin 131072) (b : Bytes)
  /-- A prefetched granule is verified and buffered, or silently dropped. (R163) -/
  | prefetchComplete (n : Fin 96) (g : Fin 131072) (b : Bytes)
  /-- A background stream of a golden image sets GOLDEN to VALID, INVALID or REVOKED. (R192) -/
  | goldenAudit (n : Fin 96)
  /-- The first tick with a policy and all OXMs checked moves named components to VERIFYING or their thaw request. (R182) -/
  | startTick (oxms : List (Fin 96 × Bytes))
  /-- At a tick a HELD, READY component with its pinned set complete and no hold reason becomes RELEASED. (R178) -/
  | componentRelease (n : Fin 96)
  /-- HOLD_MIN frames after RELEASE falls the MIN_HOLD reason clears. (R188) -/
  | minHoldExpiry (n : Fin 96)
  /-- A thaw pass completes or fails, moving to the next pass, HELD with READY, or QUARANTINED. (R195) -/
  | thawPassEnd (n : Fin 96) (units : List UnitIn) (erase64 : Bool) (flash : Bytes) (stored : Bool)
  /-- In the frame after a revocation the firmware examines every OXM in force and golden OXM. (R199) -/
  | revocationExamination
  /-- COMP_HOLD sets the HOLD_CMD hold reason. (R202) -/
  | compHold (x : Desc)
  /-- COMP_RELEASE clears the HOLD_CMD hold reason. (R202) -/
  | compRelease (x : Desc)
  /-- COMP_REVERIFY moves a HELD or QUARANTINED component to VERIFYING. (R202) -/
  | compReverify (x : Desc) (flash : Bytes)
  /-- COMP_THAW makes a thaw request. (R202) -/
  | compThaw (x : Desc)
  /-- COMP_IMAGE_WRITE checks a new OXM and image and writes the primary or golden space. (R203) -/
  | compImageWrite (x : Desc) (oxm : Bytes)
  /-- An image write finishes its writes, compares roots and stores the OXM. (R204) -/
  | imageWriteComplete (n : Fin 96) (erase64 : Bool) (units sectors : List Bytes) (flash : Bytes)
  /-- COMP_SVN_COMMIT raises the SVN floor to the SVN of the OXM in force. (R193) -/
  | compSvnCommit (x : Desc)
  /-- COMP_FORCE_RELEASE releases a component without verification in Blank or Test. (R201) -/
  | compForceRelease (x : Desc)
  /-- POLICY_LOAD checks a delivered Guard Policy and stores it. (R120) -/
  | policyLoad (x : Desc) (oxms : List (Fin 96 × Bytes))
  /-- POLICY_READ returns the policy in force. (R277) -/
  | policyRead (x : Desc)
  /-- The checked policy is written to the unused HOME copy and read back before the swap. (R122) -/
  | policyStore (good : Bool)
  /-- At a tick a chip select's new entry takes effect or is staged, and the load completes when all have. (R136) -/
  | policySwap (n : Fin 96) (flash : Bytes)
  /-- Sixteen disagreements in one window hold both components of the pair. (R142) -/
  | disagreeHold (p : Fin 48)
  /-- DIGEST computes a digest or HMAC of one whole message. (R217) -/
  | digest (x : Desc) (expect : Bytes)
  /-- DIGEST_INIT creates a context and returns its handle. (R218) -/
  | digestInit (x : Desc)
  /-- DIGEST_UPDATE absorbs one chunk into a context. (R217) -/
  | digestUpdate (x : Desc)
  /-- DIGEST_FINAL pads and finishes a context and writes or compares the digest. (R217) -/
  | digestFinal (x : Desc) (expect : Bytes)
  /-- CTX_EXPORT writes a context to host memory and frees it. (R223) -/
  | ctxExport (x : Desc)
  /-- CTX_IMPORT checks a record and loads it under a new handle. (R223) -/
  | ctxImport (x : Desc)
  /-- CTX_DESTROY ends a context. (R214) -/
  | ctxDestroy (x : Desc)
  /-- An operation on an exported context brings it back once a free internal context exists. (R222) -/
  | contextAutoImport (h : BitVec 32) (record : Bytes)
  /-- A DIGEST or DIGEST_INIT that waited 500 frames for a context ends with NO_CONTEXT. (R219) -/
  | noContextTimeout (h : BitVec 32)
  /-- KDF derives a key into a slot or buffer. (R234) -/
  | kdf (x : Desc)
  /-- KS_GENERATE fills a slot from the DRBG. (R235) -/
  | ksGenerate (x : Desc) (pairwise : Bool)
  /-- KS_UNWRAP unwraps a key blob into a slot. (R236) -/
  | ksUnwrap (x : Desc)
  /-- KS_WRAP produces a key blob. (R236) -/
  | ksWrap (x : Desc)
  /-- KS_ERASE zeroises a slot. (R270) -/
  | ksErase (x : Desc)
  /-- KS_ASSIGN gives a range of slots to a function and zeroises them. (R232) -/
  | ksAssign (x : Desc)
  /-- A write of KS.LOAD_CTL.GO loads KEY_IN into a slot, or is refused in Production. (R235) -/
  | keyLoad
  /-- AES_GCM_ENC encrypts under a DRBG IV. (R237) -/
  | aesGcmEnc (x : Desc)
  /-- AES_GCM_DEC decrypts and zeroes output on a tag mismatch. (R237) -/
  | aesGcmDec (x : Desc)
  /-- SIG_SIGN signs with a slot key. (R240) -/
  | sigSign (x : Desc)
  /-- SIG_VERIFY verifies a signature. (R240) -/
  | sigVerify (x : Desc) (pk sig : Bytes)
  /-- RNG_GET returns DRBG bytes. (R270) -/
  | rngGet (x : Desc)
  /-- CRYPTO_SELFTEST reruns the selected known-answer tests. (R244) -/
  | cryptoSelftest (x : Desc) (failed : BitVec 16)
  /-- A dispatched operation finishes and its completion is queued. (R273) -/
  | operationComplete (r : OpRef)
  /-- The after-Squall tests end and CR.STATE returns to READY or ERROR. (R230) -/
  | squallSelftestDone (failed : BitVec 11)
  /-- A core-clock or core-rail excursion raises a Squall and posts VOLTAGE_ALARM. (R437) -/
  | clockVoltageExcursion (kind : Fin 3)
  /-- A failed entropy health test restarts the source, or sets ERROR on a second failure. (R239) -/
  | rngHealthFail (apt : Bool)
  /-- The DRBG reseeds after 65,536 requests or one second. (R238) -/
  | drbgReseed
  /-- FN_CTL ENABLE checks the ring set-up and starts the function. (R259) -/
  | functionEnable (f : Fin 256)
  /-- FN_CTL DISABLE disables every ring and drains the function. (R259) -/
  | functionDisable (f : Fin 256)
  /-- RING_CTL ENABLE, taken in the next frame, checks an RCT entry and starts the ring. (R261) -/
  | ringEnable (f : Fin 256) (entry : BitVec 384) (line : BitVec 512) (failAddr : Option Nat)
  /-- RING_CTL DISABLE, taken in the next frame, stops fetching and drains the ring. (R261) -/
  | ringDisable (f : Fin 256)
  /-- A draining ring's operations complete, its device area is written back and it goes OFF. (R261) -/
  | ringDrainComplete (f r : Fin 256)
  /-- A write to FN_KICK wakes a function and schedules its scan. (R267) -/
  | fnKick (f : Fin 256)
  /-- After IDLE_FRAMES idle frames the device writes SLEEP_HINT and confirms with a further DB_SEQ read. (R266) -/
  | functionDrowsy (x : Scan)
  /-- A drowsy function is scanned once every 1,000 frames. (R266) -/
  | drowsyScan (f : Fin 256) (dbSeq : Word)
  /-- A function-level reset aborts the function's work and clears its state. (R280) -/
  | flr (f : Fin 256)
  /-- Clearing or setting Bus Master Enable stops or resumes a function's host memory traffic. (R256) -/
  | busMasterEnableChange (f : Fin 256) (bme mse msix mask : Bool)
  /-- Unmasking a vector with its pending bit set sends it. (R279) -/
  | msixUnmask (f v : Fin 256)
  /-- A failed host memory read stops the ring or ends the command with HOST_MEMORY. (R275) -/
  | hostMemory (f : Fin 256) (what : HostRead) (addr : BitVec 64)
  /-- PERST_N low resets every function and wakes the device from Drizzle. (R257) -/
  | perstNAssert
  /-- PERST_N rising starts link training. (R461) -/
  | perstNRelease
  /-- NOP completes with OK. (R277) -/
  | nop (x : Desc)
  /-- An I3C WRITE32 window transfer writes a 32-bit register. (R284) -/
  | write32 (k : Fin 2) (whole : Bool) (a v : Word) (good : Bool)
  /-- An I3C WRITE64 window transfer writes a 64-bit register. (R284) -/
  | write64 (k : Fin 2) (whole : Bool) (a : Word) (v : DWord) (good : Bool)
  /-- An I3C READ32 window transfer reads a 32-bit register and status. (R284) -/
  | read32 (k : Fin 2) (whole : Bool) (a : Word)
  /-- An I3C READ64 window transfer reads a 64-bit register and status. (R284) -/
  | read64 (k : Fin 2) (whole : Bool) (a : Word)
  /-- An I3C WRITE_BLOCK transfer writes consecutive words. (R284) -/
  | writeBlock (k : Fin 2) (whole : Bool) (a : Word) (ws : List Word) (good : Bool)
  /-- An I3C STATUS transfer returns the status of the latest write transfer. (R284) -/
  | windowStatus (k : Fin 2)
  /-- A write of MBX_CTL.APPEND commits a full 64 KiB piece of mailbox data. (R286) -/
  | mbxAppend (k : Fin 2)
  /-- A write of MBX_CTL.GO issues the mailbox command. (R286) -/
  | mbxGo (k : Fin 2)
  /-- A write of MBX_CTL.ABORT discards appended data before GO. (R286) -/
  | mbxAbort (k : Fin 2)
  /-- An MCTP message is assembled on an endpoint and dispatched, or dropped. (R298) -/
  | mctpMessage (e : Fin 3) (type : Byte) (length : Nat) (inSequence : Bool)
  /-- MCTP control Set Endpoint ID assigns an endpoint ID. (R298) -/
  | setEndpointId (e : Fin 3) (eid : Byte)
  /-- SPDM GET_VERSION is answered with version 1.2. (R300) -/
  | getVersion (e : Fin 3) (sess : Option Nat) (h : ReqHead)
  /-- SPDM GET_CAPABILITIES is answered with the responder's capabilities. (R299) -/
  | getCapabilities (e : Fin 3) (sess : Option Nat) (h : ReqHead) (transfer : Nat)
  /-- SPDM NEGOTIATE_ALGORITHMS selects the algorithms or fails. (R299) -/
  | negotiateAlgorithms (e : Fin 3) (sess : Option Nat) (h : ReqHead) (offers : Bool)
  /-- SPDM GET_DIGESTS returns the certificate-chain digest. (R300) -/
  | getDigests (e : Fin 3) (sess : Option Nat) (h : ReqHead) (late : Bool)
  /-- SPDM GET_CERTIFICATE returns part of chain 0. (R300) -/
  | getCertificate (e : Fin 3) (sess : Option Nat) (h : ReqHead) (slot offset len : Nat) (late : Bool)
  /-- SPDM CHALLENGE is answered outside sessions. (R300) -/
  | challenge (e : Fin 3) (sess : Option Nat) (h : ReqHead) (slot type : Nat) (late : Bool)
  /-- SPDM GET_MEASUREMENTS returns measurement blocks within a measurement sequence. (R302) -/
  | getMeasurements (e : Fin 3) (sess : Option Nat) (h : ReqHead) (index : Byte) (signed late : Bool) (nonce : Bytes)
  /-- SPDM KEY_EXCHANGE opens a session or is refused at the limit. (R304) -/
  | keyExchange (e : Fin 3) (sess : Option Nat) (h : ReqHead) (type : Nat) (late : Bool)
  /-- SPDM FINISH completes session establishment. (R300) -/
  | finish (e : Fin 3) (sess : Nat) (h : ReqHead) (verified late : Bool)
  /-- SPDM END_SESSION ends a session. (R304) -/
  | endSession (e : Fin 3) (sess : Nat) (h : ReqHead)
  /-- SPDM RESPOND_IF_READY fetches a delayed response. (R300) -/
  | respondIfReady (e : Fin 3) (sess : Option Nat) (h : ReqHead) (ready : Bool)
  /-- SPDM CHUNK_SEND carries one chunk of a large request. (R303) -/
  | chunkSend (e : Fin 3) (sess : Option Nat) (h : ReqHead) (handle seq : Nat) (last : Bool) (large size : Nat) (data : Bytes)
  /-- SPDM CHUNK_GET returns one chunk of a held response. (R303) -/
  | chunkGet (e : Fin 3) (sess : Option Nat) (h : ReqHead) (handle seq : Nat)
  /-- Any other SPDM request receives ERROR UnsupportedRequest. (R300) -/
  | unsupportedRequest (e : Fin 3) (sess : Option Nat) (h : ReqHead)
  /-- A session with no message for 60 s ends. (R304) -/
  | sessionTimeout (e : Fin 3) (id : Nat)
  /-- A held response or open chunked request with no chunk for 1 s is discarded. (R303) -/
  | chunkTimeout (e : Fin 3)
  /-- MEAS_REPORT snapshots the entries and returns a signed report. (R295) -/
  | measReport (x : Desc)
  /-- MEAS_READ returns an unsigned report of an index range. (R295) -/
  | measRead (x : Desc)
  /-- CERT_CHAIN_READ returns chain 0 or 1. (R295) -/
  | certChainRead (x : Desc)
  /-- FW_UPDATE checks an image and OXM, copies the slot to the retreat area, writes the slot and restarts into the trial.
  (R317) -/
  | fwUpdate (x : Desc) (copied written : Bool)
  /-- FW_STATUS returns the firmware state and version. (R344) -/
  | fwStatus (x : Desc)
  /-- New firmware that meets every health condition within its window confirms and the record goes to IDLE. (R319) -/
  | healthConfirm (home : Bool)
  /-- A trial health window ending without confirmation enters RESTORING. (R319) -/
  | healthWindowEnd
  /-- Changed settings are saved to S0 or S1 at most once per second. (R322) -/
  | settingsSave
  /-- A write of REC_CTL.START begins a recovery transfer. (R309) -/
  | recStart
  /-- A write of REC_CTL.PUSH appends PUSH_LEN bytes of REC_DATA. (R309) -/
  | recPush (len : Fin 8192)
  /-- A write of REC_CTL.FINISH checks and writes the recovered image. (R309) -/
  | recFinish (written : Bool)
  /-- A write of REC_CTL.ABORT discards staged bytes. (R309) -/
  | recAbort
  /-- A boot source that yields nothing within its wait is left for the next source. (R309) -/
  | recoverySourceTimeout
  /-- After every source failed, the ROM waits one second and starts the list again. (R311) -/
  | bootSourceRetry
  /-- A DATA relay frame is received, acknowledged and added to its transfer. (R328) -/
  | relayData (r : Fin 2) (f : RFrame) (written : Bool)
  /-- An ACK relay frame acknowledges sent frames. (R328) -/
  | relayAck (r : Fin 2) (ack : BitVec 16)
  /-- A NAK relay frame causes a frame to be sent again. (R328) -/
  | relayNak (r : Fin 2) (seq : BitVec 16) (chunk : Option Nat)
  /-- A TIME relay frame carries chain-time timestamps. (R330) -/
  | relayTime (r : Fin 2) (t1 t2 t3 t4 : BitVec 64) (err : BitVec 16)
  /-- A CONTROL relay frame carries a control message. (R328) -/
  | relayControl (r : Fin 2) (f : RFrame)
  /-- A RECOVER relay frame requests the neighbour's firmware slot. (R310) -/
  | relayRecover (r : Fin 2) (f : RFrame)
  /-- A frame unacknowledged for 50 frames is sent again, and after 8 sends the link goes DOWN. (R328) -/
  | relayRetransmit (r : Fin 2)
  /-- A relay link change starts chain enumeration when no Front is open. (R329) -/
  | relayLinkChange (r : Fin 2) (link : Fin 3) (peer : Byte) (position : Option (Fin 64)) (units : Fin 256)
  /-- Every 500 frames each unit exchanges TIME frames with its RELAY_A partner. (R330) -/
  | timeExchange
  /-- FRONT_LAUNCH at the head checks the manifest, fixes Landfall and sends the manifest. (R332) -/
  | frontLaunch (x : Desc)
  /-- FRONT_STATUS returns the Front state of a unit. (R344) -/
  | frontStatus (x : Desc)
  /-- A unit receives the manifest, checks it and forwards it or reports failure. (R332) -/
  | frontManifest (l : BitVec 64)
  /-- A unit receives a chunk object, checks it, forwards it and stores or applies its part. (R334) -/
  | frontChunk (good : Bool) (oxms : List (Fin 96 × Bytes))
  /-- The head receives an ARMED report. (R338) -/
  | armed (k : Fin 64)
  /-- At chain time L minus 1 s the head sends COMMIT or ABORT. (R338) -/
  | armedEvaluation
  /-- A unit receives COMMIT and relays it. (R338) -/
  | commit
  /-- At chain time L a committed and synced unit activates, or goes ABORTED. (R339) -/
  | landfall
  /-- The head receives a LANDED report and sends SETTLED when all have landed. (R340) -/
  | landed (k : Fin 64)
  /-- The head receives NOT_HEALTHY and sends ABORT. (R340) -/
  | notHealthy (k : Fin 64)
  /-- The head receives an ABORTED report and sends ABORT. (R340) -/
  | aborted (k : Fin 64) (st : Status)
  /-- At L + HEALTH minus 5 s without every LANDED the head sends ABORT. (R340) -/
  | landedDeadline
  /-- A landed unit receiving SETTLED confirms. (R341) -/
  | settled
  /-- A unit receiving ABORT falls back or goes ABORTED and discards staged parts. (R341) -/
  | abort (st : Status)
  /-- The head holding SETTLED learns of a FELL_BACK unit and sends CATCH_UP. (R342) -/
  | fellBack (k : Fin 64)
  /-- A fallen-back unit receiving CATCH_UP activates its staged parts. (R342) -/
  | catchUp (good : Bool)
  /-- OTP_READ returns OTP words. (R353) -/
  | otpRead (x : Desc)
  /-- OTP_PROGRAM burns OTP words after its refusal checks. (R355) -/
  | otpProgram (x : Desc)
  /-- OTP_REBURN strengthens a WEAK word to its intended value. (R358) -/
  | otpReburn (x : Desc)
  /-- OTP_LOCK seals and locks a region. (R360) -/
  | otpLock (x : Desc)
  /-- KEY_REVOKE burns the revoke word of an owner key slot. (R364) -/
  | keyRevoke (x : Desc)
  /-- LC_TRANSITION burns intent, does the transition work, burns the state word and resets the device. (R367) -/
  | lcTransition (x : Desc)
  /-- DEBUG_CHALLENGE opens a debug challenge. (R371) -/
  | debugChallenge (x : Desc)
  /-- DEBUG_RESPONSE checks a signed response and grants a debug level. (R371) -/
  | debugResponse (x : Desc)
  /-- An open debug challenge expires after 300 s. (R371) -/
  | challengeExpiry
  /-- ZEROISE burns its intent, clears keys and burns regions 7 and 8 to ones. (R374) -/
  | zeroise (x : Desc)
  /-- Every 10 frames one OTP word is re-read at three levels and WEAK findings recorded. (R352) -/
  | otpRecheck (hi lo : Word)
  /-- Once per second the firmware retries completing a partly burned repair-path word. (R357) -/
  | repairRetry
  /-- In LC_REPAIR the controller retries the burn every second and resets the device when it completes. (R369) -/
  | lcRepairRetry
  /-- A write of OTP.REPAIR_CTL.GO retries the LC_REPAIR burn at once. (R369) -/
  | repairCtlGo
  /-- A write of 0x4D3C to WDT.SERVICE arms the watchdog. (R382) -/
  | wdtArm
  /-- A write of 0xB2C3 to WDT.SERVICE is a service judged against the window and check-ins. (R381) -/
  | wdtService
  /-- A write to WDT.CHECKIN checks a task in. (R383) -/
  | wdtCheckin (t : Fin 32)
  /-- No service by frame P + WD_CLOSE is an expiry with cause EXPIRED. (R381) -/
  | wdtWindowClose
  /-- The hard timer ends in a Pilot reset, or a device reset on escalation. (R384) -/
  | wdtHardTimer
  /-- The firmware writes a queued Barograph record to HOME. (R391) -/
  | barographWrite (good : Bool)
  /-- BARO_READ returns stored Barograph records. (R396) -/
  | baroRead (x : Desc)
  /-- BARO_CLEAR erases the Barograph area and writes the BARO_CLEARED record. (R394) -/
  | baroClear (x : Desc) (good : Bool)
  /-- The operating clock advances once every 500,000 frames and rolls into OP_HOURS. (R390) -/
  | opSecondsAdvance
  /-- CNT_CONFIG loads counter selections and clears counters. (R402) -/
  | cntConfig (x : Desc)
  /-- CNT_SNAPSHOT schedules a snapshot of all counters. (R401) -/
  | cntSnapshot (x : Desc)
  /-- In slot 25 of frame TARGET all counters are copied to SNAP. (R401) -/
  | snapshotTake
  /-- PAIR_BIND writes an offer or checks the partner and burns the pair key. (R417) -/
  | pairBind (x : Desc)
  /-- VAULT_STATUS returns the pair state and vault generation. (R430) -/
  | vaultStatus (x : Desc)
  /-- STANDBY_RETURN writes a final record, freezes and hands the ports back. (R429) -/
  | standbyReturn (x : Desc) (good : Bool)
  /-- With a change pending and 10 s elapsed, the owner writes a checkpoint record and a CKPT mark. (R421) -/
  | checkpointWrite (good : Bool)
  /-- At the first tick after a change the owner programs a DIRTY mark. (R422) -/
  | dirtyMark
  /-- HEARTBEAT toggles every 2,500 frames while the device owns the ports. (R414) -/
  | heartbeatToggle
  /-- At frame F + 16 a former owner stops driving RELEASE. (R413) -/
  | releaseTristate
  /-- 32 frames after OWN_OUT falls the standby tri-states RELEASE and returns to LISTENING. (R412) -/
  | returningEnd
  /-- At T + 6 a taking device samples and drives RELEASE and applies the vault record. (R424) -/
  | takeoverReleaseSample (levels : BitVec 96) (rec : Option TkRec) (newer : Bool)
  /-- TAKING completes when every port pair in use is ACTIVE. (R425) -/
  | takingComplete
  /-- The TAKEOVER hold reason clears when the pair is ACTIVE and the pinned set is complete. (R427) -/
  | takeoverHoldClear (n : Fin 96)
  /-- DRIZZLE_ENTER checks conditions and powers the device down to Drizzle. (R439) -/
  | drizzleEnter (x : Desc) (good : Bool)
  /-- At the tick after a wake event the device leaves Drizzle and reaches a start tick. (R441) -/
  | drizzleExit
  /-- After 500 ms at or below GOV_TRIP minus 5 °C the governor step falls by one. (R443) -/
  | governorStepDown
  /-- Eight consecutive frames at or above CUR_WARN raise the governor step. (R444) -/
  | currentWarn
  /-- MON.TJ at 115 °C at two evaluations drives RELEASE low and shuts down. (R445) -/
  | thermalShutdown
  /-- A write of CAL_CTL.COMMIT checks and writes the staged calibration page. (R449) -/
  | calCommit (written : Bool)
  /-- An IEEE 1149.1 instruction shifted in through the TAP (BYPASS, IDCODE, SAMPLE/PRELOAD, EXTEST, Pilot halt or memory
  access) acts as far as the debug level allows, EXTEST driving pins including RELEASE[95:0]. (R370) -/
  | jtagInstruction (j : Jtag)
  /-- A relay frame arrives whose CRC fails; it is dropped, RL.CRC_ERR increments and the receiver sends NAK for its SEQ. (R328)
  -/
  | relayBadCrc (r : Fin 2) (seq : BitVec 16)
  /-- The entropy source finishes its 1,024-sample start-up test, at power-on or after a health-test restart, and RNG.STATE
  leaves STARTUP. (R238) -/
  | entropyStartUpTestDone
  /-- The power-up known-answer tests of Table 07-9 finish within 2,000 frames of firmware handover and CR.STATE leaves SELFTEST
  for READY or ERROR. (R244) -/
  | powerUpTestsDone (failed : BitVec 11)
  /-- 2,500 frames after thermal shutdown began, every domain switches off and the always-on domain except the Keeper halts.
  (R445) -/
  | thermalShutdownHalt
  /-- The host writes VF Enable and NumVFs in the SR-IOV capability, bringing VFs into or out of existence. (R281) -/
  | vfEnableChange (en : Bool) (n : Fin 256)
  /-- A hardware-timed OTP programming pulse ends, the bit is read at margin-high and either a further pulse starts or the burn
  moves on or fails. (R354) -/
  | otpPulseEnd (nrm hi lo : Bool)
  deriving DecidableEq, Repr

end Sys2Proof
end

