-- ==== Sys2Proof/Machine/State.lean ====
section
/-! DEFINITION. The state of the FX9640, plain data throughout, and the state after reset. -/

namespace Sys2Proof.Machine

/-- Reasons for which the block stops. -/
inductive Fault where
  /-- Raised by PWR_GOOD_QUALIFYING_LOW for a low between 1 us and 3 us, for which R460 gives no effect. Safe. -/
  | powerGoodGlitch
  deriving DecidableEq, Repr

/-- Reasons for which a command has no meaning in the model. -/
inductive Refusal where
  /-- Raised by the arm of a command that is not modelled. Safe: no claim can be proved of it. -/
  | notModelled (mnemonic : String)
  deriving DecidableEq, Repr

/-- The device without its HOME flash, its OTP array and its command queue: the registers (every field of the field
tables of the spec, in one sparse map by bit address), and the state that no register shows. -/
structure Dev where
  regs : List (Nat × Nat)
  phase : Phase
  cells : List (Cell × CellX)
  tasks : List Task
  resubmit : List Cell
  late : List Nat
  skipScan : Bool
  frameHigh : Nat
  inputs : List (Nat × Inp)
  bist : List BistRun
  wdt : Wdt
  baro : Baro
  cnt : Cnt
  fns : List (Nat × Fn)
  hostUse : HostUse
  ops : List Op
  cpls : List Cpl
  mbx0 : Mbx
  mbx1 : Mbx
  pairs : List (Nat × Pair)
  gcs : List (Nat × Gc)
  comps : List (Nat × Comp)
  snow : Snow
  pol : Pol
  fuses : List (Nat × Nat)
  mon : Mon
  pwr : Pwr
  driz : Driz
  own : Own
  vault : Vault
  crypto : Crypto
  otpx : OtpX
  dbg : Dbg
  att : Att
  fw : Fw
  link0 : Link
  link1 : Link
  front : Front
  chain : Int
  run : Run
  started : Bool
  free : Nat
  out : List Out
  deriving DecidableEq, Repr

/-- A device with these registers and nothing else: no work, no partner, nothing driven. -/
def Dev.blank (regs : List (Nat × Nat)) : Dev where
  regs := regs
  phase := .off
  cells := []
  tasks := []
  resubmit := []
  late := []
  skipScan := false
  frameHigh := 0
  inputs := []
  bist := []
  wdt := {}
  baro := {}
  cnt := {}
  fns := []
  hostUse := {}
  ops := []
  cpls := []
  mbx0 := {}
  mbx1 := {}
  pairs := []
  gcs := []
  comps := []
  snow := {}
  pol := {}
  fuses := []
  mon := {}
  pwr := { on := [161, 163] }
  driz := {}
  own := {}
  vault := {}
  crypto := {}
  otpx := {}
  dbg := {}
  att := {}
  fw := {}
  link0 := {}
  link1 := {}
  front := {}
  chain := 0
  run := {}
  started := false
  free := 0
  out := []

/-- The state of the block: commands waiting, first in first out, and the device. -/
structure State where
  pending : List Instr
  home : List (Nat × Byte)
  otp : List (Nat × OtpWord)
  dev : Dev
  deriving DecidableEq, Repr

/-- The device as delivered, right after its power-on reset (R13, R307, R318, R366, R468): the boot ROM has handed over to the resident
loader, whose start is a command of its own, the life cycle is Blank, and every strap is 0. Values the spec does not give: log
entries 4 to 6. -/
def Dev.atReset : Dev :=
  { Dev.blank (SMap.set resetVal [] Reg.DBG_STATE_LEVEL.bit 2) with
    phase := .pilotDown
    fuses := [(0, 0x3C5AA5C3)]
    run := { fresh := some true } }

/-- The state after reset: no command waits, HOME is erased, and OTP holds the pattern of the Blank life cycle alone (log entries 4, 5). -/
def State.reset : State where
  pending := []
  home := []
  otp := [(0, ⟨0x3C5AA5C3, 0x3C5AA5C3, 0x3C5AA5C3⟩)]
  dev := Dev.atReset

end Sys2Proof.Machine
end

