-- ==== Sys2Proof/Machine/Ops.lean ====
section
/-! DEFINITION. The named operations that every meaning is written with: registers, counters, free values, what the block
drives, event records, and the tables of cells, components, chip selects, pairs and functions. -/

namespace Sys2Proof.Machine

open Reg

/-- What a meaning answers. -/
abbrev Result := Host.Outcome State Fault Refusal

/-- A command that changes the device alone: HOME, the OTP array and the queue stay. -/
def act (s : State) (f : Dev → Dev) : Result := .next { s with dev := f s.dev }

/-! ## Lists in order -/

/-- Insert before the first entry that does not come before `a`. -/
def insertBy {α : Type} (le : α → α → Bool) (a : α) : List α → List α
  | [] => [a]
  | b :: r => if le a b then a :: b :: r else b :: insertBy le a r

/-- The list in order, entries of equal rank as they stood. -/
def sortBy {α : Type} (le : α → α → Bool) (l : List α) : List α := l.foldr (insertBy le) []

/-- Each number of an ascending list once. -/
def once : List Nat → List Nat
  | [] => []
  | a :: r => match once r with
    | [] => [a]
    | b :: t => if a = b then b :: t else a :: b :: t

/-- Each number once, where it first stands. -/
def firstOnly (l : List Nat) : List Nat := l.foldl (fun m v => if m.contains v then m else m ++ [v]) []

namespace Dev

/-- The device has power and is not halted (15_pins_electrical.md R460; 14 R445). -/
def awake (d : Dev) : Bool := d.phase ≠ .off && d.phase ≠ .halted

/-- The frame scheduler conditions inputs and takes cell commands: the device has started and is not halted (R356, R369: there
nothing of it runs). -/
def conditions (d : Dev) : Bool := d.awake && d.phase ≠ .integrityFail && d.phase ≠ .lcRepair

/-- The firmware runs: it has started and the Pilot is not halted through JTAG (R370). -/
def up (d : Dev) : Bool := d.phase = .running && !d.dbg.halted

/-! ## Registers -/

/-- Read a field (00_scope.md R11). -/
def rd (d : Dev) (f : Fld) : Nat := SMap.get resetVal d.regs f.bit

/-- Load a field, cut to its width. -/
def wr (d : Dev) (f : Fld) (v : Nat) : Dev := { d with regs := SMap.set resetVal d.regs f.bit (v % 2 ^ f.width) }

/-- A one-bit field as a truth value. -/
def on (d : Dev) (f : Fld) : Bool := d.rd f != 0

/-- Set a one-bit field. -/
def raise (d : Dev) (f : Fld) : Dev := d.wr f 1

/-- Clear a field. -/
def clear (d : Dev) (f : Fld) : Dev := d.wr f 0

/-- Add to a counter that saturates at the largest value its field holds (R111, R145). -/
def add (d : Dev) (f : Fld) (n : Nat) : Dev := d.wr f (min (d.rd f + n) (2 ^ f.width - 1))

/-- Count one in a counter that saturates. -/
def inc (d : Dev) (f : Fld) : Dev := d.add f 1

/-- Count one in a counter that wraps. -/
def incWrap (d : Dev) (f : Fld) : Dev := d.wr f (d.rd f + 1)

/-- Set or clear bit i of a field that holds one bit per item. -/
def setBit (d : Dev) (f : Fld) (i : Nat) (b : Bool) : Dev := d.wr f (withBit (d.rd f) i b)

/-- Load the fields that `p` selects with their reset values. -/
def resetWhere (d : Dev) (p : Nat → Bool) : Dev := { d with regs := d.regs.filter fun e => !p e.1 }

/-- FRAME_CNT (R44). -/
def frame (d : Dev) : Nat := d.rd FS_FRAME_CNT

/-- The profile in effect is Legacy (R4, FS.PROFILE). -/
def legacy (d : Dev) : Bool := d.on FS_PROFILE

/-- Life-cycle state (R366). -/
def lc (d : Dev) : LcState := LcState.ofCode (d.rd LC_STATE_STATE)

/-- The life-cycle state is Blank or Test. -/
def open_ (d : Dev) : Bool := d.lc = .blank || d.lc = .test

/-! ## Free values and outputs -/

/-- Draw a free value (log entry 3). -/
def draw (d : Dev) : DWord × Dev := (Config.free d.free, { d with free := d.free + 1 })

/-- Draw n bytes. -/
def drawBytes : Nat → Dev → Bytes × Dev
  | 0, d => ([], d)
  | n + 1, d =>
    let r := d.draw
    let t := drawBytes n r.2
    (r.1.setWidth 8 :: t.1, t.2)

/-- Record what the block drives (log entry 2). -/
def emit (d : Dev) (o : Out) : Dev := { d with out := o :: d.out }

/-! ## Tables of numbered things -/

def gc (d : Dev) (n : Nat) : Gc := SMap.get (fun _ => {}) d.gcs n
def setGc (d : Dev) (n : Nat) (g : Gc) : Dev := { d with gcs := SMap.set (fun _ => {}) d.gcs n g }
def pair (d : Dev) (p : Nat) : Pair := SMap.get (fun _ => {}) d.pairs p
def setPair (d : Dev) (p : Nat) (x : Pair) : Dev := { d with pairs := SMap.set (fun _ => {}) d.pairs p x }
def comp (d : Dev) (n : Nat) : Comp := SMap.get (fun _ => {}) d.comps n
def setComp (d : Dev) (n : Nat) (c : Comp) : Dev := { d with comps := SMap.set (fun _ => {}) d.comps n c }
def fn (d : Dev) (f : Nat) : Fn := SMap.get (fun _ => {}) d.fns f
def setFn (d : Dev) (f : Nat) (x : Fn) : Dev := { d with fns := SMap.set (fun _ => {}) d.fns f x }
def input (d : Dev) (k : Nat) : Inp := SMap.get (fun _ => {}) d.inputs k
def setInput (d : Dev) (k : Nat) (x : Inp) : Dev := { d with inputs := SMap.set (fun _ => {}) d.inputs k x }
def mbx (d : Dev) (k : Nat) : Mbx := if k = 0 then d.mbx0 else d.mbx1
def setMbx (d : Dev) (k : Nat) (m : Mbx) : Dev := if k = 0 then { d with mbx0 := m } else { d with mbx1 := m }

/-- The hidden part of a cell. -/
def cellx (d : Dev) (c : Cell) : CellX := ((d.cells.find? fun e => e.1 = c).map Prod.snd).getD {}

/-- Replace the hidden part of a cell. -/
def setCellx (d : Dev) (c : Cell) (x : CellX) : Dev :=
  let r := d.cells.filter fun e => e.1 ≠ c
  { d with cells := if x = {} then r else (c, x) :: r }

/-- State of a cell (R19). -/
def cst (d : Dev) (c : Cell) : CellState := CellState.ofCode (d.rd (CELL_STATE c.offset))

/-- State of a component (R18). -/
def state (d : Dev) (n : Nat) : CompState := CompState.ofCode (d.rd (COMP_STATUS_STATE n))

/-- Pair state (R412). -/
def pairState (d : Dev) : PairState := PairState.ofCode (d.rd PAIR_STATE)

/-! ## Event counters (R399, R400) -/

/-- Count occurrences of a source of Table 12-4 until the next slot 25. -/
def tally (d : Dev) (source n : Nat) : Dev :=
  let t := SMap.set (fun _ => 0) d.cnt.tally source (SMap.get (fun _ => 0) d.cnt.tally source + n)
  { d with cnt := { d.cnt with tally := t } }

/-! ## Event records -/

/-- The active event ring of a function (R260). -/
def eventRing (d : Dev) (f : Nat) : Option (Nat × Ring) := (d.fn f).rings.find? fun r => r.2.rct.kind = 1 && r.2.state = .active

/-- Post a record to a function's event ring; without such a ring it goes nowhere (R276). -/
def ringPost (d : Dev) (f : Nat) (e : EvtRec) : Dev :=
  if (d.eventRing f).isSome then
    let x := d.fn f
    d.setFn f { x with events := x.events ++ [e] }
  else d

/-- SOURCE and RESULT0 of an event record (Table 12-2, R276). -/
def srcNat : Source → Nat
  | .cell c => c.offset
  | .comp n => n

/-- SEQ that the next record to enter the queue takes (R391). -/
def nextSeq (d : Dev) : Nat := d.rd BARO_SEQ + d.baro.queue.length + 1

/-- Enter a record in the queue with the timestamp latched in slot 0 (R389, R391). -/
def enqueue (d : Dev) (code flags source detail0 : Nat) (detail1 : Bytes) : Dev :=
  let b := d.baro
  let r : BaroRec := ⟨code, flags, source, b.hours, b.seconds, b.cycles, b.frame, d.nextSeq, detail0, detail1⟩
  ({ d with baro := { b with queue := b.queue ++ [r] } }.wr BARO_QUEUE (b.queue.length + 1)).tally 303 1

/-- A record that finds the queue full is discarded and counted (R391). -/
def discard (d : Dev) : Dev :=
  ({ d with baro := { d.baro with lost := d.baro.lost + 1 } }.inc BARO_DROPPED |>.raise BARO_STATUS_QUEUE_OVF).tally 304 1

/-- Post a record to the Barograph (R391, R393): discarded when the area is full; when space has returned after a loss,
BARO_QUEUE_LOST goes first. -/
def baroPost (d : Dev) (code flags source detail0 : Nat) (detail1 : Bytes) : Dev :=
  if d.on BARO_STATUS_FULL then (d.inc BARO_DROPPED).tally 304 1
  else if 256 ≤ d.baro.queue.length then d.discard
  else if d.baro.lost = 0 then d.enqueue code flags source detail0 detail1
  else
    let d1 := { d with baro := { d.baro with lost := 0 } }.enqueue Ev.baroQueueLost.code 0 Cell.baro.offset d.baro.lost []
    if 256 ≤ d1.baro.queue.length then d1.discard else d1.enqueue code flags source detail0 detail1

/-- COMPONENT flag of a record (Table 12-2). -/
def srcFlag : Source → Nat
  | .cell _ => 0
  | .comp _ => 1

/-- Record an event with further detail, and copy it to PF0's event ring when RING_COPY is 1 (R391). -/
def postWith (d : Dev) (ev : Ev) (src : Source) (detail0 : Nat) (detail1 : Bytes) : Dev :=
  let d1 := d.baroPost ev.code (srcFlag src) (srcNat src) detail0 detail1
  if d.on BARO_CFG_RING_COPY then d1.ringPost 0 ⟨ev.code, srcNat src, detail0⟩ else d1

/-- Record an event (R397). -/
def post (d : Dev) (ev : Ev) (src : Source) (detail0 : Nat) : Dev := d.postWith ev src detail0 []

/-- Set a flag of CELL_EVT or COMP_EVT; when it sets and is to be reported, its record goes to PF0's event ring, once even
if RING_COPY also sends it there (R398). -/
def flagEvent (d : Dev) (f : Fld) (report recorded : Bool) (ev : Ev) (src : Source) (detail : Nat) : Dev :=
  let d1 := d.raise f
  if !d.on f && report && !(recorded && d.on BARO_CFG_RING_COPY) then d1.ringPost 0 ⟨ev.code, srcNat src, detail⟩ else d1

/-- Set a CELL_EVT flag (R52, R398); `recorded` says that the event is also written to the Barograph. -/
def cellEvent (d : Dev) (c : Cell) (f : Nat → Fld) (recorded : Bool) (ev : Ev) (detail : Nat) : Dev :=
  d.flagEvent (f c.offset) (d.on (CELL_EVT_REPORT c.offset)) recorded ev (.cell c) detail

/-- Set a COMP_EVT flag; it is reported when EVT_REPORT of the component's port pair is 1 (R398). -/
def compEvent (d : Dev) (n : Nat) (f : Nat → Fld) (recorded : Bool) (ev : Ev) (detail : Nat) : Dev :=
  d.flagEvent (f n) (d.on (CELL_EVT_REPORT (0x1000000 + 0x10000 * (n / 2)))) recorded ev (.comp n) detail

/-- The first occurrence of a key in the present 500,000-frame window (R397): whether it is the first, and the window
noted. -/
def firstInWindow (d : Dev) (key : Nat) : Bool × Dev :=
  let w := d.frame / 500000 + 1
  let old := SMap.get (fun _ => 0) d.baro.windows key
  (old ≠ w, { d with baro := { d.baro with windows := SMap.set (fun _ => 0) d.baro.windows key w } })

/-- Record an event at most once per key and window (R397). -/
def postLimited (d : Dev) (key : Nat) (ev : Ev) (src : Source) (detail0 : Nat) : Dev :=
  let r := d.firstInWindow key
  if r.1 then r.2.post ev src detail0 else r.2

/-! ## Admission to the Pilot cores (R37 to R40) -/

/-- Committed slice cycles on a Pilot core. -/
def pilotLoad (d : Dev) (core : Nat) : Nat := ((d.tasks.filter fun t => t.core = core).map Task.cost).sum

/-- FS.PILOT_LOAD shows the committed costs (R39). -/
def showLoads (d : Dev) : Dev :=
  d.wr FS_PILOT_LOAD0 (d.pilotLoad 0) |>.wr FS_PILOT_LOAD1 (d.pilotLoad 1) |>.wr FS_PILOT_LOAD2 (d.pilotLoad 2)
    |>.wr FS_PILOT_LOAD3 (d.pilotLoad 3)

/-- The lowest-numbered core with room for a slice cost (R37). -/
def coreFor (d : Dev) (cost : Nat) : Option Nat := lowest 4 fun c => decide (d.pilotLoad c + cost ≤ 1200)

/-- Frames that a job takes: one slice a frame until its total cost is done (R40). -/
def sliceFrames (cost total : Nat) : Nat := max 1 ((total + cost - 1) / cost)

/-- Submit a Pilot task: bound to a core from the next frame to the frame of its last slice, or refused with nothing changed but the count
of refusals (R37, R40, Table 12-4). -/
def submit (d : Dev) (of : TaskOf) (cost total : Nat) : Bool × Dev :=
  match d.coreFor cost with
  | none => (false, d.tally 263 1)
  | some c =>
    let t : Task := { of := of, core := c, cost := cost, start := d.frame + 1, last := d.frame + sliceFrames cost total }
    (true, ({ d with tasks := d.tasks ++ [t] }.showLoads).tally 262 1)

/-- A task ends: its cost is released (R40). -/
def endTask (d : Dev) (of : TaskOf) : Dev := { d with tasks := d.tasks.filter fun t => t.of ≠ of }.showLoads

/-- Some task is bound for it. -/
def bound (d : Dev) (of : TaskOf) : Bool := d.tasks.any fun t => t.of = of

/-- Its task, if it has one, has come to its last slice (R40). -/
def sliced (d : Dev) (of : TaskOf) : Bool := d.tasks.all fun t => t.of ≠ of || decide (t.last ≤ d.frame)

/-- The firmware's own tasks whose last frame is over release their costs (R40). -/
def endWork (d : Dev) : Dev :=
  let ended := fun (t : Task) => (match t.of with
    | .work _ => true
    | _ => false) && decide (t.last < d.frame)
  if d.tasks.any ended then { d with tasks := d.tasks.filter fun t => !ended t }.showLoads else d

end Dev

end Sys2Proof.Machine
end

