-- ==== Sys2Proof/Machine/Operands.lean ====
section
/-! DEFINITION. The operands of commands: how a descriptor is refused, dispatched and completed (08_host_rings.md R269,
R271 to R275), and how a Guard Policy and an OXM are parsed (04_windbreak_policy.md R115, R116; 10 R324, R325). -/

namespace Sys2Proof.Machine

open Reg

/-! ## Roles (R277, Table 08-8) -/

/-- PF0 may issue every opcode of Table 08-8. -/
def opcodeKnown (o : Nat) : Bool :=
  [0x0000, 0x0100, 0x0101, 0x0102, 0x0103, 0x0108, 0x0109, 0x010A, 0x0110, 0x0118, 0x0119, 0x011A, 0x011B, 0x011C,
   0x0120, 0x0121, 0x0128, 0x0129, 0x0130, 0x0138, 0x0200, 0x0201, 0x0202, 0x0203, 0x0204, 0x0205, 0x0206, 0x0300,
   0x0301, 0x0400, 0x0401, 0x0402, 0x0500, 0x0501, 0x0502, 0x0503, 0x0600, 0x0601, 0x0602, 0x0603, 0x0604, 0x0608,
   0x0609, 0x060A, 0x060B, 0x0700, 0x0701, 0x0702, 0x0703, 0x0708, 0x0709, 0x0800, 0x0801, 0x0802].contains o

/-- Opcodes that a VF may issue. -/
def vfMay (o : Nat) : Bool :=
  [0x0000, 0x0100, 0x0101, 0x0102, 0x0103, 0x0108, 0x0109, 0x010A, 0x0110, 0x0118, 0x0119, 0x011A, 0x011B, 0x0120,
   0x0121, 0x0128, 0x0129, 0x0130, 0x0400, 0x0401, 0x0402].contains o

/-- Opcodes that the I3C mailbox accepts. -/
def i3cMay (o : Nat) : Bool :=
  [0x0000, 0x0200, 0x0201, 0x0300, 0x0301, 0x0400, 0x0401, 0x0402, 0x0501, 0x0503, 0x0600, 0x0601, 0x0602, 0x0603,
   0x0604, 0x0608, 0x0609, 0x060A, 0x060B, 0x0700, 0x0801].contains o

/-- The opcode is permitted to the issuing role (R277). -/
def roleMay (p : Port) (o : Nat) : Bool :=
  match p with
  | .fn f => f = 0 || vfMay o
  | .i3c _ => i3cMay o
  | .fw => true

/-- Commands carried out by the firmware as Pilot tasks (R8, R274): all but NOP, those of the Crypto complex, and those
that counters and resets carry out in hardware (DEDUCED, log entry 9). -/
def pilotTask (o : Nat) : Bool := decide (0x0200 ≤ o) && o ≠ 0x0702 && o ≠ 0x0703 && o ≠ 0x0709

/-- Commands of the Crypto complex (R214, R274). -/
def cryptoOp (o : Nat) : Bool := decide (0x0100 ≤ o ∧ o ≤ 0x0138)

/-- First refusal of R269 that applies: reserved bits, unknown opcode, role, over-long list or parameter out of range. -/
def refusal (x : Desc) (o : Nat) (paramOk : Bool) : Option Status :=
  if x.reserved then some .descInvalid
  else if !opcodeKnown o then some .notSupported
  else if !roleMay x.ref.port o then some .roleDenied
  else if !x.listsOk || !paramOk then some .descInvalid
  else none

namespace Dev

/-! ## Functions and interrupts (R256, R267, R279) -/

/-- A message of a vector, or its pending bit when the vector or the function is masked (R279). A function whose MSI-X Enable or Bus Master Enable
is 0 sends none (R256; MSI-X Enable by the PCIe base specification, log entry 99). -/
def sendMsix (d : Dev) (f v : Nat) : Dev :=
  if !(d.fn f).msix then d
  else if d.on (MSIX_MASK f v) || (d.fn f).msixMask then d.setBit (MSIX_PBA f (v / 64)) (v % 64) true
  else if !(d.fn f).bme then d
  else (d.emit (.msix f v)).tally 288 1

/-- Set a bit of FN_EVT; a bit that sets makes the vector of FN_INT due (R279, Table 08-2). -/
def fnEvent (d : Dev) (f : Nat) (fld : Nat → Fld) : Dev :=
  let d1 := d.raise (fld f)
  if !d.on (fld f) && d.on (FN_INT_EN f) then d1.setFn f { d1.fn f with intDue := true } else d1

/-- A host memory read of a function failed (R275). -/
def hostReadFailed (d : Dev) (f addr : Nat) : Dev :=
  ((d.fnEvent f FN_EVT_HOST_MEM).wr (FN_ERR_ADDR f) addr).tally 292 1

def ring (d : Dev) (f r : Nat) : Option Ring := ((d.fn f).rings.find? fun e => e.1 = r).map Prod.snd

/-- RING_RESULT shows the state of the ring it names (Table 08-2). -/
def showRing (d : Dev) (f : Nat) : Dev :=
  match d.ring f (d.rd (RING_RESULT_RING f)) with
  | some x => (d.wr (RING_RESULT_STATE f) x.state.code).wr (RING_RESULT_PENDING_ENABLE f) (flag x.pendingEnable)
  | none => (d.clear (RING_RESULT_STATE f)).clear (RING_RESULT_PENDING_ENABLE f)

/-- Replace a ring, or drop it when it is OFF; RING_MAP shows the rings that are not OFF (Table 08-2). -/
def setRing (d : Dev) (f r : Nat) (x : Option Ring) : Dev :=
  let g := d.fn f
  let rest := g.rings.filter fun e => e.1 ≠ r
  match x with
  | none => ((d.setFn f { g with rings := rest }).setBit (RING_MAP f (r / 64)) (r % 64) false).showRing f
  | some y => ((d.setFn f { g with rings := (r, y) :: rest }).setBit (RING_MAP f (r / 64)) (r % 64) true).showRing f

/-- The port is that of function f. -/
def Port.isFn : Port → Nat → Bool
  | .fn g, f => g.val = f
  | _, _ => false

/-- Function f exists: PF0, or a VF that VF Enable and NumVFs bring into being (R254, R281). -/
def fnExists (d : Dev) (f : Nat) : Bool := f = 0 || (d.run.vfEnable && decide (f ≤ d.run.numVfs))

/-- Function f exists and is not held in reset by PERST_N (R257). -/
def fnLive (d : Dev) (f : Nat) : Bool := d.awake && d.run.perst && d.fnExists f

/-- The link trains at its full width and the highest rate that both ends have (R254, R283). -/
def linkTrained (d : Dev) : Dev :=
  if d.run.perst then { d with run := { d.run with linkWidth := 4, linkGen := Config.linkGen.toNat } } else d

/-- The ring engine pauses: the Host complex or the ring engine is under test (Table 12-5). -/
def hostPaused (d : Dev) : Bool := d.bist.any fun r => r.cell = .host || r.cell = .ring

/-- Entries of a CQ that the driver has not consumed. -/
def Ring.used (x : Ring) : Nat := (x.cqTail + 2 ^ x.rct.cqLog2 - x.cqHead) % 2 ^ x.rct.cqLog2

/-- An operation that an FLR has left to the firmware has no completion; its index lies beyond every SQ (R280 step 2). -/
def OpRef.orphaned (r : OpRef) : Bool := decide (2 ^ 20 ≤ r.index)

/-- The operation was issued on ring r of function f. -/
def OpRef.onRing (x : OpRef) (f r : Nat) : Bool := Port.isFn x.port f && x.ring = r

/-- Operations of a ring that have not completed (R273). -/
def inRing (d : Dev) (f r : Nat) : List Op := d.ops.filter fun o => OpRef.onRing o.ref f r && !OpRef.orphaned o.ref

/-- The CQ has room for n more completions beside those of every descriptor dispatched and not yet posted (R272). -/
def cqRoom (d : Dev) (f r n : Nat) (x : Ring) : Bool :=
  decide (Ring.used x + (d.inRing f r).length + (d.cpls.filter fun c => OpRef.onRing c.op.ref f r).length + n
    ≤ 2 ^ x.rct.cqLog2 - 1)

/-! ## Dispatch -/

/-- Entries in the RCT cache, with function and ring. -/
def cachedRings (d : Dev) : List (Nat × Nat × Ring) :=
  d.fns.flatMap fun e => (e.2.rings.filter fun r => r.2.cached).map fun r => (e.1, r.1, r.2)

/-- Fills and write-backs that work on a ring asks for: none when its entry is cached, else a fill, with a write-back when the cache is full
(R262, R265). -/
def fillsFor (d : Dev) (f r : Nat) : Nat :=
  if (d.ring f r).any Ring.cached then 0 else if d.cachedRings.length < 1024 then 1 else 2

/-- The frame allows the fills that work on a ring asks for (R265). -/
def rctRoom (d : Dev) (f r : Nat) : Bool := decide (d.hostUse.fills + d.fillsFor f r ≤ 32)

/-- The frame allows a further descriptor fetch for a ring: 128 in all, 8 for one ring (R265). -/
def fetchRoom (d : Dev) (f : Fin 256) (r : Nat) : Bool :=
  decide (d.hostUse.fetched.length < 128) && decide ((d.hostUse.fetched.filter fun e => e = (f, r)).length < 8) && d.rctRoom f r

/-- A descriptor of the issuer can be fetched now: the function is ACTIVE and may use host memory, the descriptor is the
next one of an ACTIVE command ring whose CQ has room, the frame allows a further fetch, and neither Drizzle nor a test holds the ring engine; the
mailbox of the I3C target runs a command that is not yet dispatched (R256, R261, R265, R272, R273, R283, R286). -/
def canIssue (d : Dev) (r : OpRef) : Bool :=
  (d.phase = .running || d.phase = .pilotDown) &&
  match r.port with
  | .fn f => d.fnLive f && d.rd (FN_STATE_STATE f) = 2 && (d.fn f).bme && d.rd DRZ_STATE = 0 && !d.hostPaused &&
      (match d.ring f r.ring with
        | some x => x.state = .active && x.rct.kind = 0 && x.sqHead = r.index && x.sqHead ≠ x.sqTail && d.cqRoom f r.ring 1 x && d.fetchRoom f r.ring
        | none => false)
  | .i3c k => d.rd DRZ_STATE = 0 && (d.mbx k).busy && !d.ops.any fun o => o.ref.port = .i3c k && !OpRef.orphaned o.ref
  | .fw => true

/-- Some operation of the ring has not completed (R273). -/
def inFlight (d : Dev) (r : OpRef) : Bool := d.ops.any fun o => o.ref.port = r.port && o.ref.ring = r.ring && !OpRef.orphaned o.ref

/-- The device area of an RCT entry (Table 08-3). -/
def Ring.area (x : Ring) : Bytes := leBytes 2 x.sqHead ++ leBytes 2 x.cqTail ++ leBytes 1 (flag x.phase) ++ List.replicate 11 0

/-- The device area of a ring is written to host memory, when the function may (R256, R262). -/
def writeArea (d : Dev) (f r : Nat) (x : Ring) : Dev :=
  if (d.fn f).bme then d.emit (.hostWrite f (d.rd (RCT_BASE f) + 64 * r + 0x30) (Ring.area x)) else d

/-- A ring has work: its entry is in the cache, and the least recently used entry beyond 1,024 is written back (R262). -/
def useRing (d : Dev) (f r : Nat) (x : Ring) : Dev :=
  let d0 : Dev := { d with hostUse := { d.hostUse with fills := d.hostUse.fills + d.fillsFor f r } }
  let d1 := d0.setRing f r (some { x with cached := true, lastUse := d.frame })
  let c := d1.cachedRings
  if c.length ≤ 1024 then d1
  else
    let oldest := c.foldl (fun m e => if e.2.2.lastUse < m.2.2.lastUse then e else m) (f, r, { x with lastUse := d.frame + 1 })
    match d1.ring oldest.1 oldest.2.1 with
    | some y => (d1.writeArea oldest.1 oldest.2.1 y).setRing oldest.1 oldest.2.1 (some { y with cached := false })
    | none => d1

/-- Fetch the descriptor: SQ_HEAD advances (R273). -/
def fetchDesc (d : Dev) (x : Desc) : Dev :=
  match x.ref.port with
  | .fn f => match d.ring f x.ref.ring with
    | some y =>
      let d1 := { d with hostUse := { d.hostUse with fetched := (f, x.ref.ring) :: d.hostUse.fetched } }
      (d1.useRing f x.ref.ring { y with sqHead := (x.ref.index + 1) % 2 ^ y.rct.sqLog2 }).tally 286 1
    | none => d
  | _ => d

/-- Enter an operation with its answer (R273). -/
def enterOp (d : Dev) (x : Desc) (o : Nat) (a : Ans) : Dev :=
  let op : Op := ⟨x.ref, o, x.tag, x.quiet, x.intr, a.status, a.verdict, a.result0, a.result1, a.dst, a.ctx, a.left, a.work⟩
  { d with ops := d.ops ++ [op] }

/-- An operation that was entered without an answer gets one. -/
def answerOp (d : Dev) (r : OpRef) (a : Ans) : Dev :=
  { d with ops := d.ops.map fun o =>
      if o.ref = r && o.status.isNone then
        { o with
          status := a.status, verdict := a.verdict, result0 := a.result0, result1 := a.result1, dst := a.dst,
          left := a.left, work := a.work }
      else o }

/-- The cell whose engine carries out a command of the Crypto complex. -/
def engineOf (o : Nat) : Cell :=
  if o < 0x110 then .digest else if o < 0x120 then .ks else if o < 0x128 then .aes else if o < 0x130 then .se
  else if o = 0x130 then .rng else .digest

/-- A command of the Crypto complex waits: during self-tests and clears (R230), for an engine that is not ACTIVE or is under
test (Table 12-5), for the microcode of the signature engine (R243), and for the first entropy (R238). -/
def cryptoWaits (d : Dev) (o : Nat) : Bool :=
  d.rd CR_STATE = 0 || d.rd CR_STATE = 2 || d.ops.any (fun x => x.opcode = 0x138)
    || (o ≠ 0x138 && d.rd CR_STATE ≠ 3 &&
      (d.cst (engineOf o) ≠ .active || d.bist.any (fun r => r.cell = engineOf o) || (engineOf o = .se && d.rd SE_STATE = 0)
        || d.rd RNG_STATE = 0))

/-- Commands that program the OTP array, which wait while another burn is in progress (log entry 15). -/
def otpOp (o : Nat) : Bool := decide ((0x600 ≤ o ∧ o ≤ 0x608) ∨ o = 0x60A ∨ o = 0x60B ∨ o = 0x800)

/-- Firmware commands that draw random bytes. -/
def drawsOp (o : Nat) : Bool := o = 0x400 || o = 0x608 || o = 0x609 || o = 0x800

/-- Operations that wait: behind a FENCE (R273), for the Crypto complex, for the OTP controller, for the firmware, for the DRBG's first seed (R238),
and behind sixteen reports being signed (R295). -/
def mustWait (d : Dev) (x : Desc) (o : Nat) : Bool :=
  (x.fence && d.inFlight x.ref) || (cryptoOp o && d.cryptoWaits o) || (otpOp o && !d.otpx.burns.isEmpty)
    || (drawsOp o && !d.crypto.seeded) || (pilotTask o && d.phase = .pilotDown) || (o = 0x400 && decide (16 ≤ (d.ops.filter fun y => y.opcode = 0x400).length))

/-- The descriptor is that of opcode `o`, with the bytes that its lists, or the mailbox, give for its source (R269, R286). -/
def presented (d : Dev) (x : Desc) (o : Nat) (paramOk : Bool) : Bool :=
  x.opcode = o && x.listsRead && ((refusal x o paramOk).isSome || x.failAddr.isSome || x.src.length = x.gatherSum)
    && match x.ref.port with
      | .i3c k =>
        let m := d.mbx k
        leBytes 64 x.raw.toNat = m.desc && x.src = m.appended ++ slice m.data 0 (x.srcField - m.appended.length) && x.failAddr.isNone
      | _ => true

/-- A descriptor is taken up: R269's refusals, a failed read of its own data (R275), and admission of a Pilot task (R274);
whether its body runs. One that must wait is presented again later. -/
def takeUp (d : Dev) (x : Desc) (o : Nat) (paramOk : Bool) : Bool × Dev :=
  if !d.canIssue x.ref || !d.presented x o paramOk || d.mustWait x o then (false, d)
  else
    let d1 := d.fetchDesc x
    match refusal x o paramOk with
    | some s => (false, d1.enterOp x o { status := some s })
    | none =>
      match x.failAddr with
      | some a => (false, (match x.ref.port with
          | .fn f => d1.hostReadFailed f a
          | _ => d1).enterOp x o { status := some .hostMemory })
      | none =>
        if pilotTask o && x.ref.port ≠ .fw then
          let r := d1.submit (.op x.ref) (Config.sliceCost o) (Config.totalCost o)
          if r.1 then r else (false, r.2.enterOp x o { status := some .frameBudget })
        else (true, d1)

/-- A dispatched command with its body; the operation and its answer await OPERATION_COMPLETE (R273). -/
def command (d : Dev) (x : Desc) (o : Nat) (paramOk : Bool) (body : Dev → Ans × Dev) : Dev :=
  let r := d.takeUp x o paramOk
  if r.1 then
    let b := body r.2
    b.2.enterOp x o b.1
  else r.2

end Dev

/-- A dispatched command whose body reaches HOME or the OTP array as well. -/
def State.command (s : State) (x : Desc) (o : Nat) (paramOk : Bool) (body : State → Ans × State) : State :=
  let r := s.dev.takeUp x o paramOk
  if r.1 then
    let b := body { s with dev := r.2 }
    { b.2 with dev := b.2.dev.enterOp x o b.1 }
  else { s with dev := r.2 }

/-- A bare answer. -/
def ans (s : Status) : Ans := { status := some s }

/-! ## Guard Policy (Tables 04-1 to 04-5) -/

/-- Length of the signature block of R117. -/
def sigBlockLen : Nat := 7412

/-- A policy record starts at the offset: KIND, index, LEN (R116). -/
def recordsOf : Nat → Bytes → List (Nat × Nat × Bytes)
  | 0, _ => []
  | k + 1, b =>
    if b.length < 4 then (if b = [] then [] else [(0, 0, b)])
    else
      let len := leAt b 2 2
      if len < 4 then [(leAt b 0 1, leAt b 1 1, b.take 4)]
      else (leAt b 0 1, leAt b 1 1, b.take len) :: recordsOf k (b.drop len)

def parseRegion (b : Bytes) : Region := ⟨leAt b 0 4, leAt b 4 4, leAt b 8 1, leAt b 9 1, leAt b 10 1⟩
def parseWindow (b : Bytes) : Window := ⟨leAt b 0 4, leAt b 4 4, leAt b 8 1⟩

/-- A pair record (Table 04-2). -/
def parsePair (b : Bytes) : PairRec := ⟨leAt b 4 1, leAt b 5 1, leAt b 6 1, leAt b 7 1, leAt b 8 1, leAt b 9 1⟩

/-- A component record (Table 04-3). -/
def parseComp (b : Bytes) : CompRec :=
  let nr := leAt b 0x1B 1
  let nw := leAt b 0x1C 1
  ⟨leAt b 4 1, leAt b 5 1, leAt b 6 1, leAt b 7 1, leAt b 8 1, leAt b 9 1, leAt b 0xA 1, leAt b 0xB 1, leAt b 0xC 1,
   leAt b 0xD 1, slice b 0xE 6, leAt b 0x14 4, leAt b 0x18 1, leAt b 0x19 1, leAt b 0x1A 1, leAt b 0x1E 2, leAt b 0x20 4,
   leAt b 0x24 4, leAt b 0x28 4, leAt b 0x2C 2,
   (List.range nr).map fun i => parseRegion (slice b (0x40 + 16 * i) 16),
   (List.range nw).map fun i => parseWindow (slice b (0x40 + 16 * nr + 16 * i) 16)⟩

/-- Records of a policy object. -/
def policyRecords (b : Bytes) : List (Nat × Nat × Bytes) := recordsOf 256 (slice b 32 (leAt b 0xC 4))

/-- A policy object, parsed. -/
def parsePolicy (b : Bytes) : Policy :=
  let rs := policyRecords b
  ⟨leAt b 6 1, leAt b 7 1, leAt b 0x10 4, leAt b 0x14 1, leAt b 0x15 1, leAt b 0x16 1,
   (rs.filter fun r => r.1 = 1).map fun r => (r.2.1, parsePair r.2.2),
   (rs.filter fun r => r.1 = 2).map fun r => (r.2.1, parseComp r.2.2)⟩

/-- Every byte of a slice is zero. -/
def zeroAt (b : Bytes) (at_ n : Nat) : Bool := (slice b at_ n).all fun x => x = 0

/-- Step 1 of Table 04-5: MAGIC, FORMAT, header ranges and reserved header bytes and bits (R115). -/
def policyHeaderOk (b : Bytes) : Bool :=
  decide (32 ≤ b.length) && leAt b 0 4 = 0x50475846 && leAt b 4 2 = 1 && decide (leAt b 6 1 ≤ 1) && decide (leAt b 7 1 ≤ 1)
    && decide (leAt b 0x14 1 ≤ 127) && decide (leAt b 0x15 1 < 4) && decide (leAt b 0x16 1 ≤ 7) && zeroAt b 0x18 8

/-- Step 2 of Table 04-5; a policy above 1 MiB (R117) fails it too (DESIGN CHOICE, log entry 89: the rule names no status). -/
def policyLengthOk (b : Bytes) : Bool :=
  b.length = leAt b 8 4 && leAt b 8 4 = 32 + leAt b 0xC 4 + sigBlockLen && decide (b.length ≤ 0x100000)

/-- Step 6 of Table 04-5. -/
def policyRecordsOk (b : Bytes) : Bool :=
  let rs := policyRecords b
  (rs.map fun r => r.2.2.length).sum = leAt b 0xC 4 && rs.length = leAt b 0x17 1
    && rs.all fun r => r.2.2.length = leAt r.2.2 2 2 && (r.1 ≠ 1 || r.2.2.length = 32)
      && (r.1 ≠ 2 || r.2.2.length = 64 + 16 * (leAt r.2.2 0x1B 1 + leAt r.2.2 0x1C 1))

/-- Largest SCLK of a mode in MHz (Table 03-1). -/
def modeLimit : Nat → Nat
  | 4 => 100 | 6 => 200 | _ => 133

/-- Bits moved per SCLK cycle in a mode (Table 03-1, bytes per cycle times 8). -/
def modeBits : Nat → Nat
  | 0 => 1 | 1 => 4 | 2 => 4 | 3 => 4 | 4 => 8 | 5 => 8 | _ => 16

/-- SCLK cycles of command and address (Table 03-1), with 4-byte or 3-byte addresses. -/
def modeCca (m : Nat) (addr4 : Bool) : Nat :=
  match m with
  | 0 => if addr4 then 40 else 32
  | 1 => if addr4 then 40 else 32
  | 2 => if addr4 then 16 else 14
  | 3 => if addr4 then 10 else 8
  | 4 => if addr4 then 6 else 5
  | 5 => 6
  | _ => 3

/-- Burst length of PP_CFG.BURST. -/
def burstBytes : Nat → Nat
  | 0 => 64 | 1 => 128 | _ => 256

def PairRec.burst (p : PairRec) : Nat := bits p.pflags 2 2
def CompRec.addr4Default (c : CompRec) : Bool := bit c.cflags 0
def CompRec.contEn (c : CompRec) : Bool := bit c.cflags 1
def CompRec.xip (c : CompRec) : Bool := bit c.cflags 3

/-- Downstream address width of a flash (R75). -/
def dnAddr4 (p : PairRec) (c : CompRec) : Bool := decide (24 < c.flashLog2) || bit p.pflags 1

/-- f_up of a mode: FREQ_MAX limited by Table 03-1 (R90). -/
def fUp (c : CompRec) (m : Nat) : Nat := min c.freqMax (modeLimit m)

/-- C_CA in t_B: the larger of the two where the flashes use different widths (R90). -/
def burstCca (p : PairRec) (cs : List CompRec) : Nat := (cs.map fun c => modeCca p.mode (dnAddr4 p c)).foldl max 0

/-- Cycles of f_dn in one burst: C_CA + D_dn + B ÷ bytes per cycle (R90). -/
def burstCycles (p : PairRec) (cs : List CompRec) : Nat := burstCca p cs + p.dummy + burstBytes p.burst * 8 / modeBits p.mode

/-- A matched read: one chip select in use, the same mode and frequency on both sides, CONT_EN 0 (R90). -/
def matched (p : PairRec) (cs : List CompRec) (c : CompRec) (m : Nat) : Bool :=
  cs.length = 1 && p.mode = m && p.freq = fUp c m && !c.contEn

/-- The advertised wait of a mode (R90): ceiling (f_up × t_lat), with t_lat counted in 1/1000 ns over f_dn. -/
def advertisedWait (p : PairRec) (cs : List CompRec) (c : CompRec) (m : Nat) : Nat :=
  let w := if cs.length = 2 then burstCycles p cs else 0
  let t := if matched p cs c m then 0 else modeCca p.mode (dnAddr4 p c)
  let num := 1000 * (w + t + p.dummy) + p.freq * (30 + if cs.length = 2 then 10 else 0)
  (fUp c m * num + (1000 * p.freq - 1)) / (1000 * p.freq)

/-- Peak rate of a mode at a frequency, in bits per microsecond. -/
def peak (m f : Nat) : Nat := modeBits m * f

/-- Peak rate of an upstream port: the higher of its two modes. -/
def upPeak (c : CompRec) : Nat := max (peak c.startMode (fUp c c.startMode)) (peak c.runMode (fUp c c.runMode))

/-- The latency rules of R92 hold for a pair and the components on it. -/
def latencyOk (p : PairRec) (cs : List CompRec) : Bool :=
  decide (p.tshsl ≤ 10)
    && (cs.all fun c => decide (advertisedWait p cs c c.startMode ≤ 31) && decide (advertisedWait p cs c c.runMode ≤ 31))
    && (if cs.length = 1 then cs.all fun c => decide (upPeak c ≤ peak p.mode p.freq)
        else decide (((cs.map upPeak).sum) * (1000 * burstCycles p cs + 10 * p.freq) ≤ burstBytes p.burst * 8 * 1000 * p.freq))

/-- The components that a policy names on a pair. -/
def Policy.onPair (q : Policy) (p : Nat) : List CompRec :=
  (q.comps.filter fun e => e.1 / 2 = p).map Prod.snd

/-- The regions cover the emulated density exactly, in ascending order (R121). -/
def regionsCover : Nat → List Region → Nat → Bool
  | at_, [], top => at_ = top
  | at_, r :: rs, top => r.base = at_ && decide (r.base ≤ r.limit) && regionsCover (r.limit + 1) rs top

/-- Bytes in the regions of a role. -/
def CompRec.roleBytes (c : CompRec) (role : Nat) : Nat :=
  ((c.regions.filter fun r => r.role = role).map fun r => r.limit + 1 - r.base).sum

/-- Structural rules of R121 on a component record; `bank18` is PP_CFG.BANK_18 of its pair. FREQ_MAX must fit both START_MODE and RUN_MODE
(DESIGN CHOICE, log entry 86). -/
def compRecOk (legacy bank18 : Bool) (n : Nat) (c : CompRec) : Bool :=
  decide (n ≤ 95) && (!legacy || decide (n ≤ 47))
    && decide (c.startMode ≤ 6) && decide (c.runMode ≤ 6)
    && decide (1 ≤ c.freqMax ∧ c.freqMax ≤ modeLimit c.startMode ∧ c.freqMax ≤ modeLimit c.runMode)
    && (decide (c.startMode < 5 ∧ c.runMode < 5) || (bank18 && !legacy))
    && decide (16 ≤ c.densityLog2 ∧ c.densityLog2 ≤ c.flashLog2 ∧ c.flashLog2 ≤ 28)
    && decide (c.cflags < 16) && decide (c.wrsrMode ≤ 2) && decide (c.wpBits < 64) && decide (c.eraseTypes < 8)
    && (c.idLen = 0 || decide (3 ≤ c.idLen ∧ c.idLen ≤ 6))
    && decide (1 ≤ c.regions.length ∧ c.regions.length ≤ 32) && decide (c.windows.length ≤ 16)
    && regionsCover 0 c.regions (2 ^ c.densityLog2)
    && c.regions.all (fun r => r.base % 2048 = 0 && (r.limit + 1) % 2048 = 0 && decide (r.cls ≤ 3) && decide (r.action ≤ 1)
         && decide (r.role ≤ 3) && !((r.role = 2 || r.role = 3) && r.cls = 2))
    && c.roleBytes 2 = c.roleBytes 1
    && c.windows.all (fun w => w.base % 4096 = 0 && (w.limit + 1) % 4096 = 0 && decide (w.base ≤ w.limit) && decide (w.perm < 4)
         && c.regions.any fun r => r.cls = 2 && decide (r.base ≤ w.base ∧ w.limit ≤ r.limit))
    && c.windows.Pairwise (fun a b => a.limit < b.base ∨ b.limit < a.base)
    && (c.horizon = 0 || decide (16 ≤ c.horizon ∧ c.horizon ≤ 4096))

/-- Structural rules of R121 on a pair record. -/
def pairRecOk (legacy bank18 : Bool) (p : Nat) (r : PairRec) : Bool :=
  decide (p ≤ 47) && (!legacy || decide (p ≤ 23)) && decide (r.mode ≤ 6)
    && decide (1 ≤ r.freq ∧ r.freq ≤ modeLimit r.mode) && (decide (r.mode < 5) || (bank18 && !legacy))
    && decide (r.pflags < 16) && decide (r.burst ≤ 2)

/-- Reserved bytes of the records are zero (R121). -/
def reservedRecsZero (rs : List (Nat × Nat × Bytes)) : Bool :=
  rs.all fun r =>
    if r.1 = 1 then zeroAt r.2.2 0xA 22
    else if r.1 = 2 then
      zeroAt r.2.2 0x1D 1 && zeroAt r.2.2 0x2E 18
        && ((List.range (leAt r.2.2 0x1B 1)).all fun i => zeroAt r.2.2 (0x40 + 16 * i + 0xB) 5)
        && ((List.range (leAt r.2.2 0x1C 1)).all fun i => zeroAt r.2.2 (0x40 + 16 * leAt r.2.2 0x1B 1 + 16 * i + 9) 7)
    else false

/-- Step 7 of Table 04-5 (R121); `bank18 p` reads PP_CFG.BANK_18 of PP[p]. -/
def policyStructureOk (legacy : Bool) (bank18 : Nat → Bool) (b : Bytes) : Bool :=
  let q := parsePolicy b
  q.profile = flag legacy && reservedRecsZero (policyRecords b)
    && (q.pairs.map Prod.fst).Nodup && (q.comps.map Prod.fst).Nodup
    && q.pairs.all (fun e => pairRecOk legacy (bank18 e.1) e.1 e.2)
    && q.comps.all (fun e => compRecOk legacy (bank18 (e.1 / 2)) e.1 e.2 && q.pairs.any fun p => p.1 = e.1 / 2)
    && !(bit q.flags 1 && q.profile = 0)

/-- Step 8 of Table 04-5 (R92). -/
def policyLatencyOk (b : Bytes) : Bool :=
  let q := parsePolicy b
  q.pairs.all fun e => q.onPair e.1 = [] || latencyOk e.2 (q.onPair e.1)

/-- Granules in the SEALED regions of a component. -/
def CompRec.sealed (c : CompRec) : List Nat :=
  (c.regions.filter fun r => r.cls = 0).flatMap fun r => List.range' (r.base / 2048) ((r.limit + 1 - r.base) / 2048)

/-- Boot-entry granules of an OXM's parts (Table 06-3). -/
def bootGranules (ps : List Part) : List Nat := ps.flatMap fun p => List.range' (p.base / 2048) p.boot

/-- The pinned set of a component: SEALED granules and boot-entry granules (R151, R184), each once, ascending. -/
def pinnedSet (c : CompRec) (ps : List Part) : List Nat := once (sortBy (fun a b => decide (a ≤ b)) (c.sealed ++ bootGranules ps))

/-- The signature block of a signed object: keys, then signatures (R117). -/
structure SigBlock where
  mldsaKey : Bytes
  ecdsaKey : Bytes
  mldsaSig : Bytes
  ecdsaSig : Bytes
  deriving DecidableEq, Repr

def sigBlock (b : Bytes) (at_ : Nat) : SigBlock :=
  ⟨slice b at_ 2592, slice b (at_ + 2592) 97, slice b (at_ + 2689) 4627, slice b (at_ + 7316) 96⟩

/-- Key-set hash (R117): SHA-384 of the two public keys concatenated. -/
def SigBlock.keyHash (s : SigBlock) : Bytes := sha384b (s.mldsaKey ++ s.ecdsaKey)

/-- Both signatures verify over the signed bytes (R117). -/
def SigBlock.verifies (s : SigBlock) (signed : Bytes) : Bool :=
  Config.mldsa87Verify s.mldsaKey [] signed s.mldsaSig && Config.ecdsaVerify s.ecdsaKey (sha384b signed) s.ecdsaSig

/-! ## OXM (Tables 10-5 and 10-6) -/

/-- A PART entry. -/
def parsePart (b : Bytes) : Part :=
  ⟨bit (leAt b 1 1) 0, leAt b 2 2, leAt b 4 4, leAt b 8 4, leAt b 0xC 4, leAt b 0x10 4, slice b 0x20 48⟩

/-- Entry i of an OXM. -/
def oxmEntry (b : Bytes) (i : Nat) : Bytes := slice b (64 + 80 * i) 80

/-- A component OXM, parsed. -/
def parseOxm (b : Bytes) : Oxm :=
  ⟨leAt b 6 1, leAt b 0x10 1, leAt b 0x11 1, leAt b 0x14 2,
   (List.range (leAt b 0x12 2)).map fun i => parsePart (oxmEntry b i), b⟩

/-- Nodes on each level of a tree over n granules (R148). -/
def levelCounts : Nat → Nat → List Nat
  | 0, _ => []
  | k + 1, n => let m := (n + 15) / 16; if m ≤ 1 then [1] else m :: levelCounts k m

/-- Node count of a part (R148). -/
def nodeCount (p : Part) : Nat := (levelCounts 8 (p.len / 2048)).sum

/-- Number of levels of a part's tree. -/
def Part.levels (p : Part) : Nat := (levelCounts 8 (p.len / 2048)).length

/-- Address of node j of level m, from 1 (R148). -/
def nodeAddr (p : Part) (m j : Nat) : Nat := p.treeAddr + 768 * (((levelCounts 8 (p.len / 2048)).take (m - 1)).sum + j)

/-- Two ranges [a, a + n) and [b, b + m) share a byte. -/
def overlap (a n b m : Nat) : Bool := decide (a < b + m ∧ b < a + n)

/-- Every byte of [a, a + n) lies in regions that `p` selects. -/
def insideRegions (c : CompRec) (p : Region → Bool) (a n : Nat) : Bool :=
  decide (a + n ≤ 2 ^ c.densityLog2) &&
    c.regions.all fun r => p r || !overlap a n r.base (r.limit + 1 - r.base)

/-- Steps 1 to 6 of Table 05-2 on one part. -/
def partCheck (c : CompRec) (reservedOk : Bool) (p : Part) : Option Status :=
  if p.base % 2048 ≠ 0 then some .alignment
  else if p.len = 0 ∨ p.len % 2048 ≠ 0 then some .lengthMismatch
  else if p.len / 2048 < p.boot ∨ !reservedOk then some .oxmInvalid
  else if p.treeAddr % 256 ≠ 0 then some .alignment
  else if p.treeLen ≠ 768 * nodeCount p then some .lengthMismatch
  else if !insideRegions c (fun r => decide (r.cls ≤ 1)) p.base p.len then some .oxmInvalid
  else if !insideRegions c (fun r => r.role = 3) p.treeAddr p.treeLen then some .oxmInvalid
  else if overlap p.base p.len p.treeAddr p.treeLen then some .oxmInvalid
  else none

/-- Step 7 of Table 05-2 across the parts: every verified granule in exactly one part, no two trees overlap. -/
def coverageOk (c : CompRec) (ps : List Part) : Bool :=
  ((c.regions.filter fun r => decide (r.cls ≤ 1)).flatMap fun r =>
      List.range' (r.base / 2048) ((r.limit + 1 - r.base) / 2048)).all
    (fun g => (ps.filter fun p => decide (p.base ≤ 2048 * g ∧ 2048 * g < p.base + p.len)).length = 1)
    && ps.Pairwise (fun a b => overlap a.treeAddr a.treeLen b.treeAddr b.treeLen = false)

/-- Table 05-2, part by part (R150; the order of parts is DEDUCED, log entry 10). -/
def partChecks (c : CompRec) (raw : Bytes) (ps : List Part) : Option Status :=
  let rec go : Nat → List Part → Option Status
    | _, [] => none
    | i, p :: r => match partCheck c (decide (leAt (oxmEntry raw i) 1 1 < 2)) p with
      | some s => some s
      | none => go (i + 1) r
  match go 0 ps with
  | some s => some s
  | none => if coverageOk c ps then none else some .oxmCoverage

/-- Step 1 of Table 10-7 on the entries: TYPE permitted to the KIND, reserved bytes and bits zero (R325). -/
def oxmEntryOk (kind : Nat) (e : Bytes) : Bool :=
  match leAt e 0 1 with
  | 1 => decide (kind ≤ 1) && decide (leAt e 1 1 < 2) && zeroAt e 0x14 12
  | 2 => kind = 2 && zeroAt e 1 3 && zeroAt e 0xD 19
  | 3 => kind = 3 && decide (leAt e 1 1 ≤ 63) && decide (leAt e 2 1 ≤ 1) && zeroAt e 3 1 && zeroAt e 8 8 && zeroAt e 0x20 48
  | 4 => kind = 3 && decide (1 ≤ leAt e 1 1 ∧ leAt e 1 1 ≤ 3) && (decide (leAt e 2 1 ≤ 63) || leAt e 2 1 = 0xFF)
      && zeroAt e 5 3 && zeroAt e 0x18 8
  | _ => false

/-- Step 1 of Table 10-7. -/
def oxmFormatOk (b : Bytes) : Bool :=
  let k := leAt b 6 1
  let n := leAt b 0x12 2
  decide (64 ≤ b.length) && leAt b 0 4 = 0x4D4F5846 && leAt b 4 2 = 1 && decide (k ≤ 3) && zeroAt b 7 1 && zeroAt b 0x16 2
    && zeroAt b 0x28 24 && decide (leAt b 0x11 1 ≤ 7)
    && (if k ≤ 2 then leAt b 0x18 8 = 0 && leAt b 0x20 4 = 0 && leAt b 0x24 4 = 0
        else (leAt b 0x18 8 = 0 || decide (1000000 ≤ leAt b 0x18 8 ∧ leAt b 0x18 8 ≤ 2 ^ 40))
          && (leAt b 0x24 4 = 0 || decide (500000 ≤ leAt b 0x24 4 ∧ leAt b 0x24 4 ≤ 150000000)))
    && (if k ≤ 1 then decide (leAt b 0x14 2 ≤ 95) else leAt b 0x14 2 = 0xFFFF)
    && (List.range (min n ((b.length - 64) / 80))).all fun i => oxmEntryOk k (oxmEntry b i)

/-- ENTRY_COUNT within the range of its KIND (Table 10-5). -/
def oxmCountOk (b : Bytes) : Bool :=
  let n := leAt b 0x12 2
  match leAt b 6 1 with
  | 2 => n = 1
  | 3 => decide (2 ≤ n ∧ n ≤ 1024)
  | _ => decide (1 ≤ n ∧ n ≤ 256)

/-- Step 2 of Table 10-7: the bytes present equal TOTAL_LEN, and the length relations of R324. -/
def oxmLengthOk (b : Bytes) : Bool :=
  b.length = leAt b 8 4 && leAt b 8 4 = 64 + leAt b 0xC 4 + sigBlockLen && leAt b 0xC 4 = 80 * leAt b 0x12 2 && oxmCountOk b

/-- Signed bytes of an OXM (R324). -/
def oxmSigned (b : Bytes) : Bytes := b.take (64 + leAt b 0xC 4)

namespace Dev

/-- An OTP word as in use since the start (11_lifecycle_otp_debug.md R352). -/
def fuse (d : Dev) (w : Nat) : Nat := SMap.get (fun _ => 0) d.fuses w

/-- Bytes of consecutive OTP words in use. -/
def fuseBytes (d : Dev) (w n : Nat) : Bytes := (List.range n).flatMap fun i => leBytes 4 (d.fuse (w + i))

/-- Content of owner key slot k (R363; regions 5 and 6 of Table 11-1). -/
def slotHash (d : Dev) (k : Nat) : Bytes := d.fuseBytes (64 * (5 + k / 4) + 12 * (k % 4)) 12

/-- The revoke fuse of slot k is intact. -/
def slotIntact (d : Dev) (k : Nat) : Bool := !bit (d.rd LC_OKS_REVOKED) k

/-- Slot k is usable (R363). -/
def slotUsable (d : Dev) (k : Nat) : Bool := bit (d.rd LC_OKS_USABLE) k

/-- Slot k is a PLATFORM slot, which may sign every kind of object (R363). -/
def slotPlatform (d : Dev) (k : Nat) : Bool := d.slotUsable k && bits (d.rd LC_OKS_CLASS) (2 * k) 2 = 1

/-- Slot k may sign component OXMs (R363). -/
def slotComponent (d : Dev) (k : Nat) : Bool := d.slotUsable k

/-- Key-set hash and both signatures of an object signed under a slot (R117, R241, R363). -/
def signedBy (d : Dev) (platform : Bool) (k : Nat) (signed : Bytes) (sb : SigBlock) : Bool :=
  (if platform then d.slotPlatform k else d.slotComponent k) && sb.keyHash = d.slotHash k && sb.verifies signed

/-- The value of VERDICT after a comparison (R224). -/
def verdictOf (ok : Bool) : Nat := if ok then 0xA55A else 0x3CC3

/-- What a verification by the firmware leaves in the signature engine's registers (R224, R241, Table 07-15): one operation, of whichever form
(DESIGN CHOICE, log entry 98); `none` when it was not reached. -/
def sawVerify (d : Dev) : Option Bool → Dev
  | none => d
  | some ok =>
    let d1 := ((d.wr SE_VERDICT (verdictOf ok)).inc SE_OPS).tally 281 1
    if ok then d1 else (d1.inc SE_VERIFY_FAIL).tally 282 1

/-- The outcome of a hybrid verify, which runs to its end once the slot's class and key hash fit (R241, R363). -/
def hybrid (d : Dev) (platform : Bool) (k : Nat) (signed : Bytes) (sb : SigBlock) : Option Bool :=
  if d.slotIntact k && d.rd CR_STATE ≠ 3 && (if platform then d.slotPlatform k else d.slotComponent k) && sb.keyHash = d.slotHash k then
    some (sb.verifies signed)
  else none

/-- The hybrid verify of an OXM or manifest. -/
def sawOxm (d : Dev) (b : Bytes) : Dev :=
  d.sawVerify (if oxmFormatOk b && oxmLengthOk b then
    d.hybrid (decide (2 ≤ leAt b 6 1)) (leAt b 0x11 1) (oxmSigned b) (sigBlock b (64 + leAt b 0xC 4)) else none)

/-- Table 10-7 on an OXM: the bytes, the floor for KIND 0 and 1 or the last Front SEQ for KIND 3, and the kinds and target
its use allows. A crypto complex in ERROR fails the signature step with SELFTEST_FAIL (R244). -/
def oxmCheck (d : Dev) (b : Bytes) (floor : Nat) (kinds : List Nat) (target : Nat) : Option Status :=
  let k := leAt b 6 1
  let slot := leAt b 0x11 1
  if !oxmFormatOk b then some .oxmInvalid
  else if !oxmLengthOk b then some .lengthMismatch
  else if !d.slotIntact slot then some .keyRevoked
  else if d.rd CR_STATE = 3 then some .selftestFail
  else if !d.signedBy (decide (2 ≤ k)) slot (oxmSigned b) (sigBlock b (64 + leAt b 0xC 4)) then some .authFail
  else if (k ≤ 1 ∧ leAt b 0x10 1 < floor) ∨ (k = 3 ∧ leAt b 0x20 4 ≤ floor) then some .svnRollback
  else if !kinds.contains k ∨ (k ≤ 1 ∧ leAt b 0x14 2 ≠ target) then some .oxmInvalid
  else none

/-- A component OXM under Table 10-7 and then Table 05-2 (R150, R326). -/
def compOxmCheck (d : Dev) (c : CompRec) (n : Nat) (kinds : List Nat) (b : Bytes) : Option Status :=
  match d.oxmCheck b (d.rd (COMP_OXM_FLOOR n)) kinds n with
  | some s => some s
  | none => partChecks c b (parseOxm b).parts

end Dev

end Sys2Proof.Machine
end

