-- ==== Sys2Proof/Machine/Flash.lean ====
section
/-! DEFINITION. The flash path that commands share: Snowpack frames and nodes, pending checks, containment, and the
component state machine (05_verified_fetch.md, 06_hold_release_thaw.md). -/

namespace Sys2Proof.Machine

open Reg

/-- Header offset of PP[p]. -/
def ppOff (p : Nat) : Nat := 0x1000000 + 0x10000 * p

/-- The components on a pair, cs0 first (R7). -/
def gcsOf (p : Nat) : List Nat := [2 * p, 2 * p + 1]

/-- The other component of a pair. -/
def otherCs (n : Nat) : Nat := if n % 2 = 0 then n + 1 else n - 1

/-- Every component number. -/
def allGcs : List Nat := List.range 96

/-- Hold reasons of Table 06-1, as bits of COMP_STATUS.HOLD. -/
inductive Hold where
  | noEntry | resetReq | minHold | holdCmd | disagree | takeover
  deriving DecidableEq, Repr

def Hold.bit : Hold → Nat
  | noEntry => 0 | resetReq => 1 | minHold => 2 | holdCmd => 3 | disagree => 4 | takeover => 5

/-- Region of an emulated address (R125). -/
def CompRec.region (c : CompRec) (a : Nat) : Option (Nat × Region) :=
  (c.regions.zipIdx.find? fun r => decide (r.1.base ≤ a ∧ a ≤ r.1.limit)).map fun r => (r.2, r.1)

/-- HORIZON of an entry in frames (Table 04-3: 0 selects 256). -/
def CompRec.horizonFrames (c : CompRec) : Nat := if c.horizon = 0 then 256 else c.horizon

/-- Aliased emulated address (R74). -/
def CompRec.alias (c : CompRec) (a : Nat) : Nat := a % 2 ^ c.densityLog2

/-- Offset of an address in the space that the regions of a role form (R190). -/
def CompRec.offsetIn (c : CompRec) (role a : Nat) : Nat :=
  ((c.regions.filter fun r => r.role = role && decide (r.base ≤ a)).map fun r => min (r.limit + 1) a - r.base).sum

/-- Offset of a primary address in the primary space (R190). -/
def CompRec.spaceOffset (c : CompRec) (a : Nat) : Nat := c.offsetIn 1 a

/-- Address of byte k of regions joined end to end. -/
def nthByte : List Region → Nat → Nat
  | [], k => k
  | r :: rs, k => if k ≤ r.limit - r.base then r.base + k else nthByte rs (k - (r.limit + 1 - r.base))

/-- Address of the golden copy of a primary byte (R190). -/
def CompRec.goldenAddr (c : CompRec) (a : Nat) : Nat := nthByte (c.regions.filter fun r => r.role = 2) (c.spaceOffset a)

/-- The part that covers a granule. -/
def partOf (ps : List Part) (g : Nat) : Option Part := ps.find? fun p => decide (p.base ≤ 2048 * g ∧ 2048 * g < p.base + p.len)

/-- Slot k of a node. -/
def nodeSlot (b : Bytes) (k : Nat) : Bytes := slice b (48 * k) 48

namespace Dev

/-! ## Component status -/

/-- Chip selects in service: components named by the policy in force (R151). -/
def named (d : Dev) (n : Nat) : Bool := (d.gc n).entry.isSome

/-- Both chip selects of the pair are in use (R101). -/
def bothCs (d : Dev) (p : Nat) : Bool := d.on (PP_CFG_CS_USED0 p) && d.on (PP_CFG_CS_USED1 p)

/-- A hold reason of a component. -/
def held (d : Dev) (n : Nat) (h : Hold) : Bool := bit (d.rd (COMP_STATUS_HOLD n)) h.bit

/-- Load a component state; RELEASED_MAP and QUARANTINE_MAP follow it (Table 06-8), and FORCED ends when HELD is reached (R201). -/
def setState (d : Dev) (n : Nat) (s : CompState) : Dev :=
  let d1 := ((d.wr (COMP_STATUS_STATE n) s.code).setBit (RELEASED_MAP (n / 64)) (n % 64) (s = .released)).setBit
    (QUARANTINE_MAP (n / 64)) (n % 64) (s = .quarantined)
  if s = .held then d1.clear (COMP_STATUS_FORCED n) else d1

/-- COMP_STATUS.LAST_STATUS. -/
def compStatus (d : Dev) (n : Nat) (s : Status) : Dev := d.wr (COMP_STATUS_LAST_STATUS n) s.code

/-- GOLDEN changes, with its event (R192, Table 06-9). -/
def setGolden (d : Dev) (n v : Nat) : Dev :=
  if d.rd (COMP_STATUS_GOLDEN n) = v then d
  else (d.wr (COMP_STATUS_GOLDEN n) v).compEvent n COMP_EVT_GOLDEN false .compGolden v

/-- The fields with G in their Reset column of GCn: UP_STATE[c] and WP_VIEW[c] (R76, Table 00-7). -/
def resetG (d : Dev) (n : Nat) : Dev :=
  d.resetWhere fun b => (kindsAt b).contains .g &&
    (b / 64 * 8 = ppOff (n / 2) + 0x58 + 8 * (n % 2) || b / 64 * 8 = ppOff (n / 2) + 0x3050 + 8 * (n % 2))

/-- RELEASE[n] falls (R178, R187): MIN_HOLD sets, the G fields are reset, the poison gate opens, the port stops. -/
def dropRelease (d : Dev) (n : Nat) : Dev :=
  if d.on (COMP_STATUS_RELEASE n) then
    let d1 := (d.clear (COMP_STATUS_RELEASE n)).setBit (COMP_STATUS_HOLD n) Hold.minHold.bit true
    let d2 := (d1.setComp n { d1.comp n with fell := d1.frame }).resetG n
    let d3 := d2.setGc n { d2.gc n with poisoned := false, fails := [], lastOpc := 0, contOpc := 0, lastGranule := none }
    (d3.compEvent n COMP_EVT_HELD false .compHeld (d3.rd (COMP_STATUS_HOLD n))).tally 265 1
  else d

/-- RELEASE[n] rises: UP_STATE is loaded with its start values and the view with WP_BITS (R76, R131, R178). -/
def raiseRelease (d : Dev) (n : Nat) : Dev :=
  let p := n / 2
  let c := n % 2
  let d1 := ((d.setState n .released).raise (COMP_STATUS_RELEASE n)).resetG n
  let d2 := (d1.wr (UP_STATE_MODE p c) (d1.rd (UP_CFG_START_MODE p c))).wr (UP_STATE_ADDR4 p c) (d1.rd (UP_CFG_ADDR4_DEFAULT p c))
  let d3 := d2.wr (WB_CS_WP_VIEW p c) (((d2.gc n).entry.map CompRec.wpBits).getD 0)
  let d4 := (d3.wr (COMP_TIME_RELEASED n) (lo32 d3.frame)).wr DEV_LAST_RELEASE (lo32 d3.frame)
  let d5 := (d4.inc (COMP_CNT_RELEASE_CNT n)).tally 264 1
  d5.compEvent n COMP_EVT_RELEASED false .compReleased (d5.rd (COMP_CNT_RELEASE_CNT n))

/-! ## Snowpack frames -/

/-- ACTIVE granule banks (R151). -/
def activeBanks (d : Dev) : List Nat := (List.finRange 48).filterMap fun b => if d.cst (.spBank b) = .active then some b.val else none

/-- ACTIVE node banks. -/
def activeNodeBanks (d : Dev) : List Nat := (List.finRange 8).filterMap fun b => if d.cst (.spNode b) = .active then some b.val else none

/-- The counts that Snowpack's registers show (Table 05-6): pending frames, nodes held and rooted, and the cache that
remains beside the pinned part and the stream buffers (Table 05-3). -/
def showSnow (d : Dev) : Dev :=
  let nCs := (allGcs.filter d.named).length
  let total := 256 * d.activeBanks.length
  d.wr SP_PART_PENDING (d.snow.frames.filter fun f => f.state = .pending).length
    |>.wr SP_NODES_USED d.snow.nodes.length |>.wr SP_NODES_ROOTED (d.snow.nodes.filter Node.rooted).length
    |>.wr SP_PART_STRBUF (4 * nCs) |>.wr SP_PART_CACHE (total - d.rd SP_PART_PIN_USED - 4 * nCs)

def setSnow (d : Dev) (s : Snow) : Dev := { d with snow := s }.showSnow

/-- The frame that holds a granule (R162). -/
def frameOf (d : Dev) (n g : Nat) : Option Frame := d.snow.frames.find? fun f => f.gc = n && f.granule = g

/-- State of a granule; none is ABSENT (Table 05-4). -/
def gstate (d : Dev) (n g : Nat) : Option GState := (d.frameOf n g).map Frame.state

/-- Free the frames that `p` selects. -/
def freeFrames (d : Dev) (p : Frame → Bool) : Dev := d.setSnow { d.snow with frames := d.snow.frames.filter fun f => !p f }

/-- A bank with room: the lowest-numbered ACTIVE one (R151 leaves the place free; DESIGN CHOICE, log entry 11). -/
def freeBank (d : Dev) : Option Nat :=
  d.activeBanks.find? fun b => decide ((d.snow.frames.filter fun f => f.bank = b).length < 256)

/-- Place or replace a frame, as the most recently used; without a free frame in an ACTIVE bank none is placed (R151). -/
def putFrame (d : Dev) (n g : Nat) (st : GState) (bytes : List (Nat × Byte)) (verified : Bool) : Dev :=
  match ((d.frameOf n g).map Frame.bank).or d.freeBank with
  | some bank =>
    let rest := d.snow.frames.filter fun f => !(f.gc = n && f.granule = g)
    d.setSnow { d.snow with frames := ⟨n, g, bank, st, bytes, verified⟩ :: rest }
  | none => d

/-- Mark a frame as the most recently used (R153). -/
def touch (d : Dev) (n g : Nat) : Dev :=
  match d.frameOf n g with
  | some f => { d with snow := { d.snow with frames := f :: d.snow.frames.filter fun x => !(x.gc = n && x.granule = g) } }
  | none => d

/-- A frame that may be served to a component (R152), in a region of class `cls`: pinned, verified in the cache, or in the stream buffer and
verified or of an OPEN region. -/
def servable (f : Frame) (cls : Nat) : Bool :=
  match f.state with
  | .pinned => true
  | .cached => f.verified
  | .buffered => f.verified || cls = 2
  | _ => false

/-- The cache keeps at most k frames: the least recently used cached granules beyond them are evicted (R153). -/
def trimTo (d : Dev) (k : Nat) : Dev :=
  let tooMany := (d.snow.frames.filter fun f => f.state = .cached || f.state = .pending).length - k
  let out := ((d.snow.frames.filter fun f => f.state = .cached).reverse).take tooMany
  if out = [] then d
  else ((d.freeFrames fun f => out.contains f).add EVICT_CNT out.length).tally 272 out.length

/-- The cache is no larger than its part (R151, R153). -/
def trimCache (d : Dev) : Dev := d.trimTo (d.rd SP_PART_CACHE)

/-- Make room in the cache for one frame more (R153). -/
def makeRoom (d : Dev) : Dev := d.trimTo (d.rd SP_PART_CACHE - 1)

/-! ## Nodes -/

/-- A verified node of a part under its root (R154, R173). -/
def nodeOf (d : Dev) (n : Nat) (p : Part) (lvl j : Nat) : Option Node :=
  d.snow.nodes.find? fun x => x.gc = n && x.part = p.base && x.root = p.root && x.level = lvl && x.index = j

/-- The path of a granule inside its part: node index on each level, lowest first (R147). -/
def pathOf (p : Part) (g : Nat) : List (Nat × Nat) :=
  let i := g - p.base / 2048
  (List.range p.levels).map fun k => (k + 1, i / 16 ^ (k + 1))

/-- Nodes of a path that are not in the node store, highest level first (R157, R165). -/
def missingPath (d : Dev) (n : Nat) (p : Part) (g : Nat) : List (Nat × Nat) :=
  ((pathOf p g).filter fun x => (d.nodeOf n p x.1 x.2).isNone).reverse

/-- The digest a node must have: its parent's slot, or ROOT for the top node (R147, R154). -/
def nodeExpect (d : Dev) (n : Nat) (p : Part) (lvl j : Nat) : Option Bytes :=
  if lvl = p.levels then some p.root
  else (d.nodeOf n p (lvl + 1) (j / 16)).map fun x => nodeSlot x.bytes (j % 16)

/-- The leaf digest a granule must have, once its level-1 node is verified. -/
def leafExpect (d : Dev) (n : Nat) (p : Part) (g : Nat) : Option Bytes :=
  let i := g - p.base / 2048
  (d.nodeOf n p 1 (i / 16)).map fun x => nodeSlot x.bytes (i % 16)

/-- The node is on the path of a granule of a part. -/
def Node.onPath (x : Node) (n : Nat) (p : Part) (g : Nat) : Bool :=
  x.gc = n && x.part = p.base && x.root = p.root && (pathOf p g).contains (x.level, x.index)

/-- The nodes on a granule's path become the most recently used (R154). -/
def usePath (d : Dev) (n : Nat) (p : Part) (g : Nat) : Dev :=
  let x := d.snow
  { d with snow := { x with nodes := x.nodes.filter (Node.onPath · n p g) ++ x.nodes.filter fun y => !Node.onPath y n p g } }

/-- Nodes that may not be evicted: those on the path of a pending entry (R154). -/
def nodeInUse (d : Dev) (x : Node) : Bool :=
  d.snow.pend.any fun e => (partOf e.parts e.granule).any fun p => Node.onPath x e.gc p e.granule

/-- Store a verified node: a top node among the first 320 in a rooted slot of SP_NODE[0], which it waits for while that bank is not ACTIVE
(R156), another in the node cache, where the least recently used level-1 node is evicted first and then the least recently used of a
higher level (R151, R154). -/
def storeNode (d : Dev) (n : Nat) (p : Part) (lvl j : Nat) (b : Bytes) : Dev :=
  let rest := d.snow.nodes.filter fun x => !(x.gc = n && x.part = p.base && x.root = p.root && x.level = lvl && x.index = j)
  let node : Nat → Bool → Node := fun k r => ⟨n, p.base, p.root, lvl, j, k, r, b⟩
  if lvl = p.levels && decide ((rest.filter Node.rooted).length < 320) then
    if d.activeNodeBanks.contains 0 then d.setSnow { d.snow with nodes := node 0 true :: rest } else d
  else
    let cap := fun k => if k = 0 then 320 else 640
    match d.activeNodeBanks.find? fun k => decide ((rest.filter fun x => x.bank = k && !x.rooted).length < cap k) with
    | some k => d.setSnow { d.snow with nodes := node k false :: rest }
    | none =>
      let free := rest.filter fun x => !x.rooted && !d.nodeInUse x
      match ((free.filter fun x => x.level = 1).getLast?).or free.getLast? with
      | some v => d.setSnow { d.snow with nodes := node v.bank false :: rest.filter (· ≠ v) }
      | none => d

/-- A comparison passes only with the pass value of VERDICT: the digest equals the slot (R159). -/
def matches_ (expect : Option Bytes) (data : Bytes) : Bool := expect = some (sha384b data)

/-- The lane that taps a component's pair digests n bytes and compares (R158, R209): its VERDICT, blocks and comparisons, and
the pair marked as tapped in this frame. -/
def compared (d : Dev) (n len : Nat) (ok : Bool) : Dev :=
  let p := n / 2
  let j := p % 16
  let k := (len + 16) / 128 + 1
  let d1 := d.wr (LANE_VERDICT j) (verdictOf ok) |>.inc (LANE_CHECK_CNT j) |>.add (LANE_TAP_BLOCKS j) k
    |>.setBit (LANE_TAP_MASK j) (p / 16) true
  { d1 with crypto := { d1.crypto with
      taps := SMap.set (fun _ => 0) d1.crypto.taps j (SMap.get (fun _ => 0) d1.crypto.taps j + k) } }

/-- A node that is fetched because the store does not hold it is counted (Table 05-6). -/
def nodeMissed (d : Dev) (n : Nat) (p : Part) (lvl j : Nat) : Dev :=
  if (d.nodeOf n p lvl j).isNone then (d.inc NODE_MISS_CNT).tally 273 1 else d

/-- A node arrives: compared with its parent's slot or ROOT, and stored when it passes (R154, R157, R165). -/
def nodeArrives (d : Dev) (n : Nat) (p : Part) (lvl j : Nat) (b : Bytes) : Bool × Dev :=
  let ok := matches_ (d.nodeExpect n p lvl j) b
  let d1 := (d.nodeMissed n p lvl j).compared n b.length ok
  (ok, if ok then d1.storeNode n p lvl j b else d1)

/-- A granule arrives and is compared with its slot (R157, R165). -/
def granuleArrives (d : Dev) (n : Nat) (p : Part) (g : Nat) (b : Bytes) : Bool × Dev :=
  let ok := matches_ (d.leafExpect n p g) b
  (ok, (d.compared n b.length ok).usePath n p g)

/-- Drop the cached nodes and the CACHED and BUFFERED frames of a component, and what has been read in part (R173). -/
def dropCached (d : Dev) (n : Nat) : Dev :=
  let d1 := d.setGc n { d.gc n with pieces := [] }
  d1.setSnow { d1.snow with
    frames := d1.snow.frames.filter fun f => !(f.gc = n && (f.state = .cached || f.state = .buffered)),
    nodes := d1.snow.nodes.filter fun x => x.gc ≠ n }

/-! ## Pending checks (R164 to R171) -/

def pendOf (d : Dev) (n : Nat) : List Pend := d.snow.pend.filter fun e => e.gc = n

/-- VF_STATE[c] shows the open entries; OLDEST_AGE reads the present age. -/
def showPend (d : Dev) (n : Nat) : Dev :=
  let k := (d.pendOf n).length
  let old := ((d.pendOf n).map fun e => d.frame - e.born).foldl max 0
  ((d.wr (VF_STATE_DEPTH (n / 2) (n % 2)) k).wr (VF_STATE_DEPTH_HIGH (n / 2) (n % 2))
    (max k (d.rd (VF_STATE_DEPTH_HIGH (n / 2) (n % 2))))).wr (VF_STATE_OLDEST_AGE (n / 2) (n % 2)) (min old 4095)

/-- Open an entry in the lowest free place of PC[c] (R164). -/
def openPend (d : Dev) (n g : Nat) (r : Region) (c : CompRec) : Dev :=
  let e := (lowest 32 fun i => (d.pendOf n).all fun x => x.e ≠ i).getD 0
  let ps := ((d.comp n).oxm.map Oxm.parts).getD []
  let x : Pend := ⟨n, e, g, r.action, c.horizonFrames, ps, d.frame⟩
  let d1 := d.makeRoom.putFrame n g .pending [] false
  let d2 := { d1 with snow := { d1.snow with pend := d1.snow.pend ++ [x], noPrefetch := d1.snow.noPrefetch.filter (· ≠ (n, g)) } }
  (d2.showPend n).tally (144 + n / 2) 1

/-- Close an entry without touching its frame. -/
def closePend (d : Dev) (x : Pend) : Dev :=
  ({ d with snow := { d.snow with pend := d.snow.pend.filter (· ≠ x) } }).showPend x.gc

/-- Discard the open entries of a chip select that `p` selects, with their frames (Table 05-5). -/
def discardPend (d : Dev) (n : Nat) (p : Pend → Bool) : Dev :=
  (d.pendOf n).foldl (fun d x =>
    if p x then ((d.closePend x).freeFrames fun f => f.gc = n && f.granule = x.granule && f.state = .pending).inc
      (DISCARD_CNT (n / 2) (n % 2))
    else d) d

/-- VF_EVT bit, Barograph code and counter of a cause (Table 05-7). -/
def causeEvt (p : Nat) : Nat → Fld
  | 0 => VF_EVT_MISMATCH p | 1 => VF_EVT_NODE_MISMATCH p | 2 => VF_EVT_OVERFLOW p | _ => VF_EVT_EXPIRY p
def causeEv : Nat → Ev
  | 0 => .vfMismatch | 1 => .vfNodeMismatch | 2 => .vfOverflow | _ => .vfExpiry
def causeCnt (p c : Nat) : Nat → Fld
  | 0 => MISMATCH_CNT p c | 1 => MISMATCH_CNT p c | 2 => OVERFLOW_CNT p c | _ => EXPIRY_CNT p c

/-- VF_LAST[c] records a failure; of LOG_ONLY failures in one frame it keeps the lowest granule (R168; log entry 92). -/
def vfLast (d : Dev) (n : Nat) (x : Fail) (action : Nat) : Dev :=
  let p := n / 2
  let c := n % 2
  if action = 1 && d.on (VF_LAST_ACTION p c) && d.rd (VF_LAST_FRAME p c) = lo32 x.frame && decide (d.rd (VF_LAST_GRANULE p c) < x.granule) then d
  else d.wr (VF_LAST_GRANULE p c) x.granule |>.wr (VF_LAST_CAUSE p c) x.cause |>.wr (VF_LAST_ACTION p c) action
    |>.wr (VF_LAST_AGE p c) (min x.age 4095) |>.wr (VF_LAST_FRAME p c) (lo32 x.frame)

/-- DETAIL0 of a check failure: granule in [16:0], age in [31:20] (Table 12-3). -/
def failDetail (x : Fail) : Nat := x.granule + 2 ^ 20 * min x.age 4095

/-- Counter and VF_EVT bit of one failure. -/
def countFail (d : Dev) (n : Nat) (x : Fail) : Dev :=
  ((d.inc (causeCnt (n / 2) (n % 2) x.cause)).raise (causeEvt (n / 2) x.cause)).tally 270 1

/-- Steps 2 to 4 of R169 as RELEASE falls: the component is CONTAINED, other entries are discarded, CACHED and BUFFERED frames freed, every
failure counted, and of those of the first one's frame the lowest granule is recorded (R168; one frame stands for one core cycle,
DEDUCED: log entry 92). -/
def contain (d : Dev) (n : Nat) : Dev :=
  match (d.gc n).fails with
  | [] => d
  | x :: xs =>
    let same := (x :: xs).filter fun y => y.frame = x.frame
    let l := same.foldl (fun a b => if b.granule < a.granule then b else a) x
    let d1 := ((d.dropRelease n).setState n .contained).discardPend n fun _ => true
    let d2 := d1.freeFrames fun f => f.gc = n && (f.state = .cached || f.state = .buffered)
    let d3 := (x :: xs).foldl (fun d y => d.countFail n y) d2
    let d4 := ((d3.raise (VF_EVT_CONTAINED (n / 2))).vfLast n l 0).post (causeEv l.cause) (.comp n) (failDetail l)
    let d5 := d4.setComp n { d4.comp n with thawDue := true }
    let d6 := if d.on (COMP_STATUS_KEY_STALE n) then (d5.clear (COMP_STATUS_READY n)).clear (COMP_STATUS_KEY_STALE n) else d5
    d6.tally 267 1

/-! ## Thaw requests and quarantine (R194, R197, R200) -/

/-- The component becomes QUARANTINED: its pending entries are discarded and the event recorded (R197, R200). -/
def quarantine (d : Dev) (n pass : Nat) (s : Status) : Dev :=
  let d1 := (d.setState n .quarantined).discardPend n fun _ => true
  let d2 := (d1.setGc n { d1.gc n with stream := none, thaw := none }).compStatus n s
  (d2.compEvent n COMP_EVT_QUARANTINED true .compQuarantined (pass + 2 ^ 16 * s.code)).post .compQuarantined (.comp n)
    (pass + 2 ^ 16 * s.code)

/-- Thaws of a component begun in the last hour (R194). -/
def recentThaws (d : Dev) (n : Nat) : List Nat := (d.comp n).thaws.filter fun f => decide (d.frame < f + 1800000000)

/-- A thaw begins (R194). -/
def beginThaw (d : Dev) (n : Nat) : Dev :=
  let ts := d.frame :: d.recentThaws n
  let d1 := (d.setState n .thawing).setComp n { d.comp n with thaws := ts, thawDue := false, forceDue := false }
  let d2 := d1.setGc n { d1.gc n with thaw := some { pass := 0 }, stream := none }
  let d3 := d2.wr (COMP_THAW_COUNT n) (min ts.length 3) |>.wr (COMP_THAW_PASS n) 0 |>.wr (COMP_THAW_UNITS_WRITTEN n) 0
    |>.wr (COMP_THAW_UNITS_SKIPPED n) 0 |>.wr (COMP_TIME_VERIFY_START n) (lo32 d2.frame)
  ((d3.compEvent n COMP_EVT_THAW_START true .compThawStart (min ts.length 3)).post .compThawStart (.comp n)
    (min ts.length 3)).tally 268 1

/-- A thaw request resolves to THAWING or QUARANTINED (R194). -/
def thawRequest (d : Dev) (n : Nat) : Dev :=
  let g := d.rd (COMP_STATUS_GOLDEN n)
  let d0 := d.setComp n { d.comp n with thawDue := false }
  if g = 4 then d0.quarantine n 0 .keyRevoked
  else if g ≠ 1 ∧ g ≠ 2 then d0.quarantine n 0 .noGolden
  else if 3 ≤ (d.recentThaws n).length then d0.quarantine n 0 .thawLimit
  else d0.beginThaw n

/-! ## Hold reasons (R178, R179, Table 06-2) -/

/-- A RELEASED component leaves RELEASED for HELD, or for CONTAINED when a containment is under way (R181); with KEY_STALE it goes
from HELD to its thaw request (Table 06-2). -/
def leaveReleased (d : Dev) (n : Nat) : Dev :=
  let d1 := (d.dropRelease n).setState n .held
  if (d.gc n).fails ≠ [] then d.contain n
  else if d.on (COMP_STATUS_KEY_STALE n) then
    ((d1.clear (COMP_STATUS_READY n)).clear (COMP_STATUS_KEY_STALE n)).thawRequest n
  else d1

/-- The RELEASE levels are frozen (R413). -/
def frozen (d : Dev) : Bool := d.own.frozen.isSome

/-- The device owns the ports and takes commands on them; otherwise they end with NOT_OWNER (R412, R413, R429). -/
def ownsPorts (d : Dev) : Bool := d.pairState = .owning

/-- A hold reason sets; a RELEASED component leaves RELEASED at once, unless the levels are frozen (R178, R181, R413). -/
def setHold (d : Dev) (n : Nat) (h : Hold) : Dev :=
  let d1 := d.setBit (COMP_STATUS_HOLD n) h.bit true
  if d.state n = .released && !d.frozen then d1.leaveReleased n else d1

/-- A hold reason clears. -/
def clearHold (d : Dev) (n : Nat) (h : Hold) : Dev := d.setBit (COMP_STATUS_HOLD n) h.bit false

/-! ## Containment (R169 to R171) -/

/-- A check of the component fails (R168 to R171): under LOG_ONLY it is counted and recorded; a RELEASED component under
CONTAIN is poisoned until RELEASE falls at a tick; a component that has left RELEASED makes a thaw request. -/
def checkFails (d : Dev) (n : Nat) (x : Fail) (action : Nat) : Dev :=
  if action = 1 then
    ((d.countFail n x).vfLast n x 1).postLimited (0x1021000 + n) (causeEv x.cause) (.comp n) (failDetail x)
  else if d.state n = .released then
    let g := d.gc n
    d.setGc n { g with poisoned := true, fails := g.fails ++ [x] }
  else
    let d1 := ((d.countFail n x).vfLast n x 0).post (causeEv x.cause) (.comp n) (failDetail x)
    if d.state n = .held ∨ d.state n = .verifying then
      ((d1.clear (COMP_STATUS_READY n)).setGc n { d1.gc n with stream := none }).thawRequest n
    else d1

/-! ## Verification streams (R157, R160, R183) -/

/-- Pinned set of a component under the entry and OXM in force. -/
def pins (d : Dev) (n : Nat) : List Nat :=
  match (d.gc n).entry with
  | some c => pinnedSet c (((d.comp n).oxm.map Oxm.parts).getD [])
  | none => []

/-- Every granule of the pinned set is PINNED (R160). -/
def pinsComplete (d : Dev) (n : Nat) : Bool := (d.pins n).all fun g => d.gstate n g = some .pinned

/-- Parts to stream for the required set: REQUIRED parts in full first, then pinned granules of the others (R183). -/
def requiredParts (ps : List Part) : List (Bool × Part) :=
  (ps.filter Part.required).map (fun p => (true, p)) ++ (ps.filter fun p => !p.required).map fun p => (false, p)

/-- First pinned granule of a part at or after its granule index i. -/
def nextPinned (pins : List Nat) (p : Part) (i : Nat) : Option Nat :=
  (pins.find? fun g => decide (p.base / 2048 + i ≤ g ∧ g < (p.base + p.len) / 2048)).map fun g => g - p.base / 2048

/-- What a stream reads next: a node (part, level, index) or a granule (part, index in the part). -/
inductive Item where
  | node (p : Part) (lvl j : Nat)
  | granule (p : Part) (i : Nat)
  deriving DecidableEq, Repr

/-- Move a stream past parts in which nothing is left. -/
def settle (pins : List Nat) : Nat → Stream → Stream
  | 0, s => s
  | k + 1, s => match s.parts with
    | [] => s
    | (full, p) :: r =>
      let go := if full then decide (s.next < p.len / 2048) else (nextPinned pins p s.next).isSome
      if go then s else settle pins k { s with parts := r, next := 0, nodeDone := false }

/-- The next item of a stream: in a part streamed in full, missing ancestors of each level-1 node, the node, its granules;
else the missing nodes on the path of the next pinned granule, then the granule (R157, R183). -/
def nextItem (d : Dev) (n : Nat) (s : Stream) : Option Item :=
  match s.parts with
  | [] => none
  | (true, p) :: _ =>
    let g := p.base / 2048 + s.next
    if s.nodeDone && (d.nodeOf n p 1 (s.next / 16)).isSome then some (.granule p s.next)
    else match (d.missingPath n p g).filter fun x => decide (2 ≤ x.1) with
      | x :: _ => some (.node p x.1 x.2)
      | [] => some (.node p 1 (s.next / 16))
  | (false, p) :: _ =>
    match nextPinned (d.pins n) p s.next with
    | none => none
    | some i => match d.missingPath n p (p.base / 2048 + i) with
      | x :: _ => some (.node p x.1 x.2)
      | [] => some (.granule p i)

/-- READY sets and the component is HELD (Table 06-2). -/
def becomeReady (d : Dev) (n : Nat) : Dev :=
  ((d.setState n .held).raise (COMP_STATUS_READY n)).setGc n { d.gc n with stream := none, thaw := none }

/-- The required set has verified and the pinned set is complete (Table 06-2). -/
def verifyEnds (d : Dev) (n : Nat) : Dev :=
  match (d.gc n).stream with
  | some s => if s.what = .verify && s.parts = [] && !s.failed && d.state n = .verifying && d.pinsComplete n then d.becomeReady n else d
  | none => d

/-- The pinned set that pin fetches build: of the entry staged with live changes (R138), else of the entry in force. -/
def pinTargets (d : Dev) (n : Nat) : List Nat :=
  match (d.gc n).staged with
  | some (some c) =>
    if bit (d.rd (WB_STATUS_PIN_WAIT (n / 2))) (n % 2) then pinnedSet c (((d.comp n).oxm.map Oxm.parts).getD []) else d.pins n
  | _ => d.pins n

/-- The first granule that a pin fetch may still pin: one of an open entry waits for its check, and one in REFETCH is fetched for that (R155,
R162). -/
def unpinned (d : Dev) (n : Nat) : Option Nat :=
  (d.pinTargets n).find? fun g => match d.gstate n g with
    | some .pinned | some .pending | some .refetch => false
    | _ => true

/-- The component has a granule in REFETCH (R155). -/
def refetchDue (d : Dev) (n : Nat) : Bool := d.snow.frames.any fun f => f.gc = n && f.state = .refetch

/-- Pin fetches run for a component: one that is READY or RELEASED, or whose stream has come to its end (R138, R156, R183). -/
def pinsWanted (d : Dev) (n : Nat) : Bool :=
  (d.comp n).oxm.isSome && (d.on (COMP_STATUS_READY n) || d.state n = .released || (d.gc n).stream.any fun s => s.what ≠ .golden)
    && (d.gc n).stream.all fun s => s.parts = [] && s.what ≠ .golden

/-- Chip select n has priority-4 work (Table 03-7, R99): a verification stream, a thaw or an image write, REFETCH, or pin fetches. -/
def work4 (d : Dev) (n : Nat) : Bool :=
  let g := d.gc n
  (g.stream.any fun s => s.parts ≠ [] && !g.audit) || g.thaw.isSome || g.write.isSome || d.refetchDue n
    || (d.pinsWanted n && (d.unpinned n).isSome)

/-- The count of priority-4 bytes restarts at zero when a chip select has no such work left (R99). -/
def settleMoved (d : Dev) (n : Nat) : Dev :=
  if (d.gc n).moved = 0 || d.work4 n then d else d.setGc n { d.gc n with moved := 0 }

/-- Bytes moved by a priority-4 transaction (R99). -/
def move4 (d : Dev) (n len : Nat) : Dev := (d.setGc n { d.gc n with moved := (d.gc n).moved + len }).settleMoved n

/-- Start a stream over parts. -/
def startStream (d : Dev) (n : Nat) (what : StreamFor) (ps : List (Bool × Part)) : Dev :=
  let s : Stream := ⟨what, ps, 0, false, false⟩
  let d0 := d.settleMoved n
  d0.setGc n { d0.gc n with stream := some (settle (d.pins n) (ps.length + 1) s), audit := false, pieces := [] }

/-- The component moves to VERIFYING and its stream starts (Table 06-2). -/
def startVerify (d : Dev) (n : Nat) : Dev :=
  let d1 := ((d.setState n .verifying).clear (COMP_STATUS_READY n)).wr (COMP_TIME_VERIFY_START n) (lo32 d.frame)
  let d2 := (d1.setGc n { d1.gc n with thaw := none }).setComp n { d1.comp n with forceDue := false }
  (d2.startStream n .verify (requiredParts (((d2.comp n).oxm.map Oxm.parts).getD []))).verifyEnds n

/-- An OXM that has passed its checks comes into force for a component (R173); COMP_OXM shows it. -/
def setOxm (d : Dev) (n : Nat) (b : Bytes) : Dev :=
  let x := parseOxm b
  let d1 := (d.dropCached n).setComp n { d.comp n with oxm := some x }
  (d1.wr (COMP_OXM_SVN n) x.svn).wr (COMP_OXM_SLOT n) x.slot

/-- Granules pinned over all components for the policy in force, with the OXM of one replaced (R184). -/
def pinTotal (d : Dev) (n : Nat) (ps : List Part) : Nat :=
  (allGcs.map fun m => match (d.gc m).entry with
    | some c => (pinnedSet c (if m = n then ps else (((d.comp m).oxm.map Oxm.parts).getD []))).length
    | none => 0).sum

/-- SP_PART.PIN_USED is the size of the pinned part, reserved when a policy takes effect; the cache shrinks to match (R151). -/
def showPins (d : Dev) : Dev := ((d.wr SP_PART_PIN_USED (d.pinTotal 96 [])).showSnow).trimCache

/-- An OXM for the entry in force is taken up (R137, R173, R182): it passes and the component verifies, or it fails and
the failure is recorded and a thaw request made. -/
def takeOxm (e : Dev) (n : Nat) (c : CompRec) (b : Bytes) (placed : Bool) : Dev :=
  let d := if placed then e.sawOxm b else e
  let r := if !placed then some Status.oxmInvalid
    else match d.compOxmCheck c n [0, 1] b with
      | some s => some s
      | none => if 8192 < d.pinTotal n (parseOxm b).parts then some .pinQuota else none
  match r with
  | none => (((d.setOxm n b).showPins).compStatus n .ok).startVerify n
  | some .selftestFail => d.compStatus n .selftestFail
  | some s => (((d.clear (COMP_STATUS_READY n)).setState n .held).compStatus n s).thawRequest n

/-! ## Writes to flash (R172) -/

/-- The granules a write covers leave PENDING, CACHED and BUFFERED at the moment it is issued (R172, Table 05-5). -/
def invalidate (d : Dev) (n a len : Nat) : Dev :=
  let hit := fun (g : Nat) => decide (a < 2048 * (g + 1) ∧ 2048 * g < a + len)
  (d.discardPend n fun x => hit x.granule).freeFrames fun f =>
    f.gc = n && hit f.granule && (f.state = .cached || f.state = .buffered)

/-! ## Transactions downstream (R75, R99 to R105) -/

/-- Downstream addresses of chip select n take 4 bytes (R75). -/
def dnFour (d : Dev) (n : Nat) : Bool :=
  let p := n / 2
  decide (24 < d.rd (DN_FLASH_DENSITY_LOG2 p (n % 2))) || d.on (DN_CFG_ADDR4 p) || decide (5 ≤ d.rd (DN_CFG_MODE p))

/-- Downstream program opcode: the one that Table 04-6 lists for the downstream mode and width (R75, R83; DEDUCED, log entry 84). -/
def dnProgram (d : Dev) (n : Nat) : Nat :=
  let four := d.dnFour n
  match d.rd (DN_CFG_MODE (n / 2)) with
  | 1 => if four then 0x34 else 0x32
  | 2 => if four then 0x3E else 0x38
  | _ => if four then 0x12 else 0x02

/-- Downstream erase opcode of a size and the width (R75, R83; DEDUCED, log entry 84). -/
def dnErase (d : Dev) (n len : Nat) : Nat :=
  let four := d.dnFour n
  if len = 4096 then (if four then 0x21 else 0x20)
  else if len = 32768 then (if four then 0x5C else 0x52)
  else if four then 0xDC else 0xD8

/-- Put a transaction on the downstream bus (Table 12-4 counts it). -/
def dnEmit (d : Dev) (n opc addr : Nat) (b : Bytes) : Dev := (d.emit (.downstream n opc (d.dnFour n) addr b)).tally (48 + n / 2) 1

/-- Transactions of a pair are bursts: both chip selects are in use and a component is RELEASED (R101). -/
def bursts (d : Dev) (p : Nat) : Bool := d.bothCs p && (gcsOf p).any fun m => d.state m = .released

/-- B of a pair in bytes (R90). -/
def burstOf (d : Dev) (p : Nat) : Nat := burstBytes (d.rd (PP_CFG_BURST p))

/-- Bytes of a burst at the background clock, whose bus occupancy stays within t_B (R105). -/
def slowBurst (d : Dev) (p : Nat) : Nat :=
  let m := d.rd (DN_CFG_MODE p)
  let f := d.rd (DN_CFG_FREQ p)
  let slow := d.rd (DN_CFG_BG_FREQ p)
  if slow = f || f = 0 then d.burstOf p
  else
    let head := (((gcsOf p).map fun n => modeCca m (d.dnFour n)).foldl max 0 + d.rd (DN_CFG_DUMMY p)) * modeBits m
    min (d.burstOf p) (max 1 (((head + 8 * d.burstOf p) * slow / f - head) / 8))

/-- Longest transaction of priority 3 to 6 on a pair, of `most` bytes otherwise (R101, R105). -/
def bgLimit (d : Dev) (p most : Nat) : Nat := if d.bursts p then min most (d.slowBurst p) else most

/-- A background read: `need` bytes from an address in transactions of at most `lim` bytes, each resuming where the last one ended, with what
has come so far kept. An answer once all are there; a transaction that U_CS_N ended early is issued again later (R101), and `keep`
keeps its bytes (R165). -/
def gather (d : Dev) (n what addr need lim : Nat) (keep : Bool) (b : Bytes) : Option Bytes × Dev :=
  let g := d.gc n
  let mine := fun (x : Piece) => x.what = what && x.addr = addr
  let old := ((g.pieces.find? mine).map Piece.bytes).getD []
  let ask := min lim (need - old.length)
  let d1 := d.dnEmit n (d.rd (DN_CFG_READ_OPC (n / 2))) ((addr + old.length) % 2 ^ 32) []
  let got := old ++ b.take ask
  let rest := g.pieces.filter fun x => !mine x
  if b.length < ask ∧ !keep then (none, d1)
  else if need ≤ got.length then (some got, d1.setGc n { d1.gc n with pieces := rest })
  else (none, d1.setGc n { d1.gc n with pieces := ⟨what, addr, got⟩ :: rest })

/-- The flash is reset: by D_RST_N where it is connected, else by Reset Enable and Reset in every supported mode from 8D-8D-8D down (R104). -/
def resetFlash (d : Dev) (n : Nat) : Dev :=
  let x := d.pair (n / 2)
  if (if n % 2 = 0 then x.rstN0 else x.rstN1) then d.emit (.flashReset n true [])
  else d.emit (.flashReset n false (if d.legacy then [4, 3, 2, 1, 0] else [6, 5, 4, 3, 2, 1, 0]))

/-- A write of the device or a forwarded one begins: its Write Enable, then the command; the granules it covers are given up (R103, R172). -/
def beginWrite (d : Dev) (n : Nat) (erase own : Bool) (addr len : Nat) (b : Bytes) (rest : List WStep) : Dev :=
  let opc := if erase then d.dnErase n len else d.dnProgram n
  let d1 := ((d.dnEmit n 0x06 0 []).dnEmit n opc addr b).invalidate n addr len
  d1.setGc n { d1.gc n with op := some ⟨erase, d1.frame, own, rest⟩ }

/-- What ends the device's own writes early, noted for the thaw or the image write they belong to. -/
def writesEnd (d : Dev) (n : Nat) (fault : Option Status) (planned : Bool) : Dev :=
  let w : Writes := ⟨planned, fault⟩
  let g := d.gc n
  d.setGc n { g with op := none, thaw := g.thaw.map fun t => { t with writes := w }, write := g.write.map fun x => { x with writes := w } }

/-- Go on with a row of steps up to the next write, which begins: units are counted (R196), a program longer than a burst is cut (R101); at
its end, or where a golden granule has failed, no operation is left. -/
def runWrites (n : Nat) (own : Bool) : List WStep → Dev → Dev
  | [], d => d.setGc n { d.gc n with op := none }
  | .unit w :: r, d => runWrites n own r (d.inc (if w then COMP_THAW_UNITS_WRITTEN n else COMP_THAW_UNITS_SKIPPED n))
  | .bad :: _, d => d.writesEnd n (some .authFail) true
  | .erase a len :: r, d => d.beginWrite n true own a len [] r
  | .program a b :: r, d =>
    let lim := if own then d.bgLimit (n / 2) b.length else if d.bursts (n / 2) then d.burstOf (n / 2) else b.length
    let d1 := if own then d.move4 n (min lim b.length) else d
    if b.length ≤ lim then d1.beginWrite n false own a b.length b r
    else d1.beginWrite n false own a lim (b.take lim) (.program (a + lim) (b.drop lim) :: r)

/-- A program or erase in progress is given up with the use of its flash: WIP clears, and with `failed` its failure shows (log entries 90,
91). -/
def dropOp (d : Dev) (n : Nat) (failed : Bool) : Dev :=
  match (d.gc n).op with
  | none => d
  | some o =>
    let d1 := d.setGc n { d.gc n with op := none }
    if o.own then d1
    else
      let d2 := d1.clear (UP_STATE_WIP (n / 2) (n % 2))
      if failed then d2.raise (if o.erase then UP_STATE_ERASE_FAIL (n / 2) (n % 2) else UP_STATE_PROG_FAIL (n / 2) (n % 2)) else d2

end Dev

end Sys2Proof.Machine
end

