-- ==== Sys2Proof/Machine/Cells.lean ====
section
/-! DEFINITION. Cells: power domains (14_power_clock_thermal.md R432 to R434), starting, draining and resetting a cell or a
group (02_frames_cells_map.md R53 to R64, R468, R469), and the part of logic BIST that cell commands touch (12 R403 to R407). -/

namespace Sys2Proof.Machine

open Reg

/-- The switched power domains that serve a cell (Table 14-1), numbered in the order of the table: pair logic 0, pair PHY
48, clusters 96, Guard 102, granule banks 103, node banks 127, retention 135, lanes 136, Crypto 156, signature engine 157,
AES 158, relays 159, PCIe lanes 161, VAULT 162, Pilot cores 163. -/
def Cell.domains : Cell → List Nat
  | .pp n => [n.val] | .up n => [n.val] | .dn n => [n.val] | .fa n => [n.val] | .fb n => [n.val]
  | .upPhy n _ => [48 + n.val] | .dnPhy n => [48 + n.val] | .cl k => [96 + k.val] | .guard => [102]
  | .spBank b => [103 + b.val / 2] | .spNode b => if b.val = 0 then [127, 135] else [127 + b.val]
  | .lane j => [136 + j.val] | .crypto => [156] | .digest => [156] | .se => [157] | .aes => [158] | .relay r => [159 + r.val]
  | _ => []

/-- The cells that a domain serves. -/
def cellsOf (dom : Nat) : List Cell := Cell.all.filter fun c => c.domains.contains dom

/-- The group whose own logic a cell needs: the nearest ancestor that can be OFF (R63); the digest unit follows the Crypto
complex (R468). -/
def Cell.upper (c : Cell) : Option Cell := c.ancestors.find? Cell.capETable

/-- A cell is a group (R61). -/
def Cell.isGroup (c : Cell) : Bool := !c.children.isEmpty

/-- Slice cost of the firmware task in a cell's start sequence (R469). -/
def Cell.startCost : Cell → Option Nat
  | .dn _ => some 240
  | .se => some 300
  | _ => none

namespace Dev

/-- Load a cell state; changes are counted (R19, Table 12-4). -/
def setCst (d : Dev) (c : Cell) (s : CellState) : Dev :=
  if d.cst c = s then d else (d.wr (CELL_STATE c.offset) s.code).tally 316 1

/-- LAST_RESULT of a cell. -/
def result (d : Dev) (c : Cell) (s : Status) : Dev := d.wr (CELL_LAST_RESULT c.offset) s.code

/-- CAP_E of a cell in the profile in effect. -/
def canEnable (d : Dev) (c : Cell) : Bool := c.capE d.legacy

/-- The own logic of a group, or a leaf, is ACTIVE (R61). -/
def ownActive (d : Dev) (c : Cell) : Bool := d.cst c = .active || (d.cellx c).ownUp

/-! ## Power domains (R433, R434) -/

/-- A cell requires its domain (R433). -/
def requires (d : Dev) (c : Cell) : Bool := d.cst c ≠ .off || (c.capW && d.rd (CELL_PWR_MODE c.offset) = 1)

/-- DOMAIN_ON of the cells that a domain serves. -/
def showDomain (d : Dev) (dom : Nat) : Dev :=
  (cellsOf dom).foldl (fun d c =>
    if c.capW then d.wr (CELL_PWR_DOMAIN_ON c.offset) (flag (c.domains.all d.pwr.on.contains)) else d) d

/-- Ask for a domain: it waits for the power controller unless it is on (R434). -/
def askDomain (d : Dev) (dom : Nat) : Dev :=
  if d.pwr.on.contains dom || d.pwr.queue.contains dom then d
  else { d with pwr := { d.pwr with queue := d.pwr.queue ++ [dom] } }

/-- The controller closes a domain's switch; START_FRAMES of its STARTING cells counts from now (R434). -/
def closeDomain (d : Dev) (dom : Nat) : Dev :=
  let d1 := { d with pwr := { d.pwr with on := dom :: d.pwr.on, queue := d.pwr.queue.filter (· ≠ dom) } }.showDomain dom
  (cellsOf dom).foldl (fun d c =>
    if d.cst c = .starting then d.setCellx c { d.cellx c with since := d.frame } else d) d1

/-- A domain that no cell requires goes off (R433). -/
def releaseDomain (d : Dev) (dom : Nat) : Dev :=
  if (cellsOf dom).any d.requires then d
  else { d with pwr := { d.pwr with on := d.pwr.on.filter (· ≠ dom), queue := d.pwr.queue.filter (· ≠ dom) } }.showDomain dom

def askDomains (d : Dev) (c : Cell) : Dev := c.domains.foldl askDomain d
def releaseDomains (d : Dev) (c : Cell) : Dev := c.domains.foldl releaseDomain d

/-- Every domain of the cell is on. -/
def powered (d : Dev) (c : Cell) : Bool := c.domains.all d.pwr.on.contains

/-! ## C fields and results (Table 02-5, R13, R57) -/

/-- The field at a bit address belongs to the cell. -/
def ownedBy (c : Cell) (b : Nat) : Bool := ((cellAt (b / 8)).or (ownerAt (b / 8))) = some c

/-- Load the C fields of a cell (R13). -/
def loadC (d : Dev) (c : Cell) : Dev := d.resetWhere fun b => (kindsAt b).contains .c && ownedBy c b

/-- Load the C fields of a cell as a start sequence does (R57): all but LAST_RESULT, whose value after each command and transition Table
02-5 gives (log entry 23). -/
def loadBody (d : Dev) (c : Cell) : Dev :=
  d.resetWhere fun b => (kindsAt b).contains .c && b ≠ (CELL_LAST_RESULT c.offset).bit && ownedBy c b

/-- A start or drain that ends writes OK into a LAST_RESULT that still shows the command that began it (R53, R56, Table 02-5). -/
def settleResult (d : Dev) (c : Cell) : Dev :=
  let v := d.rd (CELL_LAST_RESULT c.offset)
  if v = Status.pending.code || v = Status.busyDraining.code then d.result c .ok else d

/-! ## Starting -/

/-- The digest unit follows the own logic of the Crypto complex through its states (R468). -/
def followCrypto (d : Dev) : Dev :=
  let s := if d.ownActive .crypto then .active else d.cst .crypto
  let was := d.cst .digest
  let d1 := d.setCst .digest s
  if s = .active && was ≠ .active then
    let d2 := (d1.setCellx .digest {}).settleResult .digest
    if was = .starting then d2.cellEvent .digest CELL_EVT_STARTED false .cellStarted 0 else d2
  else if s = .off && was = .draining then d1.cellEvent .digest CELL_EVT_STOPPED false .cellStopped 0
  else d1

/-- The start sequence begins, the own logic of its group first when that is OFF (R57, R63). -/
def beginStart : Nat → Dev → Cell → Dev
  | 0, d, _ => d
  | k + 1, d, c =>
    let d0 := (d.loadBody c).setCst c .starting
    let d1 := (if c = .crypto then d0.followCrypto else d0).askDomains c
    match c.upper with
    | none => d1.setCellx c { since := d.frame }
    | some p =>
      if d1.ownActive p then d1.setCellx c { since := d.frame }
      else
        let d2 := d1.setCellx c { since := d.frame, waitParent := true }
        if d2.cst p = .off then beginStart k d2 p else d2

def start (d : Dev) (c : Cell) : Dev := beginStart 6 d c

/-- Some group above the cell is DRAINING (R63). -/
def aboveDraining (d : Dev) (c : Cell) : Bool := c.ancestors.any fun p => d.cst p = .draining

/-- One ENABLE applied to one cell: its result (Table 02-5, R63). -/
def enableOne (d : Dev) (c : Cell) : Status × Dev :=
  match d.cst c with
  | .off =>
    if d.aboveDraining c then (.busyDraining, d.raise (CELL_PENDING_ENABLE c.offset))
    else
      let d1 := (d.clear (CELL_PENDING_ENABLE c.offset)).start c
      (.pending, d1.setCellx c { d1.cellx c with enabling := c.isGroup })
  | .starting => (.pending, d.setCellx c { d.cellx c with enabling := c.isGroup || (d.cellx c).enabling })
  | .active => (.ok, d)
  | .draining => (.busyDraining, d.raise (CELL_PENDING_ENABLE c.offset))

/-- The result of higher precedence: BUSY_DRAINING, then PENDING, then OK (R61). -/
def worse (a b : Status) : Status :=
  if a = .busyDraining ∨ b = .busyDraining then .busyDraining else if a = .pending ∨ b = .pending then .pending else .ok

/-- ENABLE applied to the descendants with CAP_E, in directory order, each with its own LAST_RESULT (R61). -/
def enableBelow (d : Dev) (c : Cell) : Status × Dev :=
  (c.descendants.filter d.canEnable).foldl (fun r x =>
    let e := r.2.enableOne x
    (worse r.1 e.1, e.2.result x e.1)) (.ok, d)

/-- A group whose own logic is up, whose wait has ended, becomes ACTIVE (R61). -/
def finishGroup (d : Dev) (c : Cell) : Dev :=
  if d.cst c = .starting && (d.cellx c).ownUp && (d.cellx c).waits = [] then
    (((d.setCst c .active).setCellx c {}).settleResult c).cellEvent c CELL_EVT_STARTED false .cellStarted 0
  else d

/-- A descendant is no longer waited for, and its groups, nearest first, may become ACTIVE; a group that does so is itself no longer
waited for by the groups above it (R61). -/
def noLongerWaited (d : Dev) (x : Cell) : Dev :=
  (x.ancestors.foldl (fun (r : List Cell × Dev) p =>
    let d1 := r.2.setCellx p { r.2.cellx p with waits := (r.2.cellx p).waits.filter fun y => !r.1.contains y }
    let d2 := d1.finishGroup p
    (if d1.cst p ≠ .active ∧ d2.cst p = .active then p :: r.1 else r.1, d2)) ([x], d)).2

/-- The own logic of a cell is up: it wakes the cells that wait for it, a group that was enabled enables its descendants,
and what has nothing to wait for becomes ACTIVE (R57, R61, R63). -/
def cellUp (d : Dev) (c : Cell) : Dev :=
  let x := d.cellx c
  let d1 := (d.setCellx c { x with ownUp := true }).endTask (.cell c)
  let d2 := c.descendants.foldl (fun d y =>
    if y.upper = some c && (d.cellx y).waitParent then d.setCellx y { d.cellx y with waitParent := false, since := d.frame } else d) d1
  let d3 := if x.enabling then (d2.enableBelow c).2 else d2
  let w := if x.enabling then (c.descendants.filter d3.canEnable).filter fun y => d3.cst y ≠ .active else []
  let d4 := d3.setCellx c { d3.cellx c with waits := w }
  let d5 := if c = .crypto then d4.followCrypto else d4
  let d6 := d5.finishGroup c
  if d6.cst c = .active then d6.noLongerWaited c else d6

/-! ## Going OFF -/

/-- Snowpack loses what `p` selects among frames and `q` among nodes: open entries of lost frames are discarded (R156). -/
def loseSnow (d : Dev) (p : Frame → Bool) (q : Node → Bool) : Dev :=
  let lost := d.snow.frames.filter p
  let d1 := lost.foldl (fun d f => d.discardPend f.gc fun e => e.granule = f.granule) d
  d1.setSnow { d1.snow with frames := d1.snow.frames.filter fun f => !p f, nodes := d1.snow.nodes.filter fun x => !q x }

/-- What a cell that goes OFF loses: a granule bank its frames, a node bank its nodes (R156). -/
def lostWith (d : Dev) (c : Cell) : Dev :=
  match c with
  | .spBank b => d.loseSnow (fun f => f.bank = b.val) fun _ => false
  | .spNode b => d.loseSnow (fun _ => false) fun x => x.bank = b.val
  | _ => d

/-- A PENDING_ENABLE of a cell that is OFF is taken, once no group above it drains (Table 02-5, R63). -/
def takePending (d : Dev) (c : Cell) : Dev :=
  if d.cst c = .off && d.on (CELL_PENDING_ENABLE c.offset) && !d.aboveDraining c then
    let d1 := (d.clear (CELL_PENDING_ENABLE c.offset)).start c
    d1.setCellx c { d1.cellx c with enabling := c.isGroup }
  else d

/-- Entry into OFF: the domain goes off, the cell drops out of its groups' waits unless it is to start again, and latched enables are
taken (Table 02-5, R61, R63). The task that a latched ENABLE has bound stays bound (R469). -/
def enterOff (d : Dev) (c : Cell) : Dev :=
  let again := d.on (CELL_PENDING_ENABLE c.offset)
  let d0 := (d.setCst c .off).setCellx c {}
  let d1 := ((if again then d0 else d0.endTask (.cell c)).lostWith c).releaseDomains c
  let d2 := if c = .crypto then d1.followCrypto else d1
  (c :: c.descendants).foldl takePending (if again then d2 else d2.noLongerWaited c)

/-- The cells that wait for the own logic of a group return to OFF (R63). -/
def dropWaiters : Nat → Dev → Cell → Dev
  | 0, d, _ => d
  | k + 1, d, c =>
    c.descendants.foldl (fun d y =>
      if y.upper = some c && (d.cellx y).waitParent then
        (dropWaiters k ((((d.setCst y .off).setCellx y {}).endTask (.cell y)).releaseDomains y) y).noLongerWaited y
      else d) d

/-! ## Logic BIST (12_supervision.md R403 to R407) -/

/-- Slice cost of a run (R38). -/
def bistCost (c : Cell) : Nat := if c.level = 5 then 80 else 40

/-- The registers that show the runs in progress (Tables 02-7 and 12-9). -/
def showBist (d : Dev) : Dev :=
  let r := fun i => (d.bist[i]?).map fun x => (x.cell.offset, x.frames)
  d.wr FS_LULL_LOAD ((d.bist.map fun x => bistCost x.cell).sum) |>.wr BIST_ACTIVE d.bist.length
    |>.wr (BIST_RUN_CELL 0) ((r 0).map Prod.fst |>.getD 0) |>.wr (BIST_RUN_FRAMES 0) ((r 0).map Prod.snd |>.getD 0)
    |>.wr (BIST_RUN_CELL 1) ((r 1).map Prod.fst |>.getD 0) |>.wr (BIST_RUN_FRAMES 1) ((r 1).map Prod.snd |>.getD 0)

/-- The run of a cell. -/
def bistOf (d : Dev) (c : Cell) : Option BistRun := d.bist.find? fun r => r.cell = c

/-- A run leaves the Lull: its cost is released and the latest result shown (R406); 1 PASS, 2 FAIL, 3 INCOMPLETE. -/
def bistEnds (d : Dev) (r : BistRun) (res : Nat) : Dev :=
  let d1 := { d with bist := d.bist.filter (· ≠ r) }.showBist
  let d2 := d1.wr BIST_LAST_CELL r.cell.offset |>.wr BIST_LAST_RESULT res |>.wr BIST_LAST_FRAMES r.frames
  let d3 := d2.inc (if res = 1 then BIST_PASS_CNT else if res = 2 then BIST_FAIL_CNT else BIST_INCOMPLETE_CNT)
  (d3.wr (CELL_BIST_RESULT r.cell.offset) res).cellEvent r.cell CELL_EVT_BIST_DONE false .cellBistDone res

/-- A run that ends INCOMPLETE posts BIST_INCOMPLETE once; bit 16 of its detail shows a Squall or bus error (R407). -/
def bistIncomplete (d : Dev) (r : BistRun) (squall : Bool) : Dev :=
  (d.bistEnds r 3).post .bistIncomplete (.cell r.cell) (r.frames + 2 ^ 16 * flag squall)

/-- DISABLE or RESET of a cell aborts the runs of the cell and of the cells below it (R407). -/
def bistAbortUnder (d : Dev) (c : Cell) : Dev :=
  (d.bist.filter fun r => r.cell = c || r.cell.ancestors.contains c).foldl (fun d r => d.bistIncomplete r false) d

/-! ## Draining -/

/-- A cell begins to drain (Table 02-5). -/
def beginDrain (d : Dev) (c : Cell) : Dev :=
  let d1 := (d.setCst c .draining).setCellx c { since := d.frame }
  if c = .crypto then d1.followCrypto else d1

/-- A latched ENABLE is cancelled, with the task bound for it (R60, R469). -/
def cancelPending (d : Dev) (c : Cell) : Dev :=
  if d.on (CELL_PENDING_ENABLE c.offset) then (d.clear (CELL_PENDING_ENABLE c.offset)).endTask (.cell c) else d

/-- One DISABLE applied to one cell: its result (Table 02-5, R60). -/
def disableOne (d : Dev) (c : Cell) : Status × Dev :=
  match d.cst c with
  | .off => (.ok, d.cancelPending c)
  | .starting => (.pending, ((d.dropWaiters 6 c).beginDrain c).endTask (.cell c))
  | .active => (.pending, d.beginDrain c)
  | .draining => (.ok, d.cancelPending c)

/-- DISABLE applied to the descendants with CAP_E in reverse directory order, then to the cell (R62). -/
def disableTree (d : Dev) (c : Cell) : Dev :=
  let r := ((c.descendants.filter d.canEnable).reverse ++ [c]).foldl (fun r x =>
    let e := r.2.disableOne x
    (worse r.1 e.1, e.2.result x e.1)) (.ok, d.bistAbortUnder c)
  r.2.result c r.1

/-- Every descendant that can be OFF is OFF, so a group's own logic may drain (R62). -/
def belowOff (d : Dev) (c : Cell) : Bool := (c.descendants.filter d.canEnable).all fun x => d.cst x = .off

/-! ## Refusals (R54, R55) -/

/-- Components on a pair in a state other than HELD or QUARANTINED. -/
def busyPair (d : Dev) (p : Nat) : Bool := (gcsOf p).any fun n => d.state n ≠ .held && d.state n ≠ .quarantined

/-- Some component is in a state other than HELD or QUARANTINED. -/
def anyBusy (d : Dev) : Bool := allGcs.any fun n => d.state n ≠ .held && d.state n ≠ .quarantined

/-- DISABLE or RESET is refused with COMPONENT_RELEASED (R55). -/
def guardedNow (d : Dev) (c : Cell) : Bool :=
  c ≠ .device &&
    ((match c with
      | .crypto => d.anyBusy
      | .digest => d.anyBusy
      | .lane j => decide (j.val < 16) && d.anyBusy
      | .sp => d.anyBusy
      | .spBank _ => d.anyBusy
      | .spNode _ => d.anyBusy
      | _ => false)
    || (c :: c.descendants).any fun x => match x with
        | .pp n => d.busyPair n
        | .sp => d.anyBusy
        | _ => false
    || (match c.pair? with
        | some n => d.busyPair n
        | none => false))

/-- The firmware tasks that an ENABLE of a cell would start (R469). -/
def startTasks (d : Dev) (c : Cell) : List (Cell × Nat) :=
  (c :: c.descendants).filterMap fun x => match x.startCost with
    | some n => if d.canEnable x && (d.cst x = .off || d.cst x = .draining) && !d.bound (.cell x) then some (x, n) else none
    | none => none

/-- Submit every task, or none (R469). -/
def submitAll (d : Dev) (ts : List (Cell × Nat)) : Option Dev :=
  ts.foldl (fun r t => match r with
    | none => none
    | some d => let x := d.submit (.cell t.1) t.2 (Config.startTotal t.1.offset); if x.1 then some x.2 else none) (some d)

/-- ENABLE of a cell or group (R53, R54, R55, R61, R469): its result and the state after it. A driver's ENABLE of a port pair that the policy in
force does not name, or of a group above it, is taken like any other (DESIGN CHOICE, log entry 78: R27 keeps such a pair OFF, and Table
02-5, R55 and R61 give no refusal). -/
def enable (d : Dev) (c : Cell) : Status × Dev :=
  if !d.canEnable c then (.notSupported, d.result c .notSupported)
  else match d.submitAll (d.startTasks c) with
    | none => (.frameBudget, (d.tally 263 1).result c .frameBudget)
    | some d1 =>
      let e := d1.enableOne c
      let r := if e.1 = .ok && c.isGroup then e.2.enableBelow c else e
      let s := worse e.1 r.1
      (s, r.2.result c s)

/-- DISABLE of a cell or group (R53 to R55, R60, R62). -/
def disable (d : Dev) (c : Cell) : Dev :=
  if !d.canEnable c then d.result c .notSupported
  else if d.guardedNow c then d.result c .componentReleased
  else d.disableTree c

/-! ## Requesting a BIST run (R403, R404) -/

/-- Condition of Table 12-5 on named components: QUARANTINED, or HELD with HOLD_CMD, with WIP 0. -/
def bistComps (d : Dev) (ns : List Nat) : Option Status :=
  if ns.any fun n => d.state n = .released then some .componentReleased
  else if ns.any fun n => !(d.state n = .quarantined || (d.state n = .held && d.held n .holdCmd))
      || d.on (UP_STATE_WIP (n / 2) (n % 2)) then some .componentState
  else none

/-- Verification work of the Guard complex that runs or is open (Table 12-5). -/
def laneWork (d : Dev) : Bool :=
  !d.snow.pend.isEmpty || (d.snow.frames.any fun f => f.state = .refetch)
    || allGcs.any fun n =>
      let g := d.gc n
      g.stream.isSome || g.thaw.isSome || g.write.isSome || g.audit || (d.comp n).refill
        || (g.staged.isSome && d.named n) || (d.on (COMP_STATUS_READY n) && !d.pinsComplete n)

/-- Refusal of a run by Table 12-5. -/
def bistRefusal (d : Dev) (c : Cell) : Option Status :=
  match c with
  | .pp n => d.bistComps ((gcsOf n).filter d.named)
  | .guard => d.bistComps (allGcs.filter d.named)
  | .sp => d.bistComps (allGcs.filter d.named)
  | .crypto | .digest | .ks =>
    if allGcs.any fun n => d.state n = .released then some .componentReleased
    else if d.anyBusy || d.laneWork then some .componentState else none
  | .relay _ =>
    match FrontState.ofCode (d.rd FRONT_STATE) with
    | .receiving | .armed | .committed | .landed => some .updateBusy
    | _ => none
  | _ => none

/-- Operations that a run on an engine of the Crypto complex waits for (Table 12-5). -/
def engineBusy (d : Dev) (c : Cell) : Bool :=
  d.ops.any fun o => o.status.isNone && match c with
    | .se => decide (o.opcode = 0x0128 ∨ o.opcode = 0x0129)
    | .aes => decide (o.opcode = 0x0120 ∨ o.opcode = 0x0121)
    | .rng => decide (o.opcode = 0x0130)
    | _ => false

/-- A write of CELL_BIST.RUN (R38, R403, R404). -/
def bistRun (d : Dev) (c : Cell) : Dev :=
  if !c.capB then (d.wr (CELL_BIST_RESULT c.offset) 4).result c .notSupported
  else if (d.bistOf c).isSome then d
  else if 80 < ((d.bist.map fun x => bistCost x.cell).sum + bistCost c) then
    ((d.wr (CELL_BIST_RESULT c.offset) 4).result c .frameBudget).tally 263 1
  else match d.bistRefusal c with
    | some s => (d.wr (CELL_BIST_RESULT c.offset) 4).result c s
    | none => { d with bist := d.bist ++ [({ cell := c, frames := 0, waiting := d.engineBusy c } : BistRun)] }.showBist

/-- Verification and releases wait while one of these cells is tested (Table 12-5). -/
def verifyPaused (d : Dev) : Bool := d.bist.any fun r => r.cell = .crypto || r.cell = .digest || r.cell = .ks

/-! ## Accesses to a cell that is not ACTIVE (R65, R405) -/

/-- The cell of a register beyond its header, when accesses to it are off: not ACTIVE, or under test. -/
def offCell (d : Dev) (a : Nat) : Option Cell :=
  if (cellAt a).isSome then none
  else match ownerAt a with
    | some c => if d.cst c ≠ .active || (d.bistOf c).isSome then some c else none
    | none => none

/-- OFF_ACCESS sets in the cell (R65). -/
def offAccess (d : Dev) (c : Cell) : Dev := d.cellEvent c CELL_EVT_OFF_ACCESS false .cellOffAccess 0

end Dev

/-- A command of a driver to a port-pair cell, or to a cell inside one, ends with NOT_OWNER off the ports (R413). -/
def Dev.refusedPort (d : Dev) (c : Cell) : Bool := c.pair?.isSome && !d.ownsPorts

/-- So does one to a group with port pairs below it, on which it would act too (DEDUCED, log entry 25). -/
def Dev.refusedTree (d : Dev) (c : Cell) : Bool :=
  d.refusedPort c || (match c with
    | .guard => !d.ownsPorts
    | .cl _ => !d.ownsPorts
    | _ => false)

namespace Dev

/-- ENABLE as CELL_CTL takes it; the firmware submits a refused ENABLE again (R413, R469). -/
def enableCommand (d : Dev) (c : Cell) (firmware : Bool) : Dev :=
  if !d.conditions then d
  else if !firmware && d.refusedTree c then d.result c .notOwner
  else
    let r := d.enable c
    if firmware && r.1 = .frameBudget then { r.2 with resubmit := r.2.resubmit.filter (· ≠ c) ++ [c] } else r.2

/-- DISABLE as CELL_CTL takes it (R413). -/
def disableCommand (d : Dev) (c : Cell) : Dev :=
  if !d.conditions then d else if d.refusedTree c then d.result c .notOwner else d.disable c

/-- CMD 4 to 7 (R52). -/
def unknownCommand (d : Dev) (c : Cell) : Dev := if d.conditions then d.result c .notSupported else d

end Dev

/-! ## Meanings -/

/-- ENABLE written to CELL_CTL, by a driver or by the firmware, which submits a refused ENABLE again (R53 to R55, R469). -/
def execEnable (c : Cell) (firmware : Bool) (s : State) : Result := act s fun d => d.enableCommand c firmware

/-- DISABLE written to CELL_CTL (R53 to R55, R60, R62). -/
def execDisable (c : Cell) (s : State) : Result := act s fun d => d.disableCommand c

/-- CELL_CTL.CMD 4 to 7 is refused with NOT_SUPPORTED (R52). -/
def execCellCmdUnsupported (c : Cell) (s : State) : Result :=
  act s fun d => d.unknownCommand c

/-- The power controller closes the switch at the front of its queue, at most four a frame (R434). -/
def execDomainSwitchClose (s : State) : Result :=
  act s fun d =>
    match d.pwr.queue with
    | dom :: _ =>
      if d.pwr.closed < 4 then
        let d1 := d.closeDomain dom
        { d1 with pwr := { d1.pwr with closed := d1.pwr.closed + 1 } }
      else d
    | [] => d

/-- A domain that is not good within START_FRAMES returns the cell to OFF with FAULT (R58, R63). -/
def execStartFail (c : Cell) (s : State) : Result :=
  act s fun d =>
    let x := d.cellx c
    if d.cst c = .starting && c.capW && !x.waitParent && !x.ownUp && d.powered c
        && decide (x.since + (Config.startFrames c.offset).toNat ≤ d.frame) then
      let d1 := (((d.raise (CELL_FAULT c.offset)).cellEvent c CELL_EVT_START_FAIL true .cellStartFail 0).post .cellStartFail (.cell c) 0)
      (d1.dropWaiters 6 c).enterOff c
    else d

/-- A run that reaches its BUDGET is aborted (R406). -/
def execBistBudgetExpiry (c : Cell) (s : State) : Result :=
  act s fun d =>
    match d.bistOf c with
    | some r => if d.rd (CELL_BIST_BUDGET c.offset) ≤ r.frames then d.bistIncomplete r false else d
    | none => d

/-- A firmware task is submitted: bound to the lowest-numbered core with room from the next frame to its last, or refused at once (R37, R39,
R40). -/
def execPilotTaskSubmit (id cost total : Nat) (s : State) : Result :=
  act s fun d => if d.up then (d.submit (.work id) cost total).2 else d

/-- An access beyond the header of a cell that is not ACTIVE: a read returns zero, a write is discarded (R65). -/
def execOffAccess (port : Port) (a size : Nat) (write : Bool) (s : State) : Result :=
  act s fun d =>
    match d.offCell a with
    | some c => let d1 := d.offAccess c; if write then d1 else d1.emit (.regData port size 0)
    | none => d

end Sys2Proof.Machine
end

