-- ==== Sys2Proof/Machine/Keeper.lean ====
section
/-! DEFINITION. The Keeper complex: the windowed watchdog (12_supervision.md R380 to R387), the Barograph queue and records
(R388 to R396), and the event counters (R399 to R402). -/

namespace Sys2Proof.Machine

open Reg

namespace Dev

/-! ## The watchdog -/

/-- Lowest task of a set of bits, 0 when there is none. -/
def lowestBit (v : Nat) : Nat := (lowest 32 fun i => bit v i).getD 0

/-- An earlier expiry counts for escalation: not empty, and at or after frame E - 5,000,000 (R385). -/
def counts (d : Dev) (h : Nat) : Bool :=
  h ≠ 0xFFFFFFFF && decide ((d.frame + 2 ^ 32 - h) % 2 ^ 32 ≤ 5000000)

/-- An expiry (R384, R385): TRAP, the failure recorded, the history shifted, and the hard timer started. -/
def wdtExpire (d : Dev) (cause task : Nat) : Dev :=
  let h := d.rd WDT_HISTORY
  let esc := d.counts (h % 2 ^ 32) && d.counts (h / 2 ^ 32)
  let e := if lo32 d.frame = 0xFFFFFFFF then 0xFFFFFFFE else lo32 d.frame
  let d1 := d.wr WDT_STATE 2 |>.wr WDT_LAST_FAIL_CAUSE cause |>.wr WDT_LAST_FAIL_TASK task
    |>.wr WDT_LAST_FAIL_FRAME (lo32 d.frame) |>.inc WDT_EXPIRY_CNT |>.wr WDT_HISTORY (e + 2 ^ 32 * (h % 2 ^ 32))
  let d2 := { d1 with wdt := { d1.wdt with armedTo := none, trapEnd := some (d1.frame + d1.rd WDT_HARD_FRAMES, esc) } }
  let d3 := d2.post .wdtExpiry (.cell .wdt) (cause + 256 * task)
  if esc then (d3.inc WDT_ESCALATE_CNT).post .wdtEscalate (.cell .wdt) 3 else d3

/-- Armed in the present frame (R382). -/
def wdtArmed (d : Dev) : Bool := match d.wdt.armedTo with
  | some f => decide (d.frame ≤ f)
  | none => false

/-- WDT.STATE is TRAP: services and check-ins are ignored (R384). -/
def wdtTrap (d : Dev) : Bool := d.rd WDT_STATE = 2

/-- A write to WDT.SERVICE that is neither key, or a key out of turn, fails with KEY_SEQ (R382). -/
def wdtKeySeq (d : Dev) : Dev := d.wdtExpire 5 0

/-- 0x4D3C written to WDT.SERVICE (R382). -/
def wdtArm (d : Dev) : Dev :=
  if d.wdtTrap then d
  else if d.wdtArmed then d.wdtKeySeq
  else { d with wdt := { d.wdt with armedTo := some (d.frame + 1) } }

/-- A service that counts starts the next period under the values written (R381, R383, R386). -/
def wdtCounts (d : Dev) : Dev :=
  let w := { d.wdt with
    armedTo := none, opens := d.rd WDT_WD_OPEN, closes := d.rd WDT_WD_CLOSE,
    enrolled := d.rd WDT_ENROLLED, mode := d.rd WDT_MODE, start := d.frame }
  (({ d with wdt := w }.wr WDT_STATE 1).wr WDT_PERIOD_START (lo32 d.frame)).clear WDT_CHECKED |>.tally 305 1

/-- 0xB2C3 written to WDT.SERVICE, judged against the window and the check-ins (R381, R382). -/
def wdtService (d : Dev) : Dev :=
  let k := d.frame - d.wdt.start
  let missing := d.wdt.enrolled &&& (d.rd WDT_CHECKED ^^^ (2 ^ 32 - 1))
  if d.wdtTrap then d
  else if d.wdt.closes ≤ k then d.wdtExpire 1 0
  else if !d.wdtArmed then d.wdtKeySeq
  else if k < d.wdt.opens then d.wdtExpire 2 0
  else if missing ≠ 0 then d.wdtExpire 3 (lowestBit missing)
  else d.wdtCounts

/-- A task number written to WDT.CHECKIN (R383). -/
def wdtCheckin (d : Dev) (t : Nat) : Dev :=
  if d.wdtTrap || !bit d.wdt.enrolled t then d
  else if bit (d.rd WDT_CHECKED) t && bit d.wdt.mode t then d.wdtExpire 4 t
  else (d.setBit WDT_CHECKED t true).tally 306 1

/-- The window closes without a service that counted (R381). -/
def wdtWindowClose (d : Dev) : Dev :=
  if !d.wdtTrap && decide (d.wdt.start + d.wdt.closes ≤ d.frame) then d.wdtExpire 1 0 else d

/-- The watchdog starts in BOOT at a handover to the firmware (R386). -/
def wdtBoot (d : Dev) : Dev :=
  ({ d with wdt := { opens := 0, closes := d.rd WDT_BOOT_CLOSE, start := d.frame } }.wr WDT_STATE 0).wr WDT_PERIOD_START
    (lo32 d.frame)

/-! ## Event counters -/

/-- Selection of a counter in force: SOURCE and ENABLE (R400). -/
def cntSel (d : Dev) (i : Nat) : Nat := SMap.get (fun _ => 0) d.cnt.selected i

/-- The occurrences of a source since the last slot 25. -/
def occurrences (d : Dev) (source : Nat) : Nat := SMap.get (fun _ => 0) d.cnt.tally source

/-- One counter adds the occurrences of its source; it wraps and sets its overflow bit (R399, R400). -/
def cntAdd (d : Dev) (i : Nat) : Dev :=
  let s := d.cntSel i
  let n := d.rd (CNT i) + d.occurrences (s % 512)
  if !bit s 15 then d
  else if 2 ^ 48 ≤ n then (d.wr (CNT i) n).setBit CNT_OVF i true
  else d.wr (CNT i) n

/-- A counter's selection in the layout of CNT_SEL[15:0]; a SOURCE of 320 or more leaves it unchanged (R399). -/
def cntSelect (d : Dev) (i v : Nat) : Dev :=
  if v % 512 < 320 then (d.wr (CNT_SEL_SOURCE i) (v % 512)).wr (CNT_SEL_ENABLE i) (v / 2 ^ 15) else d

/-- The slot-25 update: every enabled counter adds, then new selections and clears take effect together (R400, R402). Nothing is counted while
the counters are OFF or under test (R65, Table 12-5). -/
def cntUpdate (d : Dev) : Dev :=
  if d.cst .cnt ≠ .active || d.bist.any fun r => r.cell = .cnt then { d with cnt := { d.cnt with tally := [] } }
  else
    let d1 := (List.range 64).foldl cntAdd d
    let d2 := d1.cnt.load.foldl (fun d e => d.cntSelect e.1 e.2) d1
    let d3 := (List.range 64).foldl (fun d i => if bit d.cnt.clear i then d.wr (CNT i) 0 else d) d2
    let sel := (List.range 64).foldl (fun m i =>
      SMap.set (fun _ => 0) m i (d3.rd (CNT_SEL_SOURCE i) + 2 ^ 15 * d3.rd (CNT_SEL_ENABLE i))) []
    { d3 with cnt := { d3.cnt with tally := [], load := [], clear := 0, selected := sel } }

/-- A pending snapshot is due (R401); one that falls due during a BIST run of the counters waits (Table 12-5). -/
def snapshotDue (d : Dev) : Bool :=
  d.on CNT_SNAP_CTL_PENDING && decide (d.rd CNT_SNAP_TARGET ≤ d.frame) && d.cst .cnt = .active && !d.bist.any fun r => r.cell = .cnt

/-- All counters are copied together (R401). -/
def takeSnapshot (d : Dev) : Dev :=
  let d1 := (List.range 64).foldl (fun d i => d.wr (SNAP i) (d.rd (CNT i))) d
  let d2 := d1.wr CNT_SNAP_FRAME d1.frame |>.clear CNT_SNAP_CTL_PENDING |>.raise CNT_SNAP_CTL_DONE
  match d2.cnt.snapshot with
  | some r => { d2 with cnt := { d2.cnt with snapshot := none } }.answerOp r
      { status := some .ok, result0 := d2.frame }
  | none => d2

end Dev

/-! ## Barograph records -/

/-- HOME offset of Barograph record i (R392). -/
def baroAddr (i : Nat) : Nat := 0x1210000 + 64 * i

/-- The 64 bytes of a record (R388, Table 12-2). -/
def BaroRec.encode (r : BaroRec) : Bytes :=
  let b := leBytes 2 r.code ++ leBytes 1 r.flags ++ leBytes 1 1 ++ leBytes 4 r.source
    ++ leBytes 8 (r.hours + 2 ^ 24 * r.seconds) ++ leBytes 4 r.cycles ++ leBytes 4 r.frame ++ leBytes 4 r.seq
    ++ leBytes 4 r.detail0 ++ slice r.detail1 0 24 ++ leBytes 4 0
  b ++ leBytes 4 (crc32 b)

/-! ## HOME flash (10_own_firmware_update.md R313, R314) -/

namespace State

/-- Bytes of HOME; a byte that nothing has programmed reads 0xFF (log entry 5). -/
def homeRead (s : State) (a n : Nat) : Bytes := (List.range n).map fun i => SMap.get (fun _ => (0xFF : Byte)) s.home (a + i)

/-- Program bytes: bits fall and never rise. -/
def homeProgram (s : State) : Nat → Bytes → State
  | _, [] => s
  | a, b :: r =>
    homeProgram { s with home := SMap.set (fun _ => (0xFF : Byte)) s.home a (SMap.get (fun _ => (0xFF : Byte)) s.home a &&& b) } (a + 1) r

/-- Erase [a, a + n). -/
def homeErase (s : State) (a n : Nat) : State :=
  { s with home := s.home.filter fun e => !(decide (a ≤ e.1 ∧ e.1 < a + n)) }

/-- Erase a range and program bytes at its start; pages and erases are counted (Table 12-4). -/
def homeStore (s : State) (a n : Nat) (b : Bytes) : State :=
  let t := (s.homeErase a n).homeProgram a b
  { t with dev := (t.dev.tally 317 ((b.length + 255) / 256)).tally 318 ((n + 0xFFFF) / 0x10000) }

/-- A program of HOME whose read-back `good` judges (R314): one that fails leaves what the cells took (a free value). -/
def homeWrite (s : State) (good : Bool) (a n : Nat) (b : Bytes) : State :=
  if good then s.homeStore a n b
  else
    let x := s.dev.drawBytes b.length
    { s with dev := x.2 }.homeStore a n x.1

/-- A change of the device alone. -/
def onDev (s : State) (f : Dev → Dev) : State := { s with dev := f s.dev }

/-- The firmware writes the record at the front of the queue; `good` says that its read-back agrees. One that does not is
left corrupt, with what the program left in the cells (R391 to R393). -/
def baroWrite (s : State) (good : Bool) : State :=
  match s.dev.baro.queue with
  | [] => s
  | r :: q =>
    let wp := s.dev.rd BARO_STATUS_WRITE_POINT
    let d1 := { s.dev with baro := { s.dev.baro with queue := q } }.wr BARO_QUEUE q.length |>.wr BARO_SEQ r.seq
      |>.wr BARO_STATUS_WRITE_POINT (wp + 1) |>.tally 317 1
    let d2 := if wp + 1 = 16384 then d1.raise BARO_STATUS_FULL else d1
    if good then { s with dev := d2 }.homeProgram (baroAddr wp) r.encode
    else
      let x := (d2.inc BARO_CORRUPT).drawBytes 64
      { s with dev := x.2 }.homeProgram (baroAddr wp) x.1

end State

/-! ## Meanings -/

/-- 0x4D3C written to WDT.SERVICE by the firmware (R382). -/
def execWdtArm (s : State) : Result := act s fun d => if d.up then d.wdtArm else d

/-- 0xB2C3 written to WDT.SERVICE by the firmware (R381, R382). -/
def execWdtService (s : State) : Result := act s fun d => if d.up then d.wdtService else d

/-- A task number written to WDT.CHECKIN by the firmware (R383). -/
def execWdtCheckin (t : Fin 32) (s : State) : Result := act s fun d => if d.up then d.wdtCheckin t else d

/-- The slot-0 evaluation at the edge of the window (R381). -/
def execWdtWindowClose (s : State) : Result := act s fun d => if d.awake then d.wdtWindowClose else d

/-- The firmware writes a queued Barograph record to HOME (R391 to R393). -/
def execBarographWrite (good : Bool) (s : State) : Result :=
  .next (if (s.dev.up || s.dev.phase = .shutdown) && !s.dev.on BARO_STATUS_FULL && !s.dev.on BARO_STATUS_CLEARING then s.baroWrite good else s)

/-- BARO_READ returns stored records, as stored (R396). -/
def execBaroRead (x : Desc) (s : State) : Result :=
  let first : Nat := (x.par 0 16).toNat
  let count : Nat := (x.par 2 16).toNat
  act s fun d => d.command x 0x0700 (decide (first < 16384 ∧ 1 ≤ count ∧ count ≤ 1024)) fun d =>
    let wp := d.rd BARO_STATUS_WRITE_POINT
    let n := min (first + count) wp - first
    if x.src ≠ [] ∨ x.dstLen < 64 * count then (ans .lengthMismatch, d)
    else ({ status := some .ok, result0 := n, result1 := wp, dst := s.homeRead (baroAddr first) (64 * n) }, d)

/-- CNT_CONFIG: selections and clears for the next slot-25 update (R402). -/
def execCntConfig (x : Desc) (s : State) : Result :=
  let clearMask : BitVec 64 := x.par 0 64
  let loadSel : Bool := x.raw.getLsbD 320
  act s fun d => d.command x 0x0702 true fun d =>
    if x.src.length ≠ (if loadSel then 128 else 0) then (ans .lengthMismatch, d)
    else
      let l := if loadSel then (List.range 64).map fun i => (i, leAt x.src (2 * i) 2) else d.cnt.load
      (ans .ok, { d with cnt := { d.cnt with load := l, clear := d.cnt.clear ||| clearMask.toNat } })

/-- CNT_SNAPSHOT schedules a snapshot and completes when it is taken; it replaces one still pending (R401). -/
def execCntSnapshot (x : Desc) (s : State) : Result :=
  let target : BitVec 64 := x.par 0 64
  act s fun d => d.command x 0x0703 true fun d =>
    let t := if target.toNat = 0 then d.frame + 1 else target.toNat
    if t < d.frame then (ans .descInvalid, d)
    else
      let d1 := match d.cnt.snapshot with
        | some r => d.answerOp r { status := some .ok }
        | none => d
      let d2 := d1.wr CNT_SNAP_TARGET t |>.raise CNT_SNAP_CTL_PENDING
      ({ status := none }, { d2 with cnt := { d2.cnt with snapshot := some x.ref } })

/-- In slot 25 of frame TARGET all counters are copied to SNAP (R401). -/
def execSnapshotTake (s : State) : Result := act s fun d => if d.snapshotDue then d.takeSnapshot else d

end Sys2Proof.Machine
end

