-- ==== Sys2Proof/Machine/Flags.lean ====
section
/-! DEFINITION. The flags that the block keeps or computes: the emulated flash status registers (03_port_pairs.md R84, R85),
and the summary bits of a cell header (02_frames_cells_map.md R52). -/

namespace Sys2Proof.Machine

open Reg

namespace Dev

/-- Read Status Register: WIP, WEL, and the write-protect view in bits 7 to 2 (Table 03-2). -/
def statusByte (d : Dev) (p c : Nat) : Byte :=
  BitVec.ofNat 8 (d.rd (UP_STATE_WIP p c) + 2 * d.rd (UP_STATE_WEL p c) + 4 * d.rd (WB_CS_WP_VIEW p c))

/-- Read Flag Status Register: READY, ERASE_FAIL, PROG_FAIL and PROT (Table 03-2). -/
def flagByte (d : Dev) (p c : Nat) : Byte :=
  BitVec.ofNat 8 (128 * (1 - d.rd (UP_STATE_WIP p c)) + 32 * d.rd (UP_STATE_ERASE_FAIL p c)
    + 16 * d.rd (UP_STATE_PROG_FAIL p c) + 2 * d.rd (UP_STATE_PROT p c))

/-- ANY_STARTING, ANY_DRAINING and ANY_PENDING in bits 4 to 6 of CELL_STATE; they read 0 in a leaf (Table 02-4). -/
def anyBits (d : Dev) (c : Cell) : Nat :=
  16 * flag (c.descendants.any fun x => d.cst x = .starting) + 32 * flag (c.descendants.any fun x => d.cst x = .draining)
    + 64 * flag (c.descendants.any fun x => d.on (CELL_PENDING_ENABLE x.offset))

/-- CELL_ID (Table 02-4). -/
def cellId (d : Dev) (c : Cell) : Nat :=
  c.level + 2 ^ 8 * c.kind + 2 ^ 16 * c.inst + 2 ^ 32 * flag (d.canEnable c) + 2 ^ 33 * flag c.capR + 2 ^ 34 * flag c.capW
    + 2 ^ 35 * flag c.capB

end Dev

end Sys2Proof.Machine
end

