-- ==== Sys2Proof/Machine/Upstream.lean ====
section
/-! DEFINITION. The upstream target: every command that a component can send on its port (03_port_pairs.md R71 to R98,
04_windbreak_policy.md R125 to R135, R141, R142; 05_verified_fetch.md R152 to R155, R163, R164, R167). -/

namespace Sys2Proof.Machine

open Reg

/-- Restrictiveness of a decision, the more restrictive lower (R141). -/
def Decision.rank : Decision → Nat
  | .block => 0 | .fill => 1 | .emulate => 2 | .forward => 3

/-- Code of a decision in LAST_DIS (Table 04-11). -/
def Decision.code : Decision → Nat
  | .forward => 0 | .emulate => 1 | .fill => 2 | .block => 3

/-- The more restrictive of two decisions. -/
def Decision.strict (a b : Decision) : Decision := if a.rank ≤ b.rank then a else b

namespace Dev

/-! ## Shared parts of a transaction -/

/-- An unsupported command is ignored and counted (R82). -/
def unsup (d : Dev) (n : Nat) : Dev := (d.raise (PP_EVT_UNSUP_CMD (n / 2))).inc (UNSUP_CNT (n / 2) (n % 2))

/-- The extension byte of an octal command matches (R78). -/
def extOk (d : Dev) (n : Nat) (opc : Byte) (ext : Byte) : Bool :=
  if d.on (UP_CFG_CMD_EXT (n / 2) (n % 2)) then ext = opc else ext = ~~~opc

/-- Current upstream mode (R111). -/
def upMode (d : Dev) (n : Nat) : Nat := d.rd (UP_STATE_MODE (n / 2) (n % 2))

/-- The port is in START_MODE, and a mode switch is needed (R77). -/
def switchArmed (d : Dev) (n : Nat) : Bool :=
  d.rd (UP_CFG_START_MODE (n / 2) (n % 2)) ≠ d.rd (UP_CFG_RUN_MODE (n / 2) (n % 2))
    && d.upMode n = d.rd (UP_CFG_START_MODE (n / 2) (n % 2))

/-- MODE_SW_OPC in START_MODE (R77): after Write Enable, address 0 and the data byte switch the mode; any other clears WEL. -/
def modeSwitch (d : Dev) (n : Nat) (addr : Nat) (data : Bytes) : Dev :=
  let p := n / 2
  let c := n % 2
  let d1 := d.clear (UP_STATE_WEL p c)
  if d.on (UP_STATE_WEL p c) && addr = 0 && data = [BitVec.ofNat 8 (d.rd (UP_CFG_MODE_SW_DATA p c))] then
    d1.wr (UP_STATE_MODE p c) (d.rd (UP_CFG_RUN_MODE p c))
  else d1

/-- What every transaction that starts with an opcode shares: the port responds only while RELEASE is high (R76) and
continuous read is not armed (R81); it is counted, ends a background read (R101), and is refused by R78 or R82 where they
apply; in START_MODE the mode-switch opcode comes first (R128). -/
def upCommand (d : Dev) (t : UpTx) (opc : Nat) (modes : List Nat) (addr : Nat) (data : Bytes) (body : Dev → Dev) : Dev :=
  let n := t.gc.val
  let p := n / 2
  if !d.awake || !d.ownsPorts || !d.on (COMP_STATUS_RELEASE n) || d.on (UP_STATE_CONT p (n % 2)) then d
  else
    let d1 := d.tally p 1
    let d2 := if t.bgBusy && !d.bothCs p then d1.inc (BURST_ABORT_CNT p) else d1
    let bad := decide (5 ≤ d.upMode n) && !d.extOk n (BitVec.ofNat 8 opc) t.ext
    let d3 := if bad then d2.unsup n
      else if d.switchArmed n && opc = d.rd (UP_CFG_MODE_SW_OPC p (n % 2)) then d2.modeSwitch n addr data
      else if !modes.contains (d.upMode n) then d2.unsup n
      else body d2
    d3.setGc n { d3.gc n with lastOpc := if bad then 0 else opc }

/-- Two engines' decisions compared (R141): the one that applies, and the disagreement recorded. -/
def judge (d : Dev) (t : UpTx) (opc addr : Nat) (a : Decision) : Decision × Dev :=
  let n := t.gc.val
  let p := n / 2
  match t.decB with
  | none => (a, d)
  | some b =>
    if !d.on (WB_CTL_PAIRED p) || a = b then (a, d)
    else
      let d1 := (d.inc (DIS_CNT p (n % 2))).wr (LAST_DIS_OPC p) opc |>.wr (LAST_DIS_CS p) (n % 2)
        |>.wr (LAST_DIS_DEC_A p) a.code |>.wr (LAST_DIS_DEC_B p) b.code |>.wr (LAST_DIS_ADDR p) addr
        |>.raise (WB_EVT_DISAGREE p)
      let w := d1.frame / 500000
      let x := d1.pair p
      let d2 := d1.setPair p { x with window := w, disagree := (if x.window = w then x.disagree else 0) + 1 }
      let src : Source := .cell (.fb ⟨p % 48, by omega⟩)
      (a.strict b, d2.postLimited (0x1012000 + p) .wbDisagree src (n % 2 + 2 ^ 8 * a.code + 2 ^ 12 * b.code))

/-- A BLOCK decision (R85, R132). -/
def blocked (d : Dev) (n opc cls addr : Nat) : Dev :=
  let p := n / 2
  let c := n % 2
  let d1 := (d.clear (UP_STATE_WEL p c)).raise (UP_STATE_PROT p c) |>.inc (BLOCK_CNT p c) |>.raise (WB_EVT_BLOCKED p)
    |>.wr (LAST_BLOCK_OPC p c) opc |>.wr (LAST_BLOCK_CLASS p c) cls |>.wr (LAST_BLOCK_ADDR p c) addr
  let src : Source := .cell (.fa ⟨p % 48, by omega⟩)
  (d1.tally (96 + p) 1).postLimited (0x1011000 + n) .wbBlocked src (c + 2 ^ 8 * opc)

/-- The fill byte of an emulated address (R133). -/
def fillByte (d : Dev) (n a : Nat) : Byte := BitVec.ofNat 8 (d.rd (WB_CS_FILL (n / 2) (n % 2)) / 2 ^ (8 * (a % 4)))

/-- Bytes launched on an upstream port from address a on: fill in their place while the poison gate is closed (R169, R133);
a status or ID read counts as one from address 0 (DESIGN CHOICE, log entry 101). -/
def launch (d : Dev) (n a : Nat) (b : Bytes) : Dev :=
  d.emit (.upstream n (if (d.gc n).poisoned then (List.range b.length).map fun i => d.fillByte n (a + i) else b))

/-- An address as the port takes it: its width (R75), then aliased (R74). -/
def upAddr (d : Dev) (n : Nat) (four : Bool) (a : BitVec 32) : Nat :=
  let w := if four || d.on (UP_STATE_ADDR4 (n / 2) (n % 2)) || decide (5 ≤ d.upMode n) then a.toNat else a.toNat % 2 ^ 24
  w % 2 ^ d.rd (UP_CFG_DENSITY_LOG2 (n / 2) (n % 2))

/-- Region class that serves an address: a FORCED component is served as OPEN without windows (R201). -/
def classAt (d : Dev) (n a : Nat) : Nat :=
  if d.on (COMP_STATUS_FORCED n) then 2
  else match (d.gc n).entry with
    | some c => ((c.region a).map fun r => r.2.cls).getD 3
    | none => 3

/-! ## Uncorrectable errors (R155) -/

/-- An uncorrectable error is noted (R155). -/
def noteUe (d : Dev) (index : Nat) (node : Bool) : Dev :=
  (((d.raise SP_EVT_ECC_UE).inc ECC_UE_CNT).wr SP_UE_LOC_INDEX index |>.wr SP_UE_LOC_NODE (flag node)
    |>.wr SP_UE_LOC_FRAME (lo32 d.frame)).post .spEccUe (.cell .sp) (index + 2 ^ 16 * flag node) |>.tally 276 1

/-- What an uncorrectable error does to the frame of a granule: freed when cached or buffered, REFETCH when pinned, its
line missing when pending (R155). -/
def frameUe (d : Dev) (n g line : Nat) : Dev :=
  match d.frameOf n g with
  | none => d
  | some f => match f.state with
    | .pinned => d.putFrame n g .refetch [] false
    | .pending => d.putFrame n g .pending (f.bytes.filter fun x => x.1 / 64 ≠ line) false
    | .refetch => d
    | _ => d.freeFrames fun x => x.gc = n && x.granule = g

/-! ## Reads -/

/-- Where the bytes of a granule come from. -/
inductive Src where
  | frame (b : List (Nat × Byte))
  | flash (snoop : Bool)
  | fill
  deriving DecidableEq, Repr

/-- A read in progress: the device, bytes answered (last first), the granule being served and its source, whether the rest
is fill, which decisions the read has received, the ECC error it has still to meet, and the downstream transaction under way: the
address at which it goes on and the bytes left to it. -/
structure RdRun where
  d : Dev
  out : Bytes := []
  cur : Option (Nat × Src) := none
  rest : Bool := false
  fwd : Bool := false
  emu : Bool := false
  fill : Bool := false
  flash : Bool := false
  ecc : Option EccHit := none
  next : Nat := 0
  left : Nat := 0

/-- A LATENCY_MISS: counted once, and the rest of the read is fill (R97). -/
def RdRun.miss (r : RdRun) (n : Nat) : RdRun :=
  let p := n / 2
  { r with d := ((r.d.raise (PP_EVT_LAT_MISS p)).inc (LAT_MISS_CNT p (n % 2))).tally (192 + p) 1, rest := true, fill := true }

/-- A granule is forwarded (R100); `snoop` says that its bytes go into a pending frame. -/
def RdRun.forward (r : RdRun) (g : Nat) (snoop : Bool) : RdRun := { r with cur := some (g, .flash snoop), fwd := true, flash := true }

/-- A granule is served from its frame, which becomes the most recently used (R153). -/
def RdRun.hit (r : RdRun) (n g : Nat) (f : Frame) : RdRun := { r with d := r.d.touch n g, cur := some (g, .frame f.bytes) }

/-- The frame of a granule, when it may be served (R152). -/
def served (d : Dev) (n g cls : Nat) : Option Frame := (d.frameOf n g).filter fun f => servable f cls

/-- The STREAMED rule for RD (R163, R164, R167). -/
def RdRun.streamed (r : RdRun) (n g : Nat) (c : CompRec) (x : Region) : RdRun :=
  match r.d.served n g 1 with
  | some f => { { r with d := (r.d.inc (HIT_CNT (n / 2) (n % 2))).tally 271 1 }.hit n g f with fwd := true }
  | none =>
    match r.d.gstate n g with
    | some .pending => r.forward g true
    | some .refetch => r.forward g false
    | _ =>
      if (r.d.pendOf n).length < 32 then ({ r with d := r.d.openPend n g x c }).forward g true
      else if x.action = 1 then
        let d1 := ((r.d.raise (VF_EVT_UNCHECKED (n / 2))).inc (OVERFLOW_CNT (n / 2) (n % 2))).tally 270 1
        ({ r with d := d1 }).forward g false
      else
        { r with d := r.d.checkFails n ⟨2, g, 0, r.d.frame⟩ 0, cur := some (g, .fill), rest := true, fwd := true }

/-- Fill by decision (Table 04-7, DENIED). -/
def RdRun.denied (r : RdRun) (g : Nat) : RdRun := { r with cur := some (g, .fill), fill := true }

/-- A granule is served from the sources of R95 or from its pinned frame (Table 04-7). -/
def RdRun.emulate (r : RdRun) (n g : Nat) (f : Frame) : RdRun := { r.hit n g f with emu := true }

/-- How Table 04-7 serves a granule: from a frame as EMULATE, as a SEALED granule that has lost its frame, with LATENCY_MISS, by the STREAMED
rule, from an OPEN region, or with fill. -/
inductive Serve where
  | emulate (f : Frame) | lost | miss | streamed | opened | denied
  deriving DecidableEq, Repr

/-- The sources of R95: pinned frames and the stream buffer, else LATENCY_MISS (R97). -/
def noDummy (d : Dev) (n g cls : Nat) : Serve :=
  match d.served n g cls with
  | some f => if f.state = .pinned || f.state = .buffered then .emulate f else .miss
  | none => .miss

/-- How a granule that a read enters is served (R129, R163, Table 04-7); `nd` says that the read has no dummy cycles. A SEALED granule that is
neither PINNED nor in REFETCH is served as STREAMED while its region is SEALED_DEGRADED. -/
def serve (d : Dev) (n a : Nat) (nd : Bool) (c : CompRec) : Serve :=
  let g := a / 2048
  match c.region a with
  | none => .denied
  | some (i, _) =>
    match d.classAt n a with
    | 0 => match d.frameOf n g with
      | some f =>
        if f.state = .pinned then .emulate f
        else if f.state = .refetch then (if nd then .miss else .streamed)
        else if d.on (REGION_DEGRADED (n / 2) (n % 2) i) then (if nd then d.noDummy n g 1 else .streamed)
        else if nd then .miss else .streamed
      | none =>
        if d.on (REGION_DEGRADED (n / 2) (n % 2) i) then (if nd then .miss else .streamed) else if nd then .miss else .lost
    | 1 => if nd then d.noDummy n g 1 else .streamed
    | 2 => if nd then d.noDummy n g 2 else .opened
    | _ => .denied

/-- The decision that goes with it (Table 04-7). -/
def Serve.decision : Serve → Decision
  | .emulate _ | .lost => .emulate
  | .streamed | .opened => .forward
  | .miss | .denied => .fill

/-- The source of a granule that a read enters. While WIP is 1 a forwarded granule is served from its frame where it is resident, else with fill
(R85), which is no FILL decision. -/
def RdRun.enter (r : RdRun) (n a : Nat) (c : CompRec) (v : Serve) : RdRun :=
  let g := a / 2048
  match v with
  | .emulate f => r.emulate n g f
  | .lost => { r with cur := some (g, .fill), emu := true }
  | .miss => { r.miss n with cur := some (g, .fill) }
  | .denied => r.denied g
  | v =>
    if r.d.on (UP_STATE_WIP (n / 2) (n % 2)) then
      match r.d.served n g (r.d.classAt n a), decide (v = .streamed) with
      | some f, true => { { r with d := (r.d.inc (HIT_CNT (n / 2) (n % 2))).tally 271 1 }.hit n g f with fwd := true }
      | some f, false => { r.hit n g f with fwd := true }
      | none, _ => { r with cur := some (g, .fill), fwd := true }
    else match v, c.region a with
      | .streamed, some (_, x) => r.streamed n g c x
      | _, _ => r.forward g false

/-- A decision of engine B that is stricter than that of engine A is served from a pinned frame or with fill (R141). -/
def RdRun.overruled (r : RdRun) (n g : Nat) (x : Decision) : RdRun :=
  match x, r.d.frameOf n g with
  | .emulate, some f => if f.state = .pinned then r.emulate n g f else r.denied g
  | _, _ => r.denied g

/-- A read enters a granule: the engines decide (R125, R141), and its source is fixed (R163). -/
def RdRun.granule (r : RdRun) (t : UpTx) (opc : Nat) (nd : Bool) (c : CompRec) (a : Nat) : RdRun :=
  let n := t.gc.val
  let v := r.d.serve n a nd c
  let j := r.d.judge t opc a v.decision
  let r1 := { r with d := j.2 }
  if j.1 = v.decision then r1.enter n a c v else r1.overruled n (a / 2048) j.1

/-- A read meets an ECC error in the line of the frame that serves it (R155): a correctable one is counted; after an uncorrectable one a pinned
granule leaves fill for the rest of the read, and another granule is decided again for the rest (DESIGN CHOICE, log entry 93). -/
def RdRun.meetEcc (r : RdRun) (t : UpTx) (opc : Nat) (nd : Bool) (c : CompRec) (a : Nat) : RdRun :=
  let n := t.gc.val
  let g := a / 2048
  match r.ecc, r.cur with
  | some e, some (k, .frame _) =>
    if k ≠ g || e.granule ≠ g || e.line ≠ a % 2048 / 64 then r
    else if !e.ue then { r with d := ((r.d.raise SP_EVT_ECC_CE).inc ECC_CE_CNT).tally 275 1, ecc := none }
    else
      let wasPinned := decide (r.d.gstate n g = some .pinned)
      let r1 := { r with d := (r.d.frameUe n g e.line).noteUe e.index false, ecc := none }
      if wasPinned then { r1 with cur := some (g, .fill), rest := true } else r1.granule t opc nd c a
  | _, _ => r

/-- A byte of the flash: its transaction goes on, or the next one begins where the address jumps, where the burst is full (R101), or where the flash was
not being read (R100). -/
def RdRun.flashByte (r : RdRun) (n a : Nat) (b : Byte) : RdRun :=
  let p := n / 2
  if r.left ≠ 0 && r.next = a then { r with next := a + 1, left := r.left - 1, out := b :: r.out }
  else
    let most := if r.d.bursts p then r.d.burstOf p else 2 ^ 28
    { r with d := r.d.dnEmit n (r.d.rd (DN_CFG_READ_OPC p)) a [], next := a + 1, left := most - 1, out := b :: r.out }

/-- One byte of a read: entering a granule fixes its source (R163), then the byte is served; snooped bytes go into the
pending frame. -/
def rdByte (t : UpTx) (opc : Nat) (nd : Bool) (c : CompRec) (r : RdRun) (x : Nat × Byte) : RdRun :=
  let n := t.gc.val
  let a := x.1
  let g := a / 2048
  let r1 := if r.rest || (r.d.gc n).poisoned then { r with rest := true }
    else (if r.cur.map Prod.fst = some g then r else r.granule t opc nd c a).meetEcc t opc nd c a
  let fill := { r1 with left := 0, out := r1.d.fillByte n a :: r1.out }
  if r1.rest then fill
  else match r1.cur with
    | some (_, .frame b) => { r1 with left := 0, out := SMap.get (fun _ => x.2) b (a % 2048) :: r1.out }
    | some (_, .flash snoop) =>
      let r2 := r1.flashByte n a x.2
      match snoop, r2.d.frameOf n g with
      | true, some f =>
        if f.state = .pending && !(f.bytes.any fun y => y.1 = a % 2048) then
          { r2 with d := r2.d.putFrame n g .pending (SMap.put f.bytes (a % 2048) x.2) false }
        else r2
      | _, _ => r2
    | _ => fill

/-- The addresses of a read of `len` bytes, wrapped (R80) and aliased (R74); a set wrap applies to every read opcode (DESIGN CHOICE, log entry
83). -/
def readAddrs (d : Dev) (n a len : Nat) : List Nat :=
  let w := d.rd (UP_STATE_WRAP (n / 2) (n % 2))
  let size := 2 ^ d.rd (UP_CFG_DENSITY_LOG2 (n / 2) (n % 2))
  (List.range len).map fun i =>
    if w = 0 then (a + i) % size
    else let l := 4 * 2 ^ w; (a / l * l + (a % l + i) % l) % size

/-- The stream buffer when a read ends in granule g: other granules than g + 1 to g + 4 leave it (R163). -/
def advance (d : Dev) (n g : Nat) : Dev :=
  let leaves := fun (f : Frame) => f.gc = n && f.state = .buffered && !decide (g + 1 ≤ f.granule ∧ f.granule ≤ g + 4)
  let fs := (d.snow.frames.filter fun f => !(leaves f && !f.verified)).map fun f => if leaves f then { f with state := .cached } else f
  let d1 := (d.setSnow { d.snow with frames := fs }).trimCache
  d1.setGc n { d1.gc n with lastGranule := some g }

/-- A read of the flash array: bytes in order, decisions counted once per command, and the stream buffer advanced (R132,
R163). `flash` holds the bytes that the flash returns where it is read, in order. -/
def readArray (d : Dev) (t : UpTx) (opc : Nat) (nd : Bool) (a : Nat) (flash : Bytes) (ecc : Option EccHit) : Dev :=
  let n := t.gc.val
  let p := n / 2
  let c := n % 2
  match (d.gc n).entry with
  | none => d
  | some e =>
    let xs := (d.readAddrs n a flash.length).zip flash
    let r := xs.foldl (rdByte t opc nd e) { d := d, ecc := ecc }
    let d1 := r.d.emit (.upstream n r.out.reverse)
    let d2 := if r.fwd then d1.inc (FWD_CNT p c) else d1
    let d3 := if r.emu then d2.inc (EMU_CNT p c) else d2
    let d4 := if r.fill then (d3.inc (FILL_CNT p c)).raise (WB_EVT_FILLED p) else d3
    let d5 := if r.flash then d4.inc (FWD_RD_CNT p c) else d4
    match xs.getLast? with
    | some x => d5.advance n (x.1 / 2048)
    | none => d5

/-- D_up of the present mode (R89). -/
def dUp (d : Dev) (n : Nat) : Nat :=
  let p := n / 2
  let c := n % 2
  if d.upMode n = d.rd (UP_CFG_START_MODE p c) then d.rd (UP_CFG_DUMMY_START p c) else d.rd (UP_CFG_DUMMY_RUN p c)

/-- The read is served without reading the flash: 0x03 and 0x13, and 0x0B and 0x0C in 1S-1S-1S when D_up is above 8 (R95,
R98). -/
def ndRead (d : Dev) (n opc : Nat) : Bool :=
  opc = 0x03 || opc = 0x13 || ((opc = 0x0B || opc = 0x0C) && d.upMode n = 0 && decide (8 < d.dUp n))

/-- The continuous-read mode byte after a read (R81). -/
def modeByte (d : Dev) (n opc : Nat) (m : Byte) : Dev :=
  let p := n / 2
  let c := n % 2
  if !d.on (UP_CFG_CONT_EN p c) then d
  else
    let arm := m.toNat / 16 = 0xA
    (d.wr (UP_STATE_CONT p c) (flag arm)).setGc n { d.gc n with contOpc := if arm then opc else 0 }

/-- A read opcode takes a mode byte in these modes (R81). -/
def takesModeByte (opc mode : Nat) : Bool :=
  ((opc = 0xEB || opc = 0xEC) && (mode = 2 || mode = 3)) || ((opc = 0xED || opc = 0xEE) && mode = 4)

/-- A read command (R89, R95, R98). -/
def upRead (d : Dev) (t : UpTx) (opc : Nat) (modes : List Nat) (four : Bool) (addr : BitVec 32) (m : Byte) (flash : Bytes)
    (ecc : Option EccHit) : Dev :=
  d.upCommand t opc modes addr.toNat [] fun d =>
    let n := t.gc.val
    let d1 := d.readArray t opc (d.ndRead n opc) (d.upAddr n four addr) flash ecc
    if takesModeByte opc (d.upMode n) then d1.modeByte n opc m else d1

/-- A transaction that starts with an address, when continuous read is armed (R81). -/
def contRead (d : Dev) (t : UpTx) (addr : BitVec 32) (m : Byte) (flash : Bytes) (ecc : Option EccHit) : Dev :=
  let n := t.gc.val
  let p := n / 2
  if !d.awake || !d.ownsPorts || !d.on (COMP_STATUS_RELEASE n) || !d.on (UP_STATE_CONT p (n % 2)) then d
  else
    let opc := (d.gc n).contOpc
    let d1 := d.tally p 1
    let d2 := if t.bgBusy && !d.bothCs p then d1.inc (BURST_ABORT_CNT p) else d1
    let four := opc = 0xEC || opc = 0xEE
    let d2 := d2.setGc n { d2.gc n with lastOpc := 0 }
    (d2.readArray t opc false (d2.upAddr n four addr) flash ecc).modeByte n opc m

/-! ## Programs and erases -/

/-- An address lies in an OPEN region and in a window with the permission bit (Table 04-7). -/
def inWindow (d : Dev) (n a perm : Nat) : Bool :=
  !d.on (COMP_STATUS_FORCED n) && match (d.gc n).entry with
    | some c => (c.region a).any (fun r => r.2.cls = 2) && c.windows.any fun w => decide (w.base ≤ a ∧ a ≤ w.limit) && bit w.perm perm
    | none => false

/-- A program or erase is forwarded: WIP sets, the frame of issue is kept, and the granules are given up (R85, R103, R172); a program longer
than a burst goes on with the bursts that follow the first (R101). -/
def issue (d : Dev) (n a len : Nat) (w : WStep) : Dev :=
  let p := n / 2
  let d1 := (d.raise (UP_STATE_WIP p (n % 2))).inc (FWD_CNT p (n % 2))
  runWrites n false [w] (d1.invalidate n a len)

/-- A page program (R83, R85, R130, R134). -/
def upProgram (d : Dev) (t : UpTx) (opc : Nat) (modes : List Nat) (four : Bool) (addr : BitVec 32) (data : Bytes) : Dev :=
  d.upCommand t opc modes addr.toNat data fun d =>
    let n := t.gc.val
    let p := n / 2
    let c := n % 2
    let a := d.upAddr n four addr
    if d.on (UP_STATE_WIP p c) || !d.on (UP_STATE_WEL p c) then d
    else if data = [] then d.clear (UP_STATE_WEL p c)
    else
      let pg := 2 ^ d.rd (DN_FLASH_PAGE_LOG2 p c)
      let base := a / pg * pg
      let image := data.zipIdx.foldl (fun m x => SMap.put m ((a + x.2) % pg) x.1) []
      let touched := (image.filter fun x => x.2 ≠ 0xFF).map fun x => base + x.1
      let judged := if touched = [] then [a] else touched
      let j := d.judge t opc a (if judged.all fun y => d.inWindow n y 0 then .forward else .block)
      match j.1 with
      | .forward => j.2.issue n base pg (.program base ((List.range pg).map fun i => SMap.get (fun _ => (0xFF : Byte)) image i))
      | _ => j.2.blocked n opc 2 a

/-- Size of an erase as a power of two, and its bit in ERASE_TYPES. -/
def upErase (d : Dev) (t : UpTx) (opc : Nat) (modes : List Nat) (four : Bool) (size type : Nat) (addr : BitVec 32) : Dev :=
  d.upCommand t opc modes addr.toNat [] fun d =>
    let n := t.gc.val
    let p := n / 2
    let c := n % 2
    let a := d.upAddr n four addr
    if d.on (UP_STATE_WIP p c) || !d.on (UP_STATE_WEL p c) then d
    else
      let base := a / size * size
      let types := ((d.gc n).entry.map CompRec.eraseTypes).getD 0
      let ok := bit types type && (List.range (size / 4096)).all fun i => d.inWindow n (base + 4096 * i) 1
      let j := d.judge t opc a (if ok then .forward else .block)
      match j.1 with
      | .forward => j.2.issue n base size (.erase base size)
      | _ => j.2.blocked n opc 3 a

/-- A command that is always refused: chip erase and the non-volatile registers (Table 04-7); one that programs or erases is
ignored while WEL is 0 (R85) or WIP is 1 (R134). -/
def upBlocked (d : Dev) (t : UpTx) (opc cls : Nat) (modes : List Nat) (needsWel : Bool) (addr : Nat) (data : Bytes) : Dev :=
  d.upCommand t opc modes addr data fun d =>
    let n := t.gc.val
    if needsWel && (d.on (UP_STATE_WIP (n / 2) (n % 2)) || !d.on (UP_STATE_WEL (n / 2) (n % 2))) then d
    else (d.judge t opc 0 .block).2.blocked n opc cls 0

/-! ## Emulated registers (R84 to R87) -/

/-- An emulated command: counted as EMULATE, unless engine B overrules it (R132, R141). -/
def emulated (d : Dev) (t : UpTx) (opc cls : Nat) (body : Dev → Dev) : Dev :=
  let n := t.gc.val
  let j := d.judge t opc 0 .emulate
  match j.1 with
  | .emulate => body (j.2.inc (EMU_CNT (n / 2) (n % 2)))
  | .block => j.2.blocked n opc cls 0
  | _ => (j.2.inc (FILL_CNT (n / 2) (n % 2))).raise (WB_EVT_FILLED (n / 2))

/-- A command of the emulated register set. -/
def upReg (d : Dev) (t : UpTx) (opc : Nat) (modes : List Nat) (addr : Nat) (data : Bytes) (body : Dev → Dev) : Dev :=
  d.upCommand t opc modes addr data fun d => d.emulated t opc 5 body

/-- Write Status Register as WRSR_MODE gives (R131). -/
def wrsr (d : Dev) (t : UpTx) (data : Byte) : Dev :=
  let n := t.gc.val
  let p := n / 2
  let c := n % 2
  if !d.on (UP_STATE_WEL p c) then d
  else match d.rd (WB_CS_WRSR_MODE p c) with
    | 0 => (d.judge t 0x01 0 .block).2.blocked n 0x01 6 0
    | 1 => d.emulated t 0x01 6 fun d => d.clear (UP_STATE_WEL p c)
    | _ => d.emulated t 0x01 6 fun d => (d.wr (WB_CS_WP_VIEW p c) (data.toNat / 4)).clear (UP_STATE_WEL p c)

/-- A write of a volatile register: EMULATE, whatever WEL (Table 04-7); WEL clears (DEDUCED, log entry 12). -/
def vcfg (d : Dev) (t : UpTx) (opc : Nat) : Dev :=
  let n := t.gc.val
  d.emulated t opc 7 fun d => d.clear (UP_STATE_WEL (n / 2) (n % 2))

/-- UP_STATE returns to its release values (R76, R79). -/
def releaseValues (d : Dev) (n : Nat) : Dev :=
  let p := n / 2
  let c := n % 2
  d.wr (UP_STATE_MODE p c) (d.rd (UP_CFG_START_MODE p c)) |>.wr (UP_STATE_ADDR4 p c) (d.rd (UP_CFG_ADDR4_DEFAULT p c))
    |>.clear (UP_STATE_WEL p c) |>.clear (UP_STATE_WRAP p c) |>.clear (UP_STATE_CONT p c) |>.clear (UP_STATE_PROG_FAIL p c)
    |>.clear (UP_STATE_ERASE_FAIL p c) |>.clear (UP_STATE_PROT p c)

/-- Set Burst with Wrap (R80). The spec gives the lengths and no encoding: bit 4 set turns wrap off, bits 6 to 5 give 8, 16, 32 or 64 bytes,
and bit 7 asks for more (PRESUMED from JESD216 flashes, log entry 82). -/
def burstWrap (d : Dev) (n : Nat) (data : Byte) : Dev :=
  let v := data.toNat
  let f := UP_STATE_WRAP (n / 2) (n % 2)
  if bit v 4 then d.clear f
  else if bit v 7 then (d.clear f).unsup n
  else d.wr f (v / 32 % 4 + 1)

/-- ID bytes shown: the policy's, else the flash's; beyond their length 0 (R86). -/
def idByte (d : Dev) (n i : Nat) : Byte :=
  let g := d.gc n
  match g.entry with
  | some c => if c.idLen = 0 then (g.idBytes[i]?).getD 0 else if i < c.idLen then (c.idBytes[i]?).getD 0 else 0
  | none => 0

/-- A byte of the SFDP space: the image, 0xFF beyond 512 bytes (R87). -/
def sfdpByte (d : Dev) (n a : Nat) : Byte := if a < 512 then ((d.gc n).sfdp[a]?).getD 0xFF else 0xFF

/-- Clear Flag Status Register (Table 03-2). -/
def clearFlags (d : Dev) (n : Nat) : Dev :=
  d.clear (UP_STATE_ERASE_FAIL (n / 2) (n % 2)) |>.clear (UP_STATE_PROG_FAIL (n / 2) (n % 2)) |>.clear (UP_STATE_PROT (n / 2) (n % 2))

/-- Reset directly after Reset Enable, while WIP is 0 (R79). -/
def softReset (d : Dev) (n : Nat) : Dev :=
  if (d.gc n).lastOpc = 0x66 && !d.on (UP_STATE_WIP (n / 2) (n % 2)) then d.releaseValues n else d

/-- All modes, and the modes that are not octal. -/
def allModes : List Nat := [0, 1, 2, 3, 4, 5, 6]
def sdrModes : List Nat := [0, 1, 2, 3, 4]

end Dev

open Dev (allModes sdrModes)

/-! ## Meanings: reads -/

def execRead (t : UpTx) (a : BitVec 32) (flash : Bytes) (ecc : Option EccHit) (s : State) : Result :=
  act s fun d => d.upRead t 0x03 [0] false a 0 flash ecc
def execFourByteRead (t : UpTx) (a : BitVec 32) (flash : Bytes) (ecc : Option EccHit) (s : State) : Result :=
  act s fun d => d.upRead t 0x13 [0] true a 0 flash ecc
def execFastRead (t : UpTx) (a : BitVec 32) (flash : Bytes) (ecc : Option EccHit) (s : State) : Result :=
  act s fun d => d.upRead t 0x0B [0, 3, 5] false a 0 flash ecc
def execFourByteFastRead (t : UpTx) (a : BitVec 32) (flash : Bytes) (ecc : Option EccHit) (s : State) : Result :=
  act s fun d => d.upRead t 0x0C [0, 3, 5, 6] true a 0 flash ecc
def execQuadOutputRead (t : UpTx) (a : BitVec 32) (flash : Bytes) (ecc : Option EccHit) (s : State) : Result :=
  act s fun d => d.upRead t 0x6B [1] false a 0 flash ecc
def execFourByteQuadOutputRead (t : UpTx) (a : BitVec 32) (flash : Bytes) (ecc : Option EccHit) (s : State) : Result :=
  act s fun d => d.upRead t 0x6C [1] true a 0 flash ecc
def execQuadIoRead (t : UpTx) (a : BitVec 32) (m : Byte) (flash : Bytes) (ecc : Option EccHit) (s : State) : Result :=
  act s fun d => d.upRead t 0xEB [2, 3] false a m flash ecc
def execFourByteQuadIoRead (t : UpTx) (a : BitVec 32) (m : Byte) (flash : Bytes) (ecc : Option EccHit) (s : State) : Result :=
  act s fun d => d.upRead t 0xEC [2, 3, 5] true a m flash ecc
def execDtrQuadIoRead (t : UpTx) (a : BitVec 32) (m : Byte) (flash : Bytes) (ecc : Option EccHit) (s : State) : Result :=
  act s fun d => d.upRead t 0xED [4] false a m flash ecc
def execOctalDtrRead (t : UpTx) (a : BitVec 32) (m : Byte) (flash : Bytes) (ecc : Option EccHit) (s : State) : Result :=
  act s fun d => d.upRead t 0xEE [4, 6] true a m flash ecc
def execContinuousRead (t : UpTx) (a : BitVec 32) (m : Byte) (flash : Bytes) (ecc : Option EccHit) (s : State) : Result :=
  act s fun d => d.contRead t a m flash ecc

/-! ## Meanings: programs and erases -/

def execPageProgram (t : UpTx) (a : BitVec 32) (data : Bytes) (s : State) : Result :=
  act s fun d => d.upProgram t 0x02 [0, 3, 4] false a data
def execFourBytePageProgram (t : UpTx) (a : BitVec 32) (data : Bytes) (s : State) : Result :=
  act s fun d => d.upProgram t 0x12 [0, 3, 4, 5, 6] true a data
def execQuadInputPageProgram (t : UpTx) (a : BitVec 32) (data : Bytes) (s : State) : Result :=
  act s fun d => d.upProgram t 0x32 [1] false a data
def execFourByteQuadInputPageProgram (t : UpTx) (a : BitVec 32) (data : Bytes) (s : State) : Result :=
  act s fun d => d.upProgram t 0x34 [1] true a data
def execQuadIoPageProgram (t : UpTx) (a : BitVec 32) (data : Bytes) (s : State) : Result :=
  act s fun d => d.upProgram t 0x38 [2] false a data
def execFourByteQuadIoPageProgram (t : UpTx) (a : BitVec 32) (data : Bytes) (s : State) : Result :=
  act s fun d => d.upProgram t 0x3E [2] true a data
def execErase4Kib (t : UpTx) (a : BitVec 32) (s : State) : Result :=
  act s fun d => d.upErase t 0x20 sdrModes false 4096 0 a
def execFourByteErase4Kib (t : UpTx) (a : BitVec 32) (s : State) : Result :=
  act s fun d => d.upErase t 0x21 allModes true 4096 0 a
def execErase32Kib (t : UpTx) (a : BitVec 32) (s : State) : Result :=
  act s fun d => d.upErase t 0x52 sdrModes false 32768 1 a
def execFourByteErase32Kib (t : UpTx) (a : BitVec 32) (s : State) : Result :=
  act s fun d => d.upErase t 0x5C sdrModes true 32768 1 a
def execErase64Kib (t : UpTx) (a : BitVec 32) (s : State) : Result :=
  act s fun d => d.upErase t 0xD8 sdrModes false 65536 2 a
def execFourByteErase64Kib (t : UpTx) (a : BitVec 32) (s : State) : Result :=
  act s fun d => d.upErase t 0xDC allModes true 65536 2 a
def execChipErase (t : UpTx) (s : State) : Result :=
  act s fun d => d.upBlocked t 0x60 4 allModes true 0 []
def execChipEraseC7 (t : UpTx) (s : State) : Result :=
  act s fun d => d.upBlocked t 0xC7 4 allModes true 0 []

/-! ## Meanings: emulated registers -/

/-- Read Status Register, its byte repeated while U_CS_N is low (R84). -/
def execReadStatusRegister (t : UpTx) (len : Nat) (s : State) : Result :=
  act s fun d => d.upReg t 0x05 allModes 0 [] fun d =>
    d.launch t.gc 0 (List.replicate len (d.statusByte (t.gc / 2) (t.gc % 2)))
/-- Read Flag Status Register (R84). -/
def execReadFlagStatusRegister (t : UpTx) (len : Nat) (s : State) : Result :=
  act s fun d => d.upReg t 0x70 allModes 0 [] fun d =>
    d.launch t.gc 0 (List.replicate len (d.flagByte (t.gc / 2) (t.gc % 2)))
/-- Clear Flag Status Register (R84). -/
def execClearFlagStatusRegister (t : UpTx) (s : State) : Result :=
  act s fun d => d.upReg t 0x50 allModes 0 [] fun d => d.clearFlags t.gc
def execWriteEnable (t : UpTx) (s : State) : Result :=
  act s fun d => d.upReg t 0x06 allModes 0 [] fun d => d.raise (UP_STATE_WEL (t.gc / 2) (t.gc % 2))
def execWriteDisable (t : UpTx) (s : State) : Result :=
  act s fun d => d.upReg t 0x04 allModes 0 [] fun d => d.clear (UP_STATE_WEL (t.gc / 2) (t.gc % 2))
/-- Read ID (R86). -/
def execReadId (t : UpTx) (len : Nat) (s : State) : Result :=
  act s fun d => d.upReg t 0x9F allModes 0 [] fun d => d.launch t.gc 0 ((List.range len).map (d.idByte t.gc))
/-- Read SFDP (R87); its address space is 24 bits. -/
def execReadSfdp (t : UpTx) (a : BitVec 24) (len : Nat) (s : State) : Result :=
  act s fun d => d.upReg t 0x5A allModes a.toNat [] fun d =>
    d.launch t.gc a.toNat ((List.range len).map fun i => d.sfdpByte t.gc ((a.toNat + i) % 2 ^ 24))
def execSetBurstWithWrap (t : UpTx) (data : Byte) (s : State) : Result :=
  act s fun d => d.upReg t 0x77 allModes 0 [data] fun d => d.burstWrap t.gc data
/-- Reset Enable: the port remembers it as its latest opcode (R79). -/
def execResetEnable (t : UpTx) (s : State) : Result := act s fun d => d.upReg t 0x66 allModes 0 [] fun d => d
/-- Reset directly after Reset Enable, while WIP is 0 (R79). -/
def execReset (t : UpTx) (s : State) : Result :=
  act s fun d => d.upReg t 0x99 allModes 0 [] fun d => d.softReset t.gc
def execEnter4ByteAddressMode (t : UpTx) (s : State) : Result :=
  act s fun d => d.upReg t 0xB7 sdrModes 0 [] fun d => d.raise (UP_STATE_ADDR4 (t.gc / 2) (t.gc % 2))
def execExit4ByteAddressMode (t : UpTx) (s : State) : Result :=
  act s fun d => d.upReg t 0xE9 sdrModes 0 [] fun d => d.clear (UP_STATE_ADDR4 (t.gc / 2) (t.gc % 2))
/-- Write Status Register (R131). -/
def execWriteStatusRegister (t : UpTx) (a : BitVec 32) (data : Byte) (s : State) : Result :=
  act s fun d => d.upCommand t 0x01 allModes a.toNat [data] fun d => d.wrsr t data
def execWriteVolatileConfigurationRegister (t : UpTx) (a : BitVec 32) (data : Byte) (s : State) : Result :=
  act s fun d => d.upCommand t 0x81 allModes a.toNat [data] fun d => d.vcfg t 0x81
def execWriteStatusRegister2 (t : UpTx) (data : Byte) (s : State) : Result :=
  act s fun d => d.upBlocked t 0x31 8 sdrModes false 0 [data]
def execWriteNonvolatileConfigRegister (t : UpTx) (a : BitVec 32) (data : Byte) (s : State) : Result :=
  act s fun d => d.upBlocked t 0xB1 8 allModes false a.toNat [data]
def execProgramSecurityRegisters (t : UpTx) (a : BitVec 32) (data : Bytes) (s : State) : Result :=
  act s fun d => d.upBlocked t 0x42 8 allModes true a.toNat data
def execEraseSecurityRegisters (t : UpTx) (a : BitVec 32) (s : State) : Result :=
  act s fun d => d.upBlocked t 0x44 8 allModes true a.toNat []

/-- Modes in which Table 04-6 lists an opcode; none for an opcode that it does not list. -/
def listedModes (opc : Nat) : List Nat :=
  if [0x03, 0x13].contains opc then [0]
  else if opc = 0x0B then [0, 3, 5] else if opc = 0x0C then [0, 3, 5, 6]
  else if [0x6B, 0x6C, 0x32, 0x34].contains opc then [1]
  else if opc = 0xEB then [2, 3] else if opc = 0xEC then [2, 3, 5] else if opc = 0xED then [4] else if opc = 0xEE then [4, 6]
  else if opc = 0x02 then [0, 3, 4] else if opc = 0x12 then [0, 3, 4, 5, 6]
  else if [0x38, 0x3E].contains opc then [2]
  else if [0x20, 0x52, 0x5C, 0xD8, 0xB7, 0xE9, 0x31].contains opc then sdrModes
  else if [0x21, 0xDC, 0x60, 0xC7, 0x05, 0x70, 0x50, 0x06, 0x04, 0x9F, 0x5A, 0x77, 0x66, 0x99, 0x01, 0x81, 0xB1, 0x42,
    0x44].contains opc then allModes
  else []

namespace Dev

/-- What an emulated register command does that brings nothing but an address and data (Table 03-2). -/
def registerBody (d : Dev) (n opc a : Nat) (data : Bytes) : Dev :=
  match opc with
  | 0x04 => d.clear (UP_STATE_WEL (n / 2) (n % 2))
  | 0x06 => d.raise (UP_STATE_WEL (n / 2) (n % 2))
  | 0x50 => d.clearFlags n
  | 0x77 => d.burstWrap n (data.headD 0)
  | 0x99 => d.softReset n
  | 0xB7 => d.raise (UP_STATE_ADDR4 (n / 2) (n % 2))
  | 0xE9 => d.clear (UP_STATE_ADDR4 (n / 2) (n % 2))
  | _ => d.launch n a []

/-- A transaction of an opcode with an address and data and no byte read, as Table 04-6 classes the opcode (R127). -/
def byClass (d : Dev) (t : UpTx) (opc : Nat) (a : BitVec 32) (data : Bytes) : Dev :=
  let ms := listedModes opc
  if [0x03, 0x0B, 0x6B, 0xEB, 0xED].contains opc then d.upRead t opc ms false a (data.headD 0) [] none
  else if [0x13, 0x0C, 0x6C, 0xEC, 0xEE].contains opc then d.upRead t opc ms true a (data.headD 0) [] none
  else if [0x02, 0x32, 0x38].contains opc then d.upProgram t opc ms false a data
  else if [0x12, 0x34, 0x3E].contains opc then d.upProgram t opc ms true a data
  else match opc with
    | 0x20 => d.upErase t opc ms false 4096 0 a
    | 0x21 => d.upErase t opc ms true 4096 0 a
    | 0x52 => d.upErase t opc ms false 32768 1 a
    | 0x5C => d.upErase t opc ms true 32768 1 a
    | 0xD8 => d.upErase t opc ms false 65536 2 a
    | 0xDC => d.upErase t opc ms true 65536 2 a
    | 0x60 => d.upBlocked t opc 4 ms true 0 []
    | 0xC7 => d.upBlocked t opc 4 ms true 0 []
    | 0x01 => d.upCommand t opc ms a.toNat data fun d => d.wrsr t (data.headD 0)
    | 0x81 => d.upCommand t opc ms a.toNat data fun d => d.vcfg t opc
    | 0x31 => d.upBlocked t opc 8 ms false 0 data
    | 0xB1 => d.upBlocked t opc 8 ms false a.toNat data
    | 0x42 => d.upBlocked t opc 8 ms true a.toNat data
    | 0x44 => d.upBlocked t opc 8 ms true a.toNat []
    | _ => if ms = [] then d.upCommand t opc [] a.toNat data fun d => d
      else d.upReg t opc ms a.toNat data fun d => d.registerBody t.gc opc a.toNat data

end Dev

/-- MODE_SW_OPC: the switch of R77 in START_MODE, which `upCommand` makes before any body; where START_MODE equals RUN_MODE an ordinary
write of a volatile register; in RUN_MODE the class of Table 04-6, or unsupported (R77, R128). -/
def execModeSwitch (t : UpTx) (a : BitVec 32) (data : Bytes) (s : State) : Result :=
  act s fun d =>
    let n := t.gc.val
    let opc := d.rd (UP_CFG_MODE_SW_OPC (n / 2) (n % 2))
    if d.switchArmed n || d.rd (UP_CFG_START_MODE (n / 2) (n % 2)) = d.rd (UP_CFG_RUN_MODE (n / 2) (n % 2)) then
      d.upCommand t opc allModes a.toNat data fun d => d.vcfg t opc
    else d.byClass t opc a data

/-- An opcode that Table 04-6 does not list, or not for the present mode, is ignored and counted (R82, R127). -/
def execUnsupportedOpcode (t : UpTx) (opc : Byte) (s : State) : Result :=
  act s fun d =>
    if (listedModes opc.toNat).contains (d.upMode t.gc) then d
    else d.upCommand t opc.toNat [] 0 [] fun d => d

end Sys2Proof.Machine
end

