-- ==== Sys2Proof/Machine/Sfdp.lean ====
section
/-! DEFINITION. The emulated SFDP image of a chip select (03_port_pairs.md R87, Table 03-3). The spec names the fields that the device sets and
follows the table layout of JESD216D: the places of the fields are those of that standard (PRESUMED, log entry 94); what the firmware lays
out from the flash's own SFDP stands in `Config.sfdpImage`. -/

namespace Sys2Proof.Machine

open Reg

/-- A field of the Basic Flash Parameter Table: its DWORD from 1, lowest bit, width and value. -/
structure BfptField where
  dword : Nat
  lo : Nat
  width : Nat
  value : Nat
  deriving DecidableEq, Repr

/-- A field placed in an image whose Basic Flash Parameter Table begins at an offset. -/
def BfptField.place (table : Nat) (b : Bytes) (f : BfptField) : Bytes :=
  let o := table + 4 * (f.dword - 1)
  let w := leAt b o 4
  let v := w - bits w f.lo f.width * 2 ^ f.lo + f.value % 2 ^ f.width * 2 ^ f.lo
  b.take o ++ leBytes 4 v ++ b.drop (o + 4)

/-- A mode is enabled by START_MODE or RUN_MODE. -/
def CompRec.inMode (c : CompRec) (m : Nat) : Bool := c.startMode = m || c.runMode = m

/-- Dummy clocks and mode clocks of a fast read: the advertised wait of its mode, the 2 mode clocks of a quad mode taken out of it (Table
03-3); nothing for a mode that is not enabled. -/
def readClocks (r : PairRec) (cs : List CompRec) (c : CompRec) (m modeClocks : Nat) : Nat :=
  if c.inMode m then (advertisedWait r cs c m - modeClocks) % 32 + 32 * modeClocks else 0

/-- The fields of Table 03-3 in the Basic Flash Parameter Table. -/
def bfptFields (r : PairRec) (cs : List CompRec) (c : CompRec) : List BfptField :=
  [⟨1, 22, 1, flag (c.inMode 1)⟩, ⟨1, 21, 1, flag (c.inMode 2)⟩, ⟨1, 20, 1, 0⟩, ⟨1, 19, 1, flag (c.inMode 4)⟩, ⟨1, 16, 1, 0⟩,
   ⟨2, 0, 32, 8 * 2 ^ c.densityLog2 - 1⟩,
   ⟨3, 0, 8, readClocks r cs c 2 2⟩, ⟨3, 8, 8, if c.inMode 2 then 0xEB else 0⟩,
   ⟨3, 16, 8, readClocks r cs c 1 0⟩, ⟨3, 24, 8, if c.inMode 1 then 0x6B else 0⟩,
   ⟨5, 4, 1, flag (c.inMode 3)⟩, ⟨7, 16, 8, readClocks r cs c 3 2⟩, ⟨7, 24, 8, if c.inMode 3 then 0xEB else 0⟩,
   ⟨11, 4, 4, c.pageLog2⟩, ⟨12, 31, 1, 1⟩, ⟨14, 31, 1, 1⟩, ⟨15, 9, 1, flag c.contEn⟩, ⟨15, 20, 3, 0⟩, ⟨16, 8, 6, 0x10⟩]

/-- Fast-read dummy cycles of a frequency entry of the xSPI Profile 1.0 table: the advertised wait at that frequency, 0 above FREQ_MAX (Table
03-3). -/
def xspiWait (r : PairRec) (cs : List CompRec) (c : CompRec) (f : Nat) : Nat :=
  if f ≤ c.freqMax then advertisedWait r cs { c with freqMax := f } c.runMode else 0

/-- What the firmware lays out besides: which tables the image has, the erase types, and the entries of the 4-byte and xSPI tables. -/
def sfdpExtra (r : PairRec) (cs : List CompRec) (c : CompRec) : List Nat :=
  [flag (decide (24 < c.densityLog2) || c.addr4Default), flag (decide (5 ≤ c.runMode)), c.startMode, c.runMode, c.eraseTypes, bits c.cflags 2 1, 8]
    ++ [200, 166, 133, 100].map (xspiWait r cs c)

namespace Dev

/-- The emulated SFDP image (R87), 512 bytes, from the flash's own bytes and the records in force; it waits for the start of the downstream
engine, which reads the flash's bytes. The first parameter header points to the Basic Flash Parameter Table. -/
def buildSfdp (d : Dev) (n : Nat) : Dev :=
  let g := d.gc n
  match g.entry, (d.pair (n / 2)).record with
  | some c, some r =>
    if g.sfdpRaw = [] then d
    else
      let cs := (gcsOf (n / 2)).filterMap fun m => (d.gc m).entry
      let b := Config.sfdpImage g.sfdpRaw (sfdpExtra r cs c)
      d.setGc n { g with sfdp := slice ((bfptFields r cs c).foldl (BfptField.place (leAt b 0xC 3)) b) 0 512 }
  | _, _ => d

end Dev

end Sys2Proof.Machine
end

