-- ==== Sys2Proof/Machine/Downstream.lean ====
section
/-! DEFINITION. The downstream controller and verified fetch behind the ports (03_port_pairs.md R99 to R108;
05_verified_fetch.md R155 to R171; 06_hold_release_thaw.md R192): polls, timeouts, completion fetches, checks, streams, pin
fetches, prefetch and training. -/

namespace Sys2Proof.Machine

open Reg

namespace Dev

/-- The downstream engine of a component's pair runs. -/
def dnUp (d : Dev) (n : Fin 96) : Bool := d.awake && (d.ownsPorts || d.pairState = .taking) && d.cst (.dn ⟨n.val / 2, by omega⟩) = .active

/-- The pair may read and verify: its engine runs, the digest unit is ACTIVE, the Crypto complex READY (R230, R244), and no self-test pauses
verification. -/
def busUp (d : Dev) (n : Fin 96) : Bool := d.dnUp n && d.cst .digest = .active && !d.verifyPaused && d.rd CR_STATE = CrState.ready.code

/-- The flash is not busy: it may receive a read (R102). -/
def readable (d : Dev) (n : Fin 96) : Bool := d.busUp n && (d.gc n).op.isNone

/-! ## The background clock (R105, R175) -/

/-- An open entry of the pair has reached half of its horizon (R175). -/
def halfway (d : Dev) (p : Nat) : Bool :=
  d.snow.pend.any fun x => x.gc / 2 = p && decide (x.horizon ≤ 2 * (d.frame - x.born))

/-- The background clock of a pair under the governor step in effect (R105, R175, Table 14-5). -/
def bgFreq (d : Dev) (p : Nat) : Dev :=
  let f := d.rd (DN_CFG_FREQ p)
  let low := decide (2 ≤ d.rd MON_GOV_STEP)
  let susp := low && d.halfway p
  (d.wr (DN_CFG_BG_FREQ p) (if low && !susp then min f (max 25 (f / 2)) else f)).wr (VF_PAIR_STEP_SUSPENDED p) (flag susp)

/-! ## Programs and erases in progress (R85, R103, R104) -/

/-- PROG_LIMIT or ERASE_LIMIT; 0 denotes the largest value (R103). -/
def opLimit (d : Dev) (n : Nat) (o : DnOp) : Nat :=
  let v := d.rd (if o.erase then DN_FLASH_ERASE_LIMIT (n / 2) (n % 2) else DN_FLASH_PROG_LIMIT (n / 2) (n % 2))
  if v ≠ 0 then v else if o.erase then 0xFFFFFFFF else 65535

/-- PROG_FAIL or ERASE_FAIL (R85). -/
def opFail (d : Dev) (n : Nat) (o : DnOp) : Dev :=
  d.raise (if o.erase then UP_STATE_ERASE_FAIL (n / 2) (n % 2) else UP_STATE_PROG_FAIL (n / 2) (n % 2))

/-- The device's own writes stop after the one in progress: a slot was revoked, or an entry waits to take effect (Table 06-2). -/
def ownStops (d : Dev) (n : Nat) : Bool := (d.comp n).revoked.isSome || d.pol.todo.contains n || (d.gc n).staged.isSome

/-- A status poll finds the flash ready (R85, R103): the writes that follow go on, or a forwarded one ends, WIP then WEL clear, and a failure is
shown; after a failure none follows (DESIGN CHOICE, log entry 84). -/
def opDone (d : Dev) (n : Nat) (o : DnOp) (failed : Bool) : Dev :=
  if o.own then
    if failed then d.writesEnd n (some .flashWrite) true
    else if d.ownStops n then d.writesEnd n none false
    else runWrites n true o.rest d
  else if !failed && o.rest ≠ [] then runWrites n false o.rest d
  else
    let d1 := d.setGc n { d.gc n with op := none }
    let d2 := (d1.clear (UP_STATE_WIP (n / 2) (n % 2))).clear (UP_STATE_WEL (n / 2) (n % 2))
    if failed then d2.opFail n o else d2

/-- The poll at the limit still finds the flash busy (R103). -/
def opTimeout (d : Dev) (n : Fin 96) (o : DnOp) : Dev :=
  let p := n.val / 2
  let src : Source := .cell (.pp ⟨n.val / 2, by omega⟩)
  let d1 := ((d.raise (PP_EVT_DN_TIMEOUT p)).post .portDnTimeout src (n.val % 2 + 256 * flag o.erase)).resetFlash n
  if o.own then d1.writesEnd n (some .flashWrite) true
  else
    let d2 := d1.setGc n { d1.gc n with op := none }
    (d2.opFail n o).clear (UP_STATE_WIP p (n.val % 2))

/-! ## Checks (R165 to R171) -/

/-- The nodes that a granule's path still needs, highest first, else none; for an entry's own parts. -/
def nextNode (d : Dev) (n : Nat) (ps : List Part) (g : Nat) : Option (Part × Nat × Nat) :=
  (partOf ps g).bind fun p => ((d.missingPath n p g).head?).map fun x => (p, x.1, x.2)

/-- Positions of a granule that its frame does not hold. -/
def missingBytes (f : Frame) : List Nat := (List.range 2048).filter fun i => !f.bytes.any fun b => b.1 = i

/-- The first run of missing positions, which one fetch can bring. -/
def missingRun (f : Frame) : List Nat :=
  let m := missingBytes f
  (m.zipIdx.takeWhile fun x => x.1 = m.headD 0 + x.2).map Prod.fst

/-- The bytes of a complete frame. -/
def frameBytes (f : Frame) : Bytes := (List.range 2048).map fun i => SMap.get (fun _ => 0) f.bytes i

/-- An entry still needs a completion fetch (R165). -/
def needsFetch (d : Dev) (x : Pend) : Bool :=
  (d.nextNode x.gc x.parts x.granule).isSome || (d.frameOf x.gc x.granule).any fun f => !(missingBytes f).isEmpty

/-- The entry of a chip select that is served next: the oldest that needs a fetch (R165). -/
def nextEntry (d : Dev) (n : Nat) : Option Pend := (d.pendOf n).find? d.needsFetch

/-- An entry fails: it closes, its granule returns to ABSENT, and its action follows (R169 to R171). -/
def failEntry (d : Dev) (x : Pend) (cause age : Nat) : Dev :=
  let d1 := (d.closePend x).freeFrames fun f => f.gc = x.gc && f.granule = x.granule
  d1.checkFails x.gc ⟨cause, x.granule, age, d.frame⟩ x.action

/-- A completion fetch for an entry: bytes of the highest missing node of its path, which is verified and stored once it is whole, or bytes missing
from its frame, from the first on (R165). -/
def completionFetch (d : Dev) (x : Pend) (b : Bytes) : Dev :=
  let lim := d.bgLimit (x.gc / 2) 256
  match d.nextNode x.gc x.parts x.granule with
  | some (p, lvl, j) =>
    match d.gather x.gc 4 (nodeAddr p lvl j) 768 lim true b with
    | (some whole, d1) =>
      let r := d1.nodeArrives x.gc p lvl j whole
      if r.1 then r.2 else r.2.failEntry x 1 (d.frame - x.born)
    | (none, d1) => d1
  | none => match d.frameOf x.gc x.granule with
    | some f =>
      let add := ((missingRun f).zip b).take lim
      (d.dnEmit x.gc (d.rd (DN_CFG_READ_OPC (x.gc / 2))) (2048 * x.granule + (missingRun f).headD 0) []).putFrame x.gc x.granule .pending
        (add.foldl (fun m e => SMap.put m e.1 e.2) f.bytes) false
    | none => d

/-- The digest of a complete frame is compared with its slot (R165): CACHED, or the entry fails. -/
def checkResult (d : Dev) (x : Pend) : Dev :=
  match d.frameOf x.gc x.granule, partOf x.parts x.granule with
  | some f, some p =>
    if !(missingBytes f).isEmpty || !(d.missingPath x.gc p x.granule).isEmpty then d
    else
      let r := d.granuleArrives x.gc p x.granule (frameBytes f)
      if r.1 then
        ((r.2.closePend x).putFrame x.gc x.granule .cached f.bytes true |>.inc (CHECK_OK_CNT (x.gc / 2) (x.gc % 2))).tally 269 1
      else r.2.failEntry x 0 (d.frame - x.born)
  | _, _ => d

/-- The entry in place e of PC[c]. -/
def pendAt (d : Dev) (n e : Nat) : Option Pend := (d.pendOf n).find? fun x => x.e = e

/-! ## Who may use the bus (Table 03-7, R99, R185) -/

/-- Chip select n has completion fetches to make. -/
def work3 (d : Dev) (n : Nat) : Bool := (d.gc n).op.isNone && (d.nextEntry n).isSome

/-- Chip select n has priority-4 reads that can be made now. -/
def ready4 (d : Dev) (n : Nat) : Bool := (d.gc n).op.isNone && d.work4 n

/-- Bytes that a background transaction moves of those offered. -/
def took (d : Dev) (n : Nat) (b : Bytes) : Nat := min b.length (d.bgLimit (n / 2) 2048)

/-- The next transaction of priority 4 goes to chip select n: no completion fetch waits on the pair, and the other chip select has no such work or has
moved more bytes, or as many where n is cs0 (R99, R185). -/
def granted4 (d : Dev) (n : Nat) : Bool :=
  let o := otherCs n
  !(gcsOf (n / 2)).any d.work3 &&
    (!d.ready4 o || decide ((d.gc n).moved < (d.gc o).moved) || ((d.gc n).moved = (d.gc o).moved && n % 2 = 0))

/-- A transaction of priority 5 may be made on a pair. -/
def granted5 (d : Dev) (p : Nat) : Bool := !(gcsOf p).any fun n => d.work3 n || d.ready4 n

/-! ## Verification streams (R157 to R161, R183) -/

/-- A granule's 2,048 bytes as a frame's bytes. -/
def asFrame (b : Bytes) : List (Nat × Byte) := b.zipIdx.map fun x => (x.2, x.1)

/-- A stream moves past the granule i of its first part. -/
def streamNext (d : Dev) (n : Nat) (s : Stream) (i : Nat) : Dev :=
  let s1 := { s with next := i + 1, nodeDone := s.nodeDone && decide ((i + 1) % 16 ≠ 0) }
  d.setGc n { d.gc n with stream := some (settle (d.pins n) (s.parts.length + 1) s1) }

/-- A node or granule of a stream fails (R161): a component that verifies makes a thaw request; the golden audit and a thaw
pass end with their failure noted. -/
def streamFails (d : Dev) (n : Nat) (s : Stream) : Dev :=
  if s.what = .verify then
    let d1 := d.setGc n { d.gc n with stream := none }
    if d.state n = .verifying then (((d1.setState n .held).clear (COMP_STATUS_READY n)).compStatus n .authFail).thawRequest n
    else d1
  else d.setGc n { d.gc n with stream := some { s with failed := true, parts := [] } }

/-- SP_STATUS.REFILL shows that the refill of some component runs; its end is an event (Table 05-6, R427). -/
def showRefill (d : Dev) : Dev :=
  if (allGcs.any fun m => (d.comp m).refill) || !d.on SP_STATUS_REFILL then d else (d.clear SP_STATUS_REFILL).raise SP_EVT_REFILL_DONE

/-- Every granule of a region is PINNED, or is being fetched again (R155). -/
def regionPinned (d : Dev) (n : Nat) (r : Region) : Bool :=
  (List.range' (r.base / 2048) ((r.limit + 1 - r.base) / 2048)).all fun g =>
    d.gstate n g = some .pinned || d.gstate n g = some .refetch

/-- REGION.DEGRADED under a new entry: the SEALED regions of a component whose refill runs, until their granules are PINNED (R427). -/
def showDegraded (d : Dev) (n : Nat) : Dev :=
  match (d.gc n).entry with
  | none => d
  | some c => c.regions.zipIdx.foldl (fun d r =>
      d.wr (REGION_DEGRADED (n / 2) (n % 2) r.2) (flag ((d.comp n).refill && r.1.cls = 0 && !d.regionPinned n r.1))) d

/-- Some region of a component is SEALED_DEGRADED. -/
def anyDegraded (d : Dev) (n : Nat) : Bool := (List.range 32).any fun i => d.on (REGION_DEGRADED (n / 2) (n % 2) i)

/-- The refill of a component ends with its last degraded region (R163). -/
def refillOver (d : Dev) (n : Nat) : Dev :=
  if d.anyDegraded n || !(d.comp n).refill then d else (d.setComp n { d.comp n with refill := false }).showRefill

/-- Every region whose last granule is PINNED is SEALED again; the refill ends with the last (R163). -/
def refillEnds (d : Dev) (n : Nat) : Dev :=
  match (d.gc n).entry with
  | none => d
  | some c =>
    let d1 := c.regions.zipIdx.foldl (fun d r =>
      if r.1.cls = 0 && d.regionPinned n r.1 then d.clear (REGION_DEGRADED (n / 2) (n % 2) r.2) else d) d
    d1.refillOver n

/-- A granule of the pinned set is written into a pinned frame (R160), but not over an open entry, whose check comes first (R162). -/
def pin (d : Dev) (n g : Nat) (b : Bytes) : Dev :=
  if d.gstate n g = some .pending then d
  else
    let d1 := d.putFrame n g .pinned (asFrame b) true
    if (d1.comp n).refill then d1.refillEnds n else d1

/-- The address at which a granule of a stream is read: its golden copy when the golden image is streamed (R190, R195). -/
def streamAddr (d : Dev) (n : Nat) (s : Stream) (p : Part) (i : Nat) : Nat :=
  let a := p.base + 2048 * i
  if s.what = .golden then ((d.gc n).entry.map fun c => c.goldenAddr (a - 2 ^ 32)).getD a else a

/-- Bytes of a stream's next item arrive; once it is whole it is compared (R157, R159, R160). -/
def streamRead (d : Dev) (n : Nat) (b : Bytes) : Dev :=
  let lim := d.bgLimit (n / 2) 2048
  match (d.gc n).stream with
  | none => d
  | some s => match d.nextItem n s with
    | none => d
    | some (.node p lvl j) =>
      match d.gather n 0 (nodeAddr p lvl j) 768 lim false b with
      | (none, d1) => d1
      | (some whole, d1) =>
        let r := d1.nodeArrives n p lvl j whole
        if r.1 then
          let full := (s.parts.head?.map Prod.fst).getD false
          if full && lvl = 1 then r.2.setGc n { r.2.gc n with stream := some { s with nodeDone := true } } else r.2
        else r.2.streamFails n s
    | some (.granule p i) =>
      let g := p.base / 2048 + i
      match d.gather n 0 (d.streamAddr n s p i) 2048 lim false b with
      | (none, d1) => d1
      | (some whole, d1) =>
        let r := d1.granuleArrives n p g whole
        if r.1 then
          let d2 := if s.what ≠ .golden && (r.2.pins n).contains g then r.2.pin n g whole else r.2
          (d2.streamNext n s i).verifyEnds n
        else r.2.streamFails n s

/-! ## Pin fetches, refetches and prefetch -/

/-- What a fetch outside the streams brings for a granule: its node or the granule itself, part of it, or a failure. -/
inductive Fetched where
  | more (d : Dev)
  | whole (d : Dev) (b : Bytes)
  | fails (d : Dev) (cause : Nat)

/-- A fetch for a granule under the OXM in force: the highest missing node of its path, which is stored, or the granule (R155, R156, R160, R161,
R163). -/
def fetch (d : Dev) (n what g : Nat) (b : Bytes) : Fetched :=
  let ps := ((d.comp n).oxm.map Oxm.parts).getD []
  let lim := d.bgLimit (n / 2) 2048
  match d.nextNode n ps g with
  | some (p, lvl, j) =>
    match d.gather n what (nodeAddr p lvl j) 768 lim false b with
    | (none, d1) => .more d1
    | (some x, d1) =>
      let r := d1.nodeArrives n p lvl j x
      if r.1 then .more r.2 else .fails r.2 1
  | none => match partOf ps g with
    | none => .fails d 0
    | some p =>
      match d.gather n what (2048 * g) 2048 lim false b with
      | (none, d1) => .more d1
      | (some x, d1) =>
        let r := d1.granuleArrives n p g x
        if r.1 then .whole r.2 x else .fails r.2 0

/-- A pinned granule or a node on its path that was fetched fails (R155, R161). -/
def pinFails (d : Dev) (n g cause action : Nat) : Dev := d.checkFails n ⟨cause, g, 0, d.frame⟩ action

/-- SP_STATUS.PIN_BUSY: pin fetches are in progress for some component (Table 05-6). -/
def showPinning (d : Dev) (n : Nat) (busy : Bool) : Dev :=
  let d1 := d.setGc n { d.gc n with pinning := busy }
  d1.wr SP_STATUS_PIN_BUSY (flag (d1.gcs.any fun e => e.2.pinning))

/-- A pin fetch completes the pinned set, or more is to come (Table 05-6). -/
def pinProgress (d : Dev) (n : Nat) : Dev :=
  if (d.unpinned n).isNone then ((d.showPinning n false).raise SP_EVT_PIN_DONE).verifyEnds n else d.showPinning n true

/-- A pin fetch for the first granule that is still to be pinned (R138, R156, R160, R161). -/
def pinFetch (d : Dev) (n : Nat) (b : Bytes) : Dev :=
  match d.unpinned n with
  | none => d
  | some g => match d.fetch n 1 g b with
    | .more d1 => (d1.showPinning n true).move4 n (d.took n b)
    | .whole d1 x => ((d1.pin n g x).pinProgress n).move4 n (d.took n b)
    | .fails d1 cause => ((d1.showPinning n false).move4 n (d.took n b)).pinFails n g cause 0

/-- ACTION of the region of a granule. -/
def actionOf (d : Dev) (n g : Nat) : Nat := (((d.gc n).entry.bind fun c => c.region (2048 * g)).map fun r => r.2.action).getD 0

/-- A granule in REFETCH is fetched again: PINNED, or ABSENT with a check failure under its region's ACTION (R155). -/
def refetch (d : Dev) (n g : Nat) (b : Bytes) : Dev :=
  if d.gstate n g ≠ some .refetch then d
  else match d.fetch n 2 g b with
    | .more d1 => d1.move4 n (d.took n b)
    | .whole d1 x => ((d1.pin n g x).move4 n (d.took n b)).verifyEnds n
    | .fails d1 cause =>
      ((d1.freeFrames fun f => f.gc = n && f.granule = g).move4 n (d.took n b)).pinFails n g cause (d.actionOf n g)

/-- Granule g may be prefetched: one of the four after the last read, ABSENT, of the same class, STREAMED or OPEN (R163). -/
def mayPrefetch (d : Dev) (n g : Nat) : Bool :=
  match (d.gc n).lastGranule with
  | some l =>
    let k := d.classAt n (2048 * g)
    decide (l + 1 ≤ g ∧ g ≤ l + 4) && decide (2048 * (g + 1) ≤ 2 ^ d.rd (UP_CFG_DENSITY_LOG2 (n / 2) (n % 2)))
      && k = d.classAt n (2048 * l) && (k = 1 || k = 2) && (d.gstate n g).isNone && !d.snow.noPrefetch.contains (n, g)
      && d.rd MON_GOV_STEP = 0
  | none => false

/-- Prefetch has work on chip select n. -/
def work5 (d : Dev) (n : Nat) : Bool :=
  d.state n = .released && match (d.gc n).lastGranule with
    | some l => (List.range' (l + 1) 4).any (d.mayPrefetch n)
    | none => false

/-- A prefetched granule is placed in the stream buffer (R163, Table 05-6). -/
def bufferGranule (d : Dev) (n g : Nat) (b : Bytes) (verified : Bool) : Dev :=
  ((d.putFrame n g .buffered (asFrame b) verified).inc PREFETCH_CNT).tally 274 1

/-- A prefetched node or granule arrives: buffered when verified or OPEN; what fails is dropped in silence (R163). -/
def prefetch (d : Dev) (n g : Nat) (b : Bytes) : Dev :=
  if d.classAt n (2048 * g) = 2 then
    match d.gather n 3 (2048 * g) 2048 (d.bgLimit (n / 2) 2048) false b with
    | (some x, d1) => d1.bufferGranule n g x false
    | (none, d1) => d1
  else match d.fetch n 3 g b with
    | .more d1 => d1
    | .whole d1 x => d1.bufferGranule n g x true
    | .fails d1 _ => { d1 with snow := { d1.snow with noPrefetch := (n, g) :: d1.snow.noPrefetch } }

/-! ## The golden audit (R192) -/

/-- The parts of a golden image as the streams of thaw pass 1 and of the audit take them: each in full, under part keys of
their own, so that the golden tree's nodes stand beside those of the tree in force. -/
def goldenParts (ps : List Part) : List (Bool × Part) := ps.map fun p => (true, { p with base := p.base + 2 ^ 32 })

/-- The golden audit of a component may run (R192, R175). -/
def auditDue (d : Dev) (n : Nat) : Bool :=
  d.started && d.up && d.rd (COMP_STATUS_GOLDEN n) = 1 && d.rd MON_GOV_STEP = 0
    && !(allGcs.any fun m => d.state m = .verifying)
    && !(allGcs.any fun m => m / 2 ≠ n / 2 && (d.gc m).audit)
    && (d.gc n).stream.isNone && (d.gc n).thaw.isNone && (d.gc n).write.isNone

/-- The golden audit starts, or ends with its finding (R192). -/
def audit (d : Dev) (n : Nat) : Dev :=
  let g := d.gc n
  match g.stream, g.audit with
  | some s, true =>
    if s.parts ≠ [] then d
    else (d.setGc n { g with stream := none, audit := false }).setGolden n (if s.failed then 3 else 2)
  | _, _ =>
    if !d.auditDue n then d
    else match (d.comp n).golden with
      | none => d.setGolden n 0
      | some o =>
        if !d.slotIntact o.slot then d.setGolden n 4
        else
          let d1 := d.startStream n .golden (goldenParts o.parts)
          d1.setGc n { d1.gc n with audit := true }

/-! ## Training and calibration of the bus (R106 to R108) -/

/-- Byte k of the calibration page in use (R447). -/
def calByte (d : Dev) (k : Nat) : Nat := d.rd (CAL_PAGE (k / 8)) / 2 ^ (8 * (k % 8)) % 256

/-- The calibration page is not used (R448). -/
def calDefault (d : Dev) : Bool := d.rd CAL_STATUS_SRC = 2

/-- The longest run of consecutive taps in a set: its first tap and its length; of two that are equally long, the lower (DESIGN CHOICE, log
entry 85: R106 does not say which). -/
def longestRun (taps : List Nat) : Nat × Nat :=
  ((List.range 64).foldl (fun (r : (Nat × Nat) × (Nat × Nat)) i =>
    if taps.contains i then
      let cur := if r.2.2 = 0 then (i, 1) else (r.2.1, r.2.2 + 1)
      (if r.1.2 < cur.2 then cur else r.1, cur)
    else (r.1, (0, 0))) ((0, 0), (0, 0))).1

/-- A training of a chip select ends with the taps that passed (R106, R107); without any, the tap comes from the calibration
page, or is mid-range when the page is not used (R448, DEDUCED: tap 32, log entry 13), and WIN_LO and WIN_HI stay (DESIGN CHOICE, log entry 88). -/
def trained (d : Dev) (p : Fin 48) (c : Nat) (taps : List Nat) : Dev :=
  let r := longestRun taps
  let src : Source := .cell (.pp p)
  let x := d.pair p
  let d0 := d.setPair p (if c = 0 then { x with trainTj0 := d.rd MON_TJ, sweep := none } else { x with trainTj1 := d.rd MON_TJ, sweep := none })
  if r.2 = 0 then
    let tap := if d.calDefault then 32 else d.calByte (0xC8 + 2 * p.val + c)
    (d0.wr (DQS_TRIM_TAP p c) tap |>.wr (DQS_TRIM_SRC p c) 1 |>.raise (PP_EVT_DQS_FAIL p)).post .portDqsFail src c
  else
    let d1 := d0.wr (DQS_TRIM_TAP p c) (r.1 + (r.2 - 1) / 2) |>.wr (DQS_TRIM_WIN_LO p c) r.1
      |>.wr (DQS_TRIM_WIN_HI p c) (r.1 + r.2 - 1) |>.wr (DQS_TRIM_SRC p c) 0
    if r.2 < 12 then (d1.raise (PP_EVT_DQS_NARROW p)).post .portDqsNarrow src (c + 256 * r.2) else d1

/-- A 16-bit register as a signed number. -/
def signed16 (v : Nat) : Int := if 2 ^ 15 ≤ v then (v : Int) - 2 ^ 16 else v

/-- Tj has moved by more than 20 degrees since the last training of a chip select (R107), in units of 0.25 degrees. -/
def trainDue (d : Dev) (p c : Nat) : Bool :=
  let t := if c = 0 then (d.pair p).trainTj0 else (d.pair p).trainTj1
  decide (80 < (signed16 (d.rd MON_TJ) - signed16 t).natAbs)

end Dev

namespace Dev

/-- One chip select at the start of its downstream engine: reset, training, ID and SFDP reads (R104, R106, R86); its emulated SFDP image is built
when none has been since the policy was loaded (R87). -/
def dnStartCs (d : Dev) (p : Fin 48) (c : Nat) (taps : List Nat) (id sfdp : Bytes) : Dev :=
  let n := 2 * p.val + c
  let d1 := (d.resetFlash n).trained p c taps
  let d2 := d1.setGc n { d1.gc n with idBytes := id.take 6, sfdpRaw := sfdp }
  if (d2.gc n).sfdp = [] then d2.buildSfdp n else d2

/-- The firmware's part of a downstream engine's start sequence (R469), with the pads' codes from the calibration page (R108), or mid-range where the
page is not used (R448; DEDUCED: 8, log entry 13). -/
def dnStart (d : Dev) (p : Fin 48) (x : StartIn) : Dev :=
  let d0 := d.setPair p { d.pair p with rstN0 := x.rstN0, rstN1 := x.rstN1 }
  let pad := d0.calByte (0x128 + p.val)
  let d1 := if d0.calDefault then (d0.wr (PAD_CAL_DRIVE p) 8).wr (PAD_CAL_ODT p) 8 else (d0.wr (PAD_CAL_DRIVE p) (pad % 16)).wr (PAD_CAL_ODT p) (pad / 16)
  let d2 := if d1.on (PP_CFG_CS_USED0 p) then d1.dnStartCs p 0 x.taps0 x.id0 x.sfdp0 else d1
  if d2.on (PP_CFG_CS_USED1 p) then d2.dnStartCs p 1 x.taps1 x.id1 x.sfdp1 else d2

/-- Sixteen disagreements within the present window (R142). -/
def disagreeDue (d : Dev) (p : Nat) : Bool :=
  let x := d.pair p
  x.window = d.frame / 500000 && decide (16 ≤ x.disagree) && !d.on (WB_STATUS_HOLD p)

/-- DISAGREE_HOLD of the policy in force (R142). -/
def disagreeHold (d : Dev) : Bool := bit (parsePolicy d.pol.bytes).flags 1

end Dev

/-! ## Meanings -/

/-- A status poll finds a program or erase complete (R85, R103). -/
def execDownstreamOpComplete (n : Fin 96) (failed : Bool) (s : State) : Result :=
  act s fun d => match (d.gc n).op with
    | some o => if d.dnUp n && decide (o.frame < d.frame ∧ d.frame ≤ o.frame + d.opLimit n o) then d.opDone n o failed else d
    | none => d

/-- The poll at the limit finds the flash busy (R103). -/
def execDnTimeout (n : Fin 96) (s : State) : Result :=
  act s fun d => match (d.gc n).op with
    | some o => if d.dnUp n && decide (o.frame + d.opLimit n o ≤ d.frame) then d.opTimeout n o else d
    | none => d

/-- A completion fetch brings what the oldest entry that needs one misses (R165), before the test that ends its horizon (R166). -/
def execCompletionFetch (n : Fin 96) (e : Fin 32) (b : Bytes) (s : State) : Result :=
  act s fun d => match d.pendAt n e with
    | some x => if d.readable n && d.nextEntry n = some x && decide (d.frame ≤ x.born + x.horizon) then d.completionFetch x b else d
    | none => d

/-- A completed frame is checked, before the test that ends its horizon (R165, R166). -/
def execCheckResult (n : Fin 96) (e : Fin 32) (s : State) : Result :=
  act s fun d => match d.pendAt n e with
    | some x => if d.busUp n && decide (d.frame ≤ x.born + x.horizon) then d.checkResult x else d
    | none => d

/-- An entry that is still open at the slot-27 test of frame F + H expires (R166). -/
def execHorizonExpiry (n : Fin 96) (e : Fin 32) (s : State) : Result :=
  act s fun d => match d.pendAt n e with
    | some x => if decide (x.born + x.horizon ≤ d.frame) then d.failEntry x 3 (d.frame - x.born) else d
    | none => d

/-- RELEASE falls at the first tick after a failure at which U_CS_N is high, and at the second in any case (R169). -/
def execContainmentReleaseFall (n : Fin 96) (csHigh : Bool) (s : State) : Result :=
  act s fun d => match (d.gc n).fails with
    | x :: _ =>
      if d.state n = .released && !d.frozen && decide (x.frame < d.frame) && (csHigh || decide (x.frame + 2 ≤ d.frame)) then d.contain n
      else d
    | [] => d

/-- The firmware takes up step 5 of a containment (R169, R194). -/
def execContainedThawRequest (n : Fin 96) (s : State) : Result :=
  act s fun d => if d.up && d.state n = .contained && (d.comp n).thawDue then d.thawRequest n else d

/-- A transaction of a verification stream, when the bus is granted to it (R99, R157, R185): at priority 4, or for the golden audit at priority 5, which
thermal step 1 stops (R192). -/
def execVerifyStreamRead (n : Fin 96) (b : Bytes) (s : State) : Result :=
  act s fun d =>
    if !d.up || !d.readable n then d
    else if (d.gc n).audit then (if d.granted5 (n.val / 2) && d.rd MON_GOV_STEP = 0 then d.streamRead n b else d)
    else if d.granted4 n && d.work4 n then (d.streamRead n b).move4 n (d.took n b) else d

/-- A pin fetch arrives (R138, R156, R160). -/
def execPinFetch (n : Fin 96) (b : Bytes) (s : State) : Result :=
  act s fun d => if d.up && d.readable n && d.pinsWanted n && (d.gc n).fails = [] && d.granted4 n then d.pinFetch n b else d

/-- A pinned granule lost to ECC is fetched again (R155). -/
def execRefetch (n : Fin 96) (g : Fin 131072) (b : Bytes) (s : State) : Result :=
  act s fun d => if d.readable n && (d.gc n).fails = [] && d.granted4 n then d.refetch n g b else d

/-- A prefetch completes (R163). -/
def execPrefetchComplete (n : Fin 96) (g : Fin 131072) (b : Bytes) (s : State) : Result :=
  act s fun d => if d.readable n && d.state n = .released && d.mayPrefetch n g && d.granted5 (n.val / 2) then d.prefetch n g b else d

/-- The golden audit of a component starts or ends (R192). -/
def execGoldenAudit (n : Fin 96) (s : State) : Result := act s fun d => d.audit n

/-- One tap of a retraining is tested in an idle gap, at priority 6 (R99, R107). -/
def execDqsRetrain (p : Fin 48) (c : Fin 2) (pass : Bool) (s : State) : Result :=
  act s fun d =>
    let x := d.pair p
    let used := d.on (if c.val = 0 then PP_CFG_CS_USED0 p else PP_CFG_CS_USED1 p)
    let start := match x.sweep with
      | some w => if w.1 = c.val then some w else none
      | none => if d.trainDue p c && used then some (c.val, 0, []) else none
    match start with
    | none => d
    | some (_, i, ok) =>
      let n := 2 * p.val + c.val
      if !d.dnUp ⟨n, by omega⟩ || (d.gc n).op.isSome || !d.granted5 p || (gcsOf p).any d.work5 then d
      else
        let ok1 := if pass then ok ++ [i] else ok
        if i = 63 then d.trained p c ok1 else d.setPair p { x with sweep := some (c.val, i + 1, ok1) }

/-- Every second the impedance code of a pair is recalibrated; it takes effect when all chip selects are high (R108). -/
def execZqRecalibration (p : Fin 48) (code : Byte) (idle : Bool) (s : State) : Result :=
  act s fun d =>
    let x := d.pair p
    let x1 := if x.zqAt + 500000 ≤ d.frame then { x with zqAt := d.frame, zqNext := some code.toNat } else x
    match x1.zqNext, idle with
    | some v, true => (d.setPair p { x1 with zqNext := none }).wr (PAD_CAL_ZQ_CODE p) v
    | _, _ => d.setPair p x1

/-- Sixteen disagreements in one window hold both components of the pair (R142). -/
def execDisagreeHold (p : Fin 48) (s : State) : Result :=
  act s fun d =>
    if d.disagreeHold && d.disagreeDue p then
      (gcsOf p).foldl (fun d n => d.setHold n .disagree) (d.raise (WB_STATUS_HOLD p))
    else d

end Sys2Proof.Machine
end

