-- ==== Sys2Proof/Machine/Components.lean ====
section
/-! DEFINITION. Components: the start tick, release, thaw, revocation, and the component commands (06_hold_release_thaw.md
R178 to R205). -/

namespace Sys2Proof.Machine

open Reg

/-! ## Spaces, units and trees -/

/-- Golden OXM place of a component in HOME (R191, 10 Table 10-2). -/
def goldenPlace (n : Nat) : Nat := 0x1900000 + 0x8000 * n

/-- Every primary and golden region begins and ends on a 4 KiB boundary (R192). -/
def CompRec.aligned4k (c : CompRec) : Bool :=
  c.regions.all fun r => (r.role ≠ 1 && r.role ≠ 2) || (r.base % 4096 = 0 && (r.limit + 1) % 4096 = 0)

/-- The component has golden regions (R192). -/
def CompRec.hasGolden (c : CompRec) : Bool := c.regions.any fun r => r.role = 2

/-- An address range lies wholly inside regions of a role. -/
def CompRec.inRole (c : CompRec) (role a n : Nat) : Bool := insideRegions c (fun r => r.role = role) a n

/-- Erase units of a space (R196): 64 KiB blocks wholly inside its regions when the flash declares that erase, and every
other 4 KiB sector on its own. -/
def CompRec.units (c : CompRec) (role : Nat) (erase64 : Bool) : List (Nat × Nat) :=
  (List.range (2 ^ c.densityLog2 / 65536)).flatMap fun b =>
    if erase64 && c.inRole role (65536 * b) 65536 then [(65536 * b, 65536)]
    else ((List.range 16).filter fun k => c.inRole role (65536 * b + 4096 * k) 4096).map fun k => (65536 * b + 4096 * k, 4096)

/-- Two ranges share a 4 KiB sector. -/
def shareSector (a n b m : Nat) : Bool :=
  n ≠ 0 && m ≠ 0 && overlap (a / 4096) ((a + n - 1) / 4096 - a / 4096 + 1) (b / 4096) ((b + m - 1) / 4096 - b / 4096 + 1)

/-- No tree shares a 4 KiB sector with a region of a role (R195, Table 06-7). -/
def treesClear (c : CompRec) (role : Nat) (ps : List Part) : Bool :=
  ps.all fun p => c.regions.all fun r => r.role ≠ role || !shareSector p.treeAddr p.treeLen r.base (r.limit + 1 - r.base)

/-- Trees of two OXMs share no 4 KiB sector (Table 06-7, step 6). -/
def treesApart (ps qs : List Part) : Bool :=
  ps.all fun p => qs.all fun q => !shareSector p.treeAddr p.treeLen q.treeAddr q.treeLen

/-- One level of a tree: the nodes over a list of digests (R147). -/
def treeLevel : Nat → List Bytes → List Bytes
  | 0, _ => []
  | k + 1, ds => if ds = [] then [] else padTo 768 (ds.take 16).flatten :: treeLevel k (ds.drop 16)

/-- The nodes of a tree, level 1 first (R147, R148). -/
def treeNodes : Nat → List Bytes → List Bytes
  | 0, _ => []
  | k + 1, ds =>
    let l := treeLevel (ds.length + 1) ds
    if l.length ≤ 1 then l else l ++ treeNodes k (l.map sha384b)

/-- The nodes of the tree over a part's bytes (R147). -/
def buildTree (b : Bytes) : List Bytes :=
  treeNodes 8 ((List.range (b.length / 2048)).map fun i => sha384b ((b.drop (2048 * i)).take 2048))

/-- The root of a part's bytes. -/
def buildRoot (b : Bytes) : Bytes := ((buildTree b).getLast?.map sha384b).getD []

/-- The bytes of a part within the delivered bytes of a space. -/
def partBytes (c : CompRec) (p : Part) (image : Bytes) : Bytes := (image.drop (c.spaceOffset p.base)).take p.len

/-! ## Writes of the device (Table 06-5, R204) -/

/-- Programs of a range in pages of `pg` bytes. -/
def pages (pg a : Nat) (b : Bytes) : List WStep :=
  (List.range ((b.length + pg - 1) / pg)).map fun i => .program (a + pg * i) ((b.drop (pg * i)).take pg)

/-- 4 KiB sectors that n bytes from a touch. -/
def sectorsOf (a n : Nat) : Nat := (a % 4096 + n + 4095) / 4096

/-- Bytes with others laid over them from an offset. -/
def overlay (old : Bytes) (at_ : Nat) (b : Bytes) : Bytes := padTo at_ (old.take at_) ++ b ++ old.drop (at_ + b.length)

/-- Writes of k sectors from a: each that differs is erased and programmed. -/
def sectorWrites (pg a k : Nat) (old new : Bytes) : List WStep :=
  (List.range k).flatMap fun i =>
    let x := slice old (4096 * i) 4096
    let y := slice new (4096 * i) 4096
    if x = y then [] else .erase (a + 4096 * i) 4096 :: pages pg (a + 4096 * i) y

namespace State

/-- The OXM at OXM_LOC (R314): in the primary OXM store of HOME when bit 31 is set, else the bytes read from the flash; whether
it is placed as R314 asks. -/
def oxmAt (s : State) (c : CompRec) (flash : Bytes) : Bool × Bytes :=
  if bit c.oxmLoc 31 then
    let a := c.oxmLoc % 2 ^ 31
    if 0x1600000 ≤ a ∧ a + c.oxmLen ≤ 0x1900000 then (true, s.homeRead a c.oxmLen) else (false, [])
  else (true, flash.take c.oxmLen)

/-- Store an OXM at OXM_LOC, unless the bytes there already equal it (R195, R204): HOME is written at once, the component's flash by the sectors
that change; `old` holds the sectors of the flash from the one in which OXM_LOC lies. -/
def storeOxm (s : State) (c : CompRec) (raw old : Bytes) : List WStep × State :=
  if bit c.oxmLoc 31 then
    let a := c.oxmLoc % 2 ^ 31
    ([], if s.homeRead a raw.length = raw then s else s.homeStore a raw.length raw)
  else (sectorWrites (2 ^ c.pageLog2) (c.oxmLoc / 4096 * 4096) (sectorsOf c.oxmLoc raw.length) old (overlay old (c.oxmLoc % 4096) raw), s)

/-- The golden OXM of a component as HOME holds it: none when its place reads erased (R191). -/
def goldenOxm (s : State) (n : Nat) : Option Bytes :=
  if s.homeRead (goldenPlace n) 4 = [0xFF, 0xFF, 0xFF, 0xFF] then none
  else some (s.homeRead (goldenPlace n) (min (leNat (s.homeRead (goldenPlace n + 8) 4)) 32769))

/-- A golden OXM under Table 10-7: its length at most 32,768, KIND 1, and the checks in the primary space (R191, R195). -/
def goldenCheck (d : Dev) (c : CompRec) (n : Nat) (b : Bytes) : Option Status :=
  if !oxmFormatOk b then some .oxmInvalid
  else if 32768 < b.length then some .lengthMismatch
  else match d.compOxmCheck c n [1] b with
    | some st => some st
    | none => if (parseOxm b).parts.all (fun p => c.inRole 1 p.base p.len) then none else some .oxmInvalid

/-- COMP_STATUS.GOLDEN as found under an entry (R191, R192), with the golden OXM's SVN and slot; `home` is the golden OXM in HOME. -/
def findGolden (d : Dev) (n : Nat) (c : CompRec) (home : Option Bytes) : Dev :=
  if !c.hasGolden || !c.aligned4k then (d.setComp n { d.comp n with golden := none }).setGolden n 0
  else match home with
    | none => (d.setComp n { d.comp n with golden := none }).setGolden n 0
    | some b =>
      let o := parseOxm b
      let d1 := (d.wr (COMP_OXM_GOLDEN_SVN n) o.svn).wr (COMP_OXM_GOLDEN_SLOT n) o.slot
      let d2 := (d1.setComp n { d1.comp n with golden := some o }).sawOxm b
      match goldenCheck d c n b with
      | none => d2.setGolden n 1
      | some .keyRevoked => d2.setGolden n 4
      | some _ => d2.setGolden n 3

/-- An authenticated copy of a record the firmware keeps in HOME (R193): the record, then its HMAC under a device key (the form
of the copy is the model's, log entry 14). -/
def authCopy (b : Bytes) : Bytes := b ++ hmac 1 Config.deviceKey b

/-- Both copies of the SVN floors in HOME (R193). -/
def saveFloors (s : State) : State :=
  let b := authCopy ((List.range 96).map fun n => BitVec.ofNat 8 (s.dev.rd (COMP_OXM_FLOOR n)))
  (s.homeStore 0x1320000 0x8000 b).homeStore 0x1328000 0x8000 b

end State

namespace Dev

/-! ## Release (R178, R181, R201) -/

/-- A component becomes RELEASED at a tick (R178); a forced one whatever READY and the hold reasons (R201); none while its primary space is being
written (R203), nor while the Crypto complex is not READY (R230, R244). -/
def mayRelease (d : Dev) (n : Nat) : Bool :=
  d.awake && d.pairState = .owning && !d.frozen && !d.verifyPaused && d.rd CR_STATE = CrState.ready.code
    && !((d.gc n).write.any fun w => !w.golden) &&
    ((d.state n = .held && d.on (COMP_STATUS_READY n) && d.pinsComplete n && d.rd (COMP_STATUS_HOLD n) = 0)
      || ((d.comp n).forceDue && (d.state n = .held || d.state n = .quarantined)))

/-- RELEASE rises (R178, R201). -/
def release (d : Dev) (n : Nat) : Dev :=
  let x := d.comp n
  if x.forceDue then
    ((d.setComp n { x with forceDue := false }).raiseRelease n |>.raise (COMP_STATUS_FORCED n)).post .compForced (.comp n) 0
  else d.raiseRelease n

/-! ## Thaw (R195 to R198) -/

/-- A pass of a thaw fails (R195, R197). -/
def thawFails (d : Dev) (n pass : Nat) (s : Status) (golden : Option Nat) : Dev :=
  let d1 := match golden with
    | some g => d.setGolden n g
    | none => d
  (d1.wr (COMP_THAW_LAST_RESULT n) s.code).quarantine n pass s

/-- The thaw moves to a pass. -/
def toPass (d : Dev) (n k : Nat) : Dev :=
  (d.wr (COMP_THAW_PASS n) k).setGc n { d.gc n with thaw := some { pass := k } }

/-- A read of the device's own, in transactions of at most a burst where one is asked for (R101). -/
def readOut (d : Dev) (n a len : Nat) : Dev :=
  let lim := d.bgLimit (n / 2) 2048
  ((List.range ((len + lim - 1) / lim)).foldl (fun d i => d.dnEmit n (d.rd (DN_CFG_READ_OPC (n / 2))) (a + lim * i) []) d).move4 n len

/-- Nodes of the golden tree that the store no longer holds are fetched again and verified (R154, R195): whether each passes. -/
def takeNodes (n : Nat) (ps : List Part) (gs : List Nat) (d : Dev) (nodes : List Bytes) : Bool × Dev :=
  nodes.foldl (fun r b =>
    match gs.findSome? fun g => r.2.nextNode n ps g with
    | some (p, lvl, j) =>
      let x := (r.2.readOut n (nodeAddr p lvl j) 768).nodeArrives n p lvl j b
      (r.1 && x.1, x.2)
    | none => r) (true, d)

/-- A granule of the primary or golden space is compared with its slot in the golden tree; one that no part covers passes when it equals the golden
copy (DESIGN CHOICE, log entry 97). -/
def goldenPass (d : Dev) (n : Nat) (ps : List Part) (g : Nat) (b golden : Bytes) : Bool × Dev :=
  match partOf ps (g + 2 ^ 21) with
  | some p => d.granuleArrives n p (g + 2 ^ 21) b
  | none => (b = golden, d)

/-- The steps of one erase unit of pass 2 (Table 06-5, R196), whether a golden granule fails, and the device after its reads; none while a
node of its path is still to be fetched. -/
def planUnit (d : Dev) (n : Nat) (c : CompRec) (ps : List Part) (u : Nat × Nat) (x : UnitIn) : Option (List WStep × Bool × Dev) :=
  let gs := List.range' (u.1 / 2048) (u.2 / 2048)
  let part := fun (b : Bytes) (g : Nat) => slice b (2048 * g - u.1) 2048
  let r := takeNodes n ps (gs.map (· + 2 ^ 21)) (d.readOut n u.1 u.2) x.nodes
  if !r.1 then some ([.bad], true, r.2)
  else if gs.any fun g => (r.2.nextNode n ps (g + 2 ^ 21)).isSome then none
  else
    let p := gs.foldl (fun (a : Bool × Dev) g =>
      let y := a.2.goldenPass n ps g (part x.primary g) (part x.golden g)
      (a.1 && y.1, y.2)) (true, r.2)
    if p.1 then some ([.unit false], false, p.2)
    else
      let w := gs.foldl (fun (a : List WStep × Bool × Dev) g =>
        if a.2.1 then a
        else
          let y := (a.2.2.readOut n (c.goldenAddr (2048 * g)) 2048).goldenPass n ps g (part x.golden g) (part x.golden g)
          if y.1 then (a.1 ++ pages (2 ^ c.pageLog2) (2048 * g) (part x.golden g), false, y.2) else (a.1 ++ [.bad], true, y.2))
        ([.erase u.1 u.2], false, p.2)
      some (if w.2.1 then w.1 else w.1 ++ [.unit true], w.2.1, w.2.2)

/-- The steps of pass 2 over the units in ascending order, to the first golden granule that fails (Table 06-5). -/
def planUnits (n : Nat) (c : CompRec) (ps : List Part) : List ((Nat × Nat) × UnitIn) → Dev → Option (List WStep × Dev)
  | [], d => some ([], d)
  | (u, x) :: r, d => match d.planUnit n c ps u x with
    | none => none
    | some (w, bad, d1) =>
      if bad then some (w, d1)
      else (planUnits n c ps r d1).map fun t => (w ++ t.1, t.2)

/-- The device's own writes begin: each step in its turn, the first write at once (R103, Table 06-5, R204). -/
def startWrites (d : Dev) (n : Nat) (w : List WStep) : Dev := runWrites n true w (d.writesEnd n none true)

/-- A new golden OXM comes into force in pass 3, and the required set is streamed (Table 06-5). -/
def startPass3 (d : Dev) (n : Nat) (b : Bytes) : Dev :=
  let d1 := (((d.setOxm n b).showPins).toPass n 3)
  d1.startStream n .thaw3 (requiredParts (parseOxm b).parts)

/-- The writes of pass 2 have ended (Table 06-5). -/
def endPass2 (d : Dev) (n : Nat) : Dev :=
  match (d.gc n).thaw, (d.comp n).golden with
  | some t, some o =>
    if (d.gc n).op.isSome then d
    else match t.writes.fault with
      | some st => d.thawFails n 2 st (if st = .authFail then some 3 else none)
      | none => d.startPass3 n o.raw
  | _, _ => d

/-- The golden OXM has been stored and pass 3 has ended (R195, R197). -/
def endPass3 (d : Dev) (n : Nat) (stored : Bool) : Dev :=
  match (d.gc n).thaw with
  | some t =>
    if (d.gc n).op.isSome then d
    else if t.writes.fault.isSome || !stored then d.thawFails n 3 .flashWrite none
    else
      let d1 := ((d.becomeReady n).wr (COMP_THAW_LAST_RESULT n) 0).compStatus n .ok
      let u := d1.rd (COMP_THAW_UNITS_WRITTEN n)
      (d1.compEvent n COMP_EVT_THAW_DONE true .compThawDone u).post .compThawDone (.comp n) u
  | none => d

end Dev

/-- A pass of a thaw goes on or ends (R195 to R197): `units` are what pass 2 reads, `erase64` says that the flash declares a 64 KiB erase,
`flash` holds the sectors of OXM_LOC, `stored` says that an OXM written to HOME reads back. Passes 2 and 3 write, and end once their last
write has. -/
def thawPassEnd (s : State) (n : Nat) (units : List UnitIn) (erase64 : Bool) (flash : Bytes) (stored : Bool) : State :=
  let d := s.dev
  match (d.gc n).thaw, (d.gc n).entry with
  | some t, some c =>
    match t.pass with
    | 0 => match s.goldenOxm n with
      | none => { s with dev := d.thawFails n 0 .noGolden (some 0) }
      | some b =>
        let d := d.sawOxm b
        match State.goldenCheck d c n b with
        | some .keyRevoked => { s with dev := d.thawFails n 0 .keyRevoked (some 4) }
        | some st => { s with dev := d.thawFails n 0 st (some 3) }
        | none =>
          let ps := (parseOxm b).parts
          if !treesClear c 1 ps then { s with dev := d.thawFails n 0 .oxmInvalid (some 3) }
          else if 8192 < d.pinTotal n ps then { s with dev := d.thawFails n 0 .pinQuota (some 3) }
          else
            let d1 := (d.setComp n { d.comp n with golden := some (parseOxm b) }).toPass n 1
            { s with dev := d1.startStream n .golden (Dev.goldenParts ps) }
    | 1 => match (d.gc n).stream with
      | some x =>
        if x.parts ≠ [] then s
        else if x.failed then { s with dev := d.thawFails n 1 .authFail (some 3) }
        else { s with dev := (((d.setGc n { d.gc n with stream := none }).setGolden n 2).toPass n 2).resetFlash n }
      | none => s
    | 2 =>
      if t.writes.planned then { s with dev := d.endPass2 n }
      else
        let us := c.units 1 erase64
        if us.length ≠ units.length then s
        else match Dev.planUnits n c ((Dev.goldenParts (((d.comp n).golden.map Oxm.parts).getD [])).map Prod.snd) (us.zip units) d with
          | some (w, d1) => { s with dev := (d1.startWrites n w).endPass2 n }
          | none => s
    | _ => match (d.gc n).stream, (d.comp n).golden with
      | some x, some o =>
        if t.writes.planned then { s with dev := d.endPass3 n stored }
        else if x.parts ≠ [] then s
        else if x.failed then { s with dev := d.thawFails n 3 .authFail none }
        else if !d.pinsComplete n then s
        else
          let r := s.storeOxm c o.raw flash
          { r.2 with dev := (r.2.dev.startWrites n r.1).endPass3 n stored }
      | _, _ => s
  | _, _ => s

namespace Dev

/-! ## Revocation (R199) -/

/-- What the examination finds for one component after slot k was revoked (R199). -/
def examine (d : Dev) (n k : Nat) : Dev :=
  let underGolden := (d.comp n).golden.any fun o => o.slot = k
  let under := (d.comp n).oxm.any fun o => o.slot = k
  if d.state n = .thawing && underGolden then
    if (d.gc n).op.isSome then d
    else ((d.setComp n { d.comp n with revoked := none }).wr (COMP_THAW_LAST_RESULT n) Status.keyRevoked.code |>.setGolden n 4).quarantine n
      (d.rd (COMP_THAW_PASS n)) .keyRevoked
  else
    let d0 := d.setComp n { d.comp n with revoked := none }
    let d1 := if underGolden then d0.setGolden n 4 else d0
    if !under then d1
    else match d1.state n with
      | .released =>
        (((d1.raise (COMP_STATUS_KEY_STALE n)).compEvent n COMP_EVT_KEY_STALE true .compKeyStale k).post .compKeyStale (.comp n) k)
      | .held | .verifying | .quarantined =>
        ((d1.clear (COMP_STATUS_READY n)).setGc n { d1.gc n with stream := none }).thawRequest n
      | _ => d1

/-! ## Commands (R202) -/

/-- A command on a component: NOT_OWNER off the ports (R413); one refused for the component's state changes nothing (R202); LAST_STATUS takes
the command's status before what its effect finds (Table 06-9). -/
def compBody (n : Nat) (f : Dev → Status × Dev) (d : Dev) : Ans × Dev :=
  if !d.ownsPorts then (ans .notOwner, d)
  else
    let r := f (d.compStatus n .ok)
    (ans r.1, if r.1 = .componentState then d else if r.1 = .ok then r.2 else r.2.compStatus n r.1)

/-- BIST shows FAIL for a cell of the component (R406). -/
def bistFailed (d : Dev) (n : Fin 96) : Bool :=
  [Cell.pp ⟨n.val / 2, by omega⟩, .guard, .sp].any fun c => d.rd (CELL_BIST_RESULT c.offset) = 2

/-- HELD or QUARANTINED. -/
def atRest (d : Dev) (n : Nat) : Bool := d.state n = .held || d.state n = .quarantined

/-- Checks 1 to 8 of Table 06-7 on an image write. -/
def imageWriteCheck (d : Dev) (n : Nat) (golden : Bool) (count : Nat) (oxm image : Bytes) : Option Status :=
  match (d.gc n).entry with
  | none => some .componentState
  | some c =>
    let o := parseOxm oxm
    let g := d.comp n
    let role := if golden then 2 else 1
    let room := ((c.regions.filter fun r => r.role = role).map fun r => r.limit + 1 - r.base).sum
    if (!golden && !d.atRest n) || d.state n = .thawing || (d.gc n).write.isSome then some .componentState
    else if !c.aligned4k then some .alignment
    else match d.compOxmCheck c n [if golden then 1 else 0] oxm with
      | some st => some st
      | none =>
        if !o.parts.all (fun p => c.inRole 1 p.base p.len) then some .oxmInvalid
        else if !treesApart o.parts ((g.oxm.map Oxm.parts).getD []) || !treesApart o.parts ((g.golden.map Oxm.parts).getD [])
            || !treesClear c role o.parts then some .oxmInvalid
        else if 8192 < d.pinTotal n o.parts then some .pinQuota
        else if count ≠ room ∨ count < image.length then some .lengthMismatch
        else none

end Dev

/-- An image write is taken up (R203, R204 step 1); it is answered when it ends. -/
def imageWriteStart (s : State) (n : Nat) (golden : Bool) (count : Nat) (oxm image : Bytes) (who : OpRef) (front : Bool) : State :=
  let w : ImgWrite := { golden := golden, oxm := oxm, image := image, count := count, requester := who, front := front }
  let t := if golden then s.homeErase (goldenPlace n) 0x8000 else s
  let d := t.dev.setGc n { t.dev.gc n with write := some w }
  { t with dev := if golden then (d.setComp n { d.comp n with golden := none }).setGolden n 0 else d }

/-- The writes of an image (R204 steps 2 and 3): the erase units of its space that have been delivered and differ, then the trees built from the
delivered bytes, by the sectors that they change. `units` and `sectors` are what the flash holds in the units and in each tree's sectors. -/
def planImage (c : CompRec) (w : ImgWrite) (erase64 : Bool) (units sectors : List Bytes) : List WStep :=
  let role := if w.golden then 2 else 1
  let pg := 2 ^ c.pageLog2
  let space := ((c.units role erase64).zip units).flatMap fun x =>
    let new := (w.image.drop (c.offsetIn role x.1.1)).take x.1.2
    if new.length < x.1.2 || new = x.2 then [] else .erase x.1.1 x.1.2 :: pages pg x.1.1 new
  let trees := ((parseOxm w.oxm).parts.zip sectors).flatMap fun x =>
    let tree := (buildTree (partBytes c x.1 w.image)).flatten
    sectorWrites pg (x.1.treeAddr / 4096 * 4096) (sectorsOf x.1.treeAddr tree.length) x.2 (overlay x.2 (x.1.treeAddr % 4096) tree)
  if w.image.length < w.count then space else space ++ trees

/-- The outcome of the writes of an image (R204): short delivery, a failed write, or roots that differ. -/
def imageOutcome (c : CompRec) (w : ImgWrite) : Status :=
  if w.image.length < w.count then .lengthMismatch
  else match w.writes.fault with
    | some st => st
    | none => if (parseOxm w.oxm).parts.all fun p => buildRoot (partBytes c p w.image) = p.root then .ok else .authFail

/-- The new OXM stands where it belongs (R204 steps 5 and 6): a golden image is UNCHECKED, a component whose primary space was written verifies. -/
def imageTakes (s : State) (n : Nat) (w : ImgWrite) : State :=
  if w.golden then
    let u := s.homeStore (goldenPlace n) 0x8000 w.oxm
    let o := parseOxm w.oxm
    let d := (u.dev.wr (COMP_OXM_GOLDEN_SVN n) o.svn).wr (COMP_OXM_GOLDEN_SLOT n) o.slot
    { u with dev := (d.setComp n { d.comp n with golden := some o }).setGolden n 1 }
  else s.onDev fun d =>
    if d.state n = .thawing then d else ((d.setOxm n w.oxm).showPins).startVerify n

/-- An image write ends with a status, which answers it and is recorded (R204); that of a Front's part shows in FRONT_STATUS when it fails (R336). -/
def imageEnds (s : State) (n : Nat) (w : ImgWrite) (st : Status) : State :=
  let d1 := s.dev.setGc n { s.dev.gc n with write := none }
  let d2 := ((d1.answerOp w.requester (ans st)).compStatus n st).post .compImageWritten (.comp n) (flag w.golden + 2 ^ 16 * st.code)
  let t := { s with dev := if w.front && st ≠ .ok then d2.wr FRONT_LAST_STATUS st.code else d2 }
  if st = .ok then imageTakes t n w else t

/-- The writes of an image have ended: the OXM is stored, in the component's flash as further writes (R204 steps 4 and 5). -/
def imageWritten (s : State) (n : Nat) (flash : Bytes) : State :=
  match (s.dev.gc n).write, (s.dev.gc n).entry with
  | some w, some c =>
    if (s.dev.gc n).op.isSome then s
    else
      let st := imageOutcome c w
      if st ≠ .ok || w.golden || w.storing then imageEnds s n w st
      else
        let r := s.storeOxm c w.oxm flash
        let t := r.2.onDev fun d => (d.setGc n { d.gc n with write := some { w with storing := true } }).startWrites n r.1
        if (t.dev.gc n).op.isSome then t else imageEnds t n w .ok
  | _, _ => s

/-- An image write is given up with a status: a write of its own that is in progress ends, and none follows (log entries 91, 95). -/
def Dev.dropWrite (d : Dev) (n : Nat) (st : Status) : Dev :=
  match (d.gc n).write with
  | some w => (d.setGc n { d.gc n with write := none }).answerOp w.requester (ans st)
  | none => d

/-- An image write goes on or ends (R204): what the flash holds in the erase units, in each tree's sectors and in those of OXM_LOC. -/
def imageWriteEnd (s : State) (n : Nat) (erase64 : Bool) (units sectors : List Bytes) (flash : Bytes) : State :=
  match (s.dev.gc n).write, (s.dev.gc n).entry with
  | some w, some c =>
    if w.writes.planned then imageWritten s n flash
    else if units.length ≠ (c.units (if w.golden then 2 else 1) erase64).length || sectors.length ≠ (parseOxm w.oxm).parts.length then s
    else imageWritten (s.onDev fun d => d.startWrites n (planImage c w erase64 units sectors)) n flash
  | _, _ => s

/-- The start tick (R182): golden images are looked up, and every named component's OXM is taken up; `oxms` are the OXMs read
from the components' flashes. -/
def startTick (s : State) (oxms : List (Fin 96 × Bytes)) : State :=
  let d0 := { s.dev with started := true }.wr DEV_START_TICK (lo32 s.dev.frame)
  allGcs.foldl (fun t n =>
    match (t.dev.gc n).entry with
    | some c =>
      let d1 := State.findGolden t.dev n c (t.goldenOxm n)
      let o := State.oxmAt t c (((oxms.find? fun x => x.1.val = n).map Prod.snd).getD [])
      { t with dev := if d1.state n = .held && !d1.on (COMP_STATUS_READY n) then d1.takeOxm n c o.2 o.1 else d1 }
    | none => t) { s with dev := d0 }

namespace Dev

/-! ## The state of the policy (R139, R144) -/

/-- A policy is in force. -/
def inForce (d : Dev) : Bool := !d.pol.bytes.isEmpty

/-- Some entry or pair record is staged. -/
def anyStaged (d : Dev) : Bool :=
  (allGcs.any fun n => (d.gc n).staged.isSome) || (List.range 48).any fun p => (d.pair p).staged.isSome

/-- POL_STATUS.STATE (Table 04-10). -/
def showPol (d : Dev) : Dev :=
  if d.pol.load.isSome then d.wr POL_STATUS_STATE 3
  else d.wr POL_STATUS_STATE (if !d.inForce then 0 else if d.anyStaged then 2 else 1)

/-- A load ends without effect. -/
def loadFails (d : Dev) (s : Status) : Dev :=
  let d1 := match d.pol.requester with
    | some r => d.answerOp r (ans s)
    | none => d
  ({ d1 with pol := { bytes := d1.pol.bytes } }.wr POL_STATUS_LAST_LOAD s.code).showPol

end Dev

/-! ## Meanings -/

/-- The start tick: a policy is in force and every OXM has been read (R182). -/
def execStartTick (oxms : List (Fin 96 × Bytes)) (s : State) : Result :=
  .next (if s.dev.up && s.dev.ownsPorts && !s.dev.started && !s.dev.pol.bytes.isEmpty && s.dev.rd DRZ_STATE = 0 then startTick s oxms else s)

/-- A tick releases a component (R178). -/
def execComponentRelease (n : Fin 96) (s : State) : Result :=
  act s fun d => if d.mayRelease n then d.release n else d

/-- HOLD_MIN frames after the fall of RELEASE, MIN_HOLD clears (R188). -/
def execMinHoldExpiry (n : Fin 96) (s : State) : Result :=
  act s fun d =>
    if d.held n .minHold && decide ((d.comp n).fell + d.rd (COMP_CFG_HOLD_MIN n) ≤ d.frame) then d.clearHold n .minHold else d

/-- A pass of a thaw ends (R195). -/
def execThawPassEnd (n : Fin 96) (units : List UnitIn) (erase64 : Bool) (flash : Bytes) (stored : Bool) (s : State) : Result :=
  .next (if s.dev.up && s.dev.state n = .thawing && (s.dev.gc n).op.isNone then thawPassEnd s n units erase64 flash stored else s)

/-- The firmware examines every OXM after a revocation (R199). -/
def execRevocationExamination (s : State) : Result :=
  act s fun d => if d.up then
      allGcs.foldl (fun d n => match (d.comp n).revoked with
        | some k => d.examine n k
        | none => d) d
    else d

/-- The component that a component command names (Table 06-6). -/
def Desc.comp (x : Desc) : Nat := (x.par 0 8 : Byte).toNat

/-- COMP_HOLD sets HOLD_CMD (R202). -/
def execCompHold (x : Desc) (s : State) : Result :=
  let n := x.comp
  act s fun d => d.command x 0x0200 (decide (n < 96)) (Dev.compBody n fun d => (.ok, d.setHold n .holdCmd))

/-- COMP_RELEASE clears HOLD_CMD, unless a cell of the component shows a failed BIST (R202, R406). -/
def execCompRelease (x : Desc) (s : State) : Result :=
  let n := x.comp
  act s fun d => d.command x 0x0201 (decide (n < 96)) (Dev.compBody n fun d =>
    if h : n < 96 then
      if d.bistFailed ⟨n, h⟩ then (.componentState, d) else (.ok, d.clearHold n .holdCmd)
    else (.descInvalid, d))

/-- COMP_REVERIFY moves a component to VERIFYING under the OXM at OXM_LOC (R202); `flash` is what the flash holds there. A component without an
entry has no OXM_LOC: its OXM counts as one that fails (DESIGN CHOICE, log entry 96). -/
def execCompReverify (x : Desc) (flash : Bytes) (s : State) : Result :=
  let n := x.comp
  act s fun d => d.command x 0x0202 (decide (n < 96)) (Dev.compBody n fun d =>
    match (d.gc n).entry with
    | some c =>
      if !d.atRest n then (.componentState, d)
      else
        let o := State.oxmAt s c flash
        (.ok, (d.takeOxm n c o.2 o.1))
    | none =>
      if !d.atRest n then (.componentState, d)
      else (.ok, ((d.setState n .held).compStatus n .oxmInvalid).thawRequest n))

/-- COMP_THAW makes a thaw request (R194, R202). -/
def execCompThaw (x : Desc) (s : State) : Result :=
  let n := x.comp
  act s fun d => d.command x 0x0203 (decide (n < 96)) (Dev.compBody n fun d =>
    if d.atRest n then (.ok, d.thawRequest n) else (.componentState, d))

/-- COMP_IMAGE_WRITE (R203); the OXM is read from OXM_ADDR, the image from SRC. -/
def execCompImageWrite (x : Desc) (oxm : Bytes) (s : State) : Result :=
  let n := x.comp
  let target : Byte := x.par 1 8
  let count : Nat := (x.par 8 64).toNat
  .next (s.command x 0x0204 (decide (n < 96 ∧ target.toNat ≤ 1)) fun s =>
    let golden := decide (target = 1)
    if !s.dev.ownsPorts then (ans .notOwner, s)
    else match s.dev.imageWriteCheck n golden count oxm x.src with
      | some .componentState => (ans .componentState, s)
      | some st => (ans st, { s with dev := (if st = .alignment then s.dev else s.dev.sawOxm oxm).compStatus n st })
      | none => ({ status := none }, imageWriteStart (s.onDev fun d => d.sawOxm oxm) n golden count oxm x.src x.ref false))

/-- An image write goes on, and finishes once its last write has (R204). -/
def execImageWriteComplete (n : Fin 96) (erase64 : Bool) (units sectors : List Bytes) (flash : Bytes) (s : State) : Result :=
  .next (if s.dev.up && (s.dev.gc n).op.isNone then imageWriteEnd s n erase64 units sectors flash else s)

/-- COMP_SVN_COMMIT raises the SVN floor to the SVN of the OXM in force (R193). -/
def execCompSvnCommit (x : Desc) (s : State) : Result :=
  let n := x.comp
  .next (s.command x 0x0205 (decide (n < 96)) fun s =>
    if !s.dev.ownsPorts then (ans .notOwner, s)
    else match (s.dev.comp n).oxm with
      | some o =>
        if s.dev.state n ≠ .released then (ans .componentState, s)
        else
          let d := ((s.dev.wr (COMP_OXM_FLOOR n) (max o.svn (s.dev.rd (COMP_OXM_FLOOR n)))).clear (COMP_OXM_FLOOR_LOST n)).compStatus n .ok
          (ans .ok, State.saveFloors { s with dev := d })
      | none => (ans .componentState, s))

/-- COMP_FORCE_RELEASE, in Blank and Test only (R201). -/
def execCompForceRelease (x : Desc) (s : State) : Result :=
  let n := x.comp
  act s fun d => d.command x 0x0206 (decide (n < 96)) (Dev.compBody n fun d =>
    if !d.atRest n then (.componentState, d)
    else if !d.open_ then (.lifecycleDenied, d)
    else if d.held n .noEntry then (.componentState, d)
    else (.ok, d.setComp n { d.comp n with forceDue := true }))

end Sys2Proof.Machine
end

