-- ==== Sys2Proof/Machine/Crypto.lean ====
section
/-! DEFINITION. The Crypto complex: digest contexts and lanes, the key store, the AES, DRBG and signature engines, self-tests
and clearing (07_crypto_engines.md R208 to R253). -/

namespace Sys2Proof.Machine

open Reg

/-! ## Digests (Tables 07-1 and 07-3) -/

/-- Core cycles that a block takes. -/
def algCycles (a : Nat) : Nat := if a = 0 then 65 else if a ≤ 2 then 81 else 48

/-- Blocks that padding takes after n bytes of the last block (FIPS 180-4, FIPS 202). -/
def padBlocks (a n : Nat) : Nat :=
  if a = 0 then (n + 8) / 64 + 1 else if a ≤ 2 then (n + 16) / 128 + 1 else 1

/-- Parameters in range and reserved combinations refused (Table 07-3). -/
def DigestParam.inRange (p : DigestParam) : Bool :=
  (decide (p.alg < 6) || decide (1 ≤ p.outLen ∧ p.outLen ≤ 512))
    && (p.expectLen = 0 || decide (16 ≤ p.expectLen ∧ p.expectLen ≤ algLen p.alg p.outLen)) && decide (p.dest ≤ 2)
    && (p.dest ≠ 2 || p.keyed) && (!p.keyed || decide (p.alg ≤ 2)) && p.save % 512 = 0

/-- Absorb bytes into a context: whole blocks into STATE, the rest into BUFFER (R216, Table 07-4). -/
def Ctx.absorb (c : Ctx) (b : Bytes) : Ctx :=
  let all := c.buf ++ b
  let n := all.length / algBlock c.alg * algBlock c.alg
  { c with
    chain := if n = 0 then c.chain else hashBlocks c.alg c.chain (all.take n), buf := all.drop n,
    count := c.count + b.length }

/-- The digest of a context that has absorbed its message (R216). -/
def Ctx.digest (c : Ctx) : Bytes := hashEnd c.alg c.keyed c.chain c.buf c.count c.outLen

/-- Blocks of a FINAL: padding, and the outer hash of HMAC. -/
def Ctx.finBlocks (c : Ctx) : Nat := padBlocks c.alg c.buf.length + 2 * flag c.keyed

/-! ## Exported records (Tables 07-4 and 07-5) -/

/-- FLAGS, ALG, and the body before CHECK. -/
def Ctx.head (c : Ctx) (epoch : Nat) : Bytes :=
  leBytes 2 1 ++ leBytes 1 (flag c.keyed) ++ leBytes 1 (c.alg + 16 * flag c.keyed) ++ leBytes 4 (if c.keyed then epoch else 0)

def Ctx.body (c : Ctx) (gen : Nat) : Bytes :=
  leBytes 2 c.fnum ++ leBytes 2 gen ++ leBytes 4 c.handle ++ leBytes 8 c.total ++ leBytes 8 c.count ++ leBytes 1 c.buf.length
    ++ leBytes 1 c.ring ++ leBytes 2 c.outLen ++ leBytes 1 (c.alg + 16 * flag c.keyed) ++ leBytes 3 0 ++ slice c.chain 0 200
    ++ slice c.buf 0 168

/-- The 512 bytes of a context: plain with CHECK, or wrapped under the context wrap key (R220, R221). -/
def Ctx.record (c : Ctx) (gen epoch : Nat) (wrapKey : Bytes) : Bytes :=
  let h := c.head epoch
  let b := c.body gen
  padTo 512 (if c.keyed then h ++ slice (Config.kwWrap wrapKey b) 0 408 else h ++ b ++ sha384b (h ++ b))

namespace Dev

/-! ## Keys (R231 to R236) -/

def key (d : Dev) (s : Nat) : Key := SMap.get (fun _ => {}) d.crypto.keys s
def setKeyData (d : Dev) (s : Nat) (k : Key) : Dev :=
  { d with crypto := { d.crypto with keys := SMap.set (fun _ => {}) d.crypto.keys s k } }

/-- KS.FREE counts the empty slots among 64 to 1,023 (Table 07-14). -/
def showFree (d : Dev) : Dev := d.wr KS_FREE (countUpTo 960 fun i => !d.on (KS_SLOT_VALID (64 + i)))

/-- A slot is emptied: its material is zeroised (R231). -/
def emptySlot (d : Dev) (s : Nat) : Dev :=
  (d.setKeyData s {}).clear (KS_SLOT_VALID s) |>.clear (KS_SLOT_ORIGIN s) |>.clear (KS_SLOT_ATTR s) |>.clear (KS_SLOT_LEN s)
    |>.clear (KS_SLOT_TYPE s)

/-- A zeroisation of the slots that `p` selects; KS_EVT.ZEROISED sets when one of them held a key (Table 07-14). -/
def zeroiseSlots (d : Dev) (p : Nat → Bool) : Dev :=
  let full := (List.range 1024).filter fun s => p s && d.on (KS_SLOT_VALID s)
  if full = [] then d else ((full.foldl emptySlot d).raise KS_EVT_ZEROISED).showFree

/-- A slot is filled: material, TYPE, attributes and ORIGIN (R233, Table 07-14). -/
def fillSlot (d : Dev) (s : Nat) (b : Bytes) (type attr origin : Nat) : Dev :=
  ((d.setKeyData s { bytes := b }).raise (KS_SLOT_VALID s) |>.wr (KS_SLOT_ORIGIN s) origin |>.wr (KS_SLOT_ATTR s) attr
    |>.wr (KS_SLOT_LEN s) b.length |>.wr (KS_SLOT_TYPE s) type).showFree

/-- The function that issues a command; the firmware's own jobs count as function 0 (R212). -/
def issuer (p : Port) : Nat := match p with
  | .fn f => f
  | _ => 0

/-- A slot named by a function: one of its own, among 64 to 1,023 (R231, R232). -/
def ownSlot (d : Dev) (f s : Nat) : Bool := decide (64 ≤ s ∧ s < 1024) && d.rd (KS_SLOT_OWNER s) = f

/-- A source slot of a function: its own and not empty. -/
def sourceSlot (d : Dev) (f s : Nat) : Bool := d.ownSlot f s && d.on (KS_SLOT_VALID s)

/-- A destination slot: its own and empty. -/
def emptyOwn (d : Dev) (f s : Nat) : Bool := d.ownSlot f s && !d.on (KS_SLOT_VALID s)

/-- Attributes that suit a TYPE (Table 07-6). -/
def suits (type attr : Nat) : Bool :=
  match type with
  | 0 => attr &&& 0x4C = attr
  | 1 => attr &&& 0x63 = attr
  | _ => decide (type ≤ 4) && attr &&& 0x50 = attr

/-- Lengths of a TYPE (Table 07-6). -/
def typeLen (type n : Nat) : Bool :=
  match type with
  | 0 => n = 32
  | 1 => decide (16 ≤ n ∧ n ≤ 64)
  | 2 => n = 48
  | _ => n = 32

/-- A slot grants a use (R233). -/
def grants (d : Dev) (s i : Nat) : Bool := bit (d.rd (KS_SLOT_ATTR s)) i

/-- Attributes of a child key within those of its parent (R233). -/
def within (parent attr : Nat) : Bool := attr &&& parent = attr

/-! ## The DRBG (R238, R239) -/

/-- A seed: the count of generate requests starts again (R238). -/
def seed (d : Dev) : Dev :=
  { d with crypto := { d.crypto with gen := 0, reseedAt := d.frame, seeded := true } }.wr RNG_GEN_SINCE_RESEED 0

/-- A reseed (R238, Table 07-17). -/
def reseed (d : Dev) : Dev := d.seed.inc RNG_RESEED_CNT

/-- A generate request; it reseeds first when 65,536 have been made (R238). -/
def generate (d : Dev) (n : Nat) : Bytes × Dev :=
  let d1 := if 65536 ≤ d.crypto.gen then d.reseed else d
  let d2 := { d1 with crypto := { d1.crypto with gen := d1.crypto.gen + 1 } }.wr RNG_GEN_SINCE_RESEED (min (d1.crypto.gen + 1) 65535)
  (d2.tally 284 1).drawBytes n

/-- Operations that need the DRBG end with ENTROPY_FAIL (R239). -/
def rngDead (d : Dev) : Bool := d.rd RNG_STATE = 2

/-- Slot 0 is zeroised, and no context can be wrapped. -/
def loseWrapKey (d : Dev) : Dev :=
  let d1 := d.zeroiseSlots fun s => s = 0
  { d1 with crypto := { d1.crypto with noWrap := true } }

/-- A new context wrap key and CR.EPOCH; none when the DRBG is in ERROR (R221, R228 step 5), and not before its first seed (R238). -/
def newWrapKey (d : Dev) : Dev :=
  if d.rngDead then d.loseWrapKey.wr CR_EPOCH (if d.rd CR_EPOCH = 0xFFFFFFFF then 0 else d.rd CR_EPOCH + 1)
  else if !d.crypto.seeded then { d.loseWrapKey with crypto := { d.loseWrapKey.crypto with wrapDue := true } }
  else
    let r := d.generate 32
    let e := r.2.generate 4
    let d1 := (e.2.wr CR_EPOCH (leNat e.1)).fillSlot 0 r.1 0 8 3
    { d1 with crypto := { d1.crypto with noWrap := false, wrapDue := false } }

/-! ## Contexts (R218, R219) -/

def ctx (d : Dev) (h : Nat) : Option Ctx := d.crypto.ctxs.find? fun c => c.handle = h

/-- CR.CTX_USED, CR.CTX_FW and CR.CTX_EXPORTED. -/
def showCtx (d : Dev) : Dev :=
  let inside := d.crypto.ctxs.filter fun c => c.place = .internal
  d.wr CR_CTX_USED inside.length |>.wr CR_CTX_FW (inside.filter Ctx.fw).length
    |>.wr CR_CTX_EXPORTED (d.crypto.ctxs.filter fun c => c.place = .exported).length

def setCtxs (d : Dev) (l : List Ctx) : Dev := { d with crypto := { d.crypto with ctxs := l } }.showCtx

/-- Replace a context. -/
def putCtx (d : Dev) (c : Ctx) : Dev := d.setCtxs (d.crypto.ctxs.map fun x => if x.handle = c.handle then c else x)

/-- A context is zeroised and its handle destroyed. -/
def dropCtx (d : Dev) (h : Nat) : Dev := d.setCtxs (d.crypto.ctxs.filter fun c => c.handle ≠ h)

/-- The handle of a context is destroyed; what works on it runs to its end, in ring order, and takes the context with it (R218). -/
def endCtx (d : Dev) (h : Nat) : Dev := d.setCtxs (d.crypto.ctxs.map fun x => if x.handle = h then { x with once := true } else x)

/-- A context is lost: at once, or with the last operation on it. -/
def loseCtx (d : Dev) (h : Nat) : Dev := if d.ops.any fun o => o.ctx = h then d.endCtx h else d.dropCtx h

/-- Free internal contexts of the firmware, or of the host functions: 64 of the 1,024 are the firmware's (R212, R219). -/
def ctxRoom (d : Dev) (fw : Bool) : Nat :=
  (if fw then 64 else 960) - (d.crypto.ctxs.filter fun c => c.place = .internal && c.fw = fw).length

/-- An internal context is free. -/
def ctxFree (d : Dev) (fw : Bool) : Bool := decide (0 < d.ctxRoom fw)

/-- Live contexts of a function, internal and exported (R218). -/
def liveCtxs (d : Dev) (f : Nat) : Nat := (d.crypto.ctxs.filter fun c => c.fnum = f && !c.once).length

/-- A new context with the next handle (R218); it waits for a free internal one when there is none (R219). -/
def newCtx (d : Dev) (r : OpRef) (p : DigestParam) (key : Option Bytes) (attr : Nat) (once : Bool) : Ctx × Dev :=
  let f := issuer r.port
  let s := (d.crypto.seq + 1) % 2 ^ 24
  let fw := r.port = .fw
  let c : Ctx := ⟨2 ^ 24 * f + s, f, r.ring, p.alg, p.keyed, attr, p.outLen, p.total, hashInit p.alg key, [], 0,
    p.save, if d.ctxFree fw then .internal else .waiting d.frame, once, 0, fw⟩
  (c, { d with crypto := { d.crypto with seq := s, ctxs := d.crypto.ctxs ++ [c] } }.showCtx)

/-- A command waits for its context (R219, R222). -/
def defer (d : Dev) (x : Desc) (o h : Nat) (p : DigestParam) (expect : Bytes) : Ans × Dev :=
  ({ status := none, ctx := h }, { d with crypto := { d.crypto with deferred := d.crypto.deferred ++ [⟨x, o, { p with handle := h }, expect⟩] } })

/-- A command waits for the context. -/
def awaited (d : Dev) (h : Nat) : Bool := d.crypto.deferred.any fun y => y.param.handle = h

/-- A LENGTH_MISMATCH of R217: the context goes, and the error is counted. -/
def lengthError (d : Dev) (h : Nat) : Ans × Dev := ({ status := some .lengthMismatch, ctx := h }, (d.endCtx h).inc CR_LENGTH_ERR_CNT)

/-- The key of a keyed digest command: refusal, or its material and attributes (R232, R233). -/
def digestKey (d : Dev) (f : Nat) (p : DigestParam) : Except Status (Option Bytes × Nat) :=
  if !p.keyed then .ok (none, 0)
  else if !d.sourceSlot f p.keySlot then .error .keySlot
  else if !d.grants p.keySlot 0 then .error .keyUsage
  else .ok (some (d.key p.keySlot).bytes, d.rd (KS_SLOT_ATTR p.keySlot))

/-- Refusal of a destination slot, whose key is of type HMAC (R226, R233). -/
def destRefusal (d : Dev) (f attr : Nat) (p : DigestParam) : Option Status :=
  if p.dest ≠ 2 then none
  else if !d.emptyOwn f p.destSlot then some .keySlot
  else if !suits 1 p.destAttr || !within attr p.destAttr then some .keyUsage
  else none

/-- The end of a digest: the comparison, and the digest to where DEST says (R224 to R226). -/
def finishDigest (d : Dev) (c : Ctx) (p : DigestParam) (expect : Bytes) (left : Nat) : Ans × Dev :=
  let out := c.digest
  let v := if p.expectLen = 0 then 0 else verdictOf (out.take p.expectLen = expect.take p.expectLen)
  let quiet := c.keyed && p.expectLen ≠ 0
  let d1 := if p.dest = 2 && !quiet then d.fillSlot p.destSlot out 1 p.destAttr 1 else d
  ({ status := some .ok, verdict := v, result0 := out.length, dst := if p.dest = 1 && !quiet then out else [],
     ctx := c.handle, left := left }, d1)

/-! ## Meanings of the digest commands (R214 to R218) -/

/-- DIGEST on the context it uses for its duration. -/
def digestOn (x : Desc) (p : DigestParam) (expect : Bytes) (c : Ctx) (d : Dev) : Ans × Dev :=
  match d.destRefusal (issuer x.ref.port) c.attr p with
  | some s => ({ status := some s, ctx := c.handle }, d)
  | none =>
    let c1 := c.absorb x.src
    (d.putCtx c1).finishDigest c1 p expect (x.src.length / algBlock p.alg + flag p.keyed + c1.finBlocks)

/-- DIGEST of one whole message; it waits for a free context. -/
def digestBody (x : Desc) (p : DigestParam) (expect : Bytes) (d : Dev) : Ans × Dev :=
  let f := issuer x.ref.port
  if x.src.length ≠ p.total then (ans .lengthMismatch, d.inc CR_LENGTH_ERR_CNT)
  else match d.digestKey f p with
    | .error s => (ans s, d)
    | .ok (k, attr) => match d.destRefusal f attr p with
      | some s => (ans s, d)
      | none =>
        let r := d.newCtx x.ref p k attr true
        if r.1.place = .internal then digestOn x p expect r.1 r.2 else r.2.defer x 0x100 r.1.handle p expect

/-- The answer of a DIGEST_INIT that has its context. -/
def initAnswer (h : Nat) : Ans := { status := some .ok, result0 := h, ctx := h }

/-- DIGEST_INIT creates a context and returns its handle; it waits for a free context. -/
def initBody (x : Desc) (p : DigestParam) (d : Dev) : Ans × Dev :=
  let f := issuer x.ref.port
  if 4096 ≤ d.liveCtxs f then (ans .noContext, d)
  else match d.digestKey f p with
    | .error s => (ans s, d)
    | .ok (k, attr) =>
      let r := d.newCtx x.ref p k attr false
      if r.1.place = .internal then (initAnswer r.1.handle, r.2) else r.2.defer x 0x101 r.1.handle p []

/-- DIGEST_UPDATE on a context that is on chip. -/
def updateOn (x : Desc) (p : DigestParam) (c : Ctx) (d : Dev) : Ans × Dev :=
  if x.src.length ≠ p.chunk ∨ c.total < c.count + p.chunk then d.lengthError c.handle
  else
    let k := (c.buf.length + x.src.length) / algBlock c.alg + flag (c.keyed && c.count = 0)
    ({ status := some .ok, ctx := c.handle, left := k }, d.putCtx (c.absorb x.src))

/-- EXPECT_LEN and DEST of a DIGEST_FINAL suit its context (Table 07-3). -/
def finalInRange (p : DigestParam) (c : Ctx) : Bool :=
  (p.expectLen = 0 || decide (16 ≤ p.expectLen ∧ p.expectLen ≤ algLen c.alg c.outLen)) && (p.dest ≠ 2 || c.keyed)

/-- DIGEST_FINAL on a context that is on chip; the context ends. -/
def finalOn (x : Desc) (p : DigestParam) (expect : Bytes) (c : Ctx) (d : Dev) : Ans × Dev :=
  if !finalInRange p c then ({ status := some .descInvalid, ctx := c.handle }, d)
  else if c.count ≠ c.total ∨ x.src ≠ [] then d.lengthError c.handle
  else match d.destRefusal (issuer x.ref.port) c.attr { p with keyed := c.keyed } with
    | some s => ({ status := some s, ctx := c.handle }, d)
    | none => (d.endCtx c.handle).finishDigest c p expect c.finBlocks

/-- A context moves to host memory (R220, R223). -/
def exportTo (d : Dev) (c : Ctx) (area : Nat) : Dev :=
  let rec_ := c.record (d.rd (FN_STATE_FN_GEN c.fnum)) (d.rd CR_EPOCH) (d.key 0).bytes
  let d1 := { d with crypto := { d.crypto with exported := d.crypto.exported + 1 } }.putCtx { c with place := .exported, save := area }
  (((if c.keyed then d1.add AES_BYTES 400 else d1).inc CR_EXPORT_CNT).tally 278 1).emit (.hostWrite c.fnum area rec_)

/-- CTX_EXPORT of a context that is on chip (R223). -/
def exportOn (p : DigestParam) (c : Ctx) (d : Dev) : Ans × Dev :=
  let area := if p.save = 0 then c.save else p.save
  if area = 0 then (ans .descInvalid, d)
  else if c.keyed && (d.rngDead || d.crypto.noWrap) then (ans .entropyFail, d)
  else ({ status := some .ok, ctx := c.handle }, d.exportTo c area)

/-- A command on a context that is on chip. -/
def onContext (x : Desc) (o : Nat) (p : DigestParam) (expect : Bytes) (c : Ctx) (d : Dev) : Ans × Dev :=
  if o = 0x100 then digestOn x p expect c d
  else if o = 0x101 then (initAnswer c.handle, d)
  else if o = 0x102 then updateOn x p c d
  else if o = 0x103 then finalOn x p expect c d
  else if o = 0x108 then exportOn p c d
  else ({ status := some .ok, ctx := c.handle }, d.endCtx c.handle)

/-- A command on a handle (R218): bound to its function and ring, and carried out in ring order. One on an exported context waits until it
is back (R222), an export for its slots (R219), any behind one that waits; a CTX_DESTROY or CTX_EXPORT of an exported context that nothing waits
for has no need of it on chip. -/
def handleBody (x : Desc) (o : Nat) (p : DigestParam) (expect : Bytes) (d : Dev) : Ans × Dev :=
  match d.ctx p.handle with
  | none => (ans .contextInvalid, d)
  | some c =>
    if c.fnum ≠ issuer x.ref.port ∨ c.ring ≠ x.ref.ring ∨ c.fw ≠ (x.ref.port = .fw) ∨ c.once then (ans .contextInvalid, d)
    else if d.awaited c.handle then d.defer x o c.handle p expect
    else if c.place = .internal then (if o = 0x108 then d.defer x o c.handle p expect else onContext x o p expect c d)
    else if o = 0x10A then ({ status := some .ok, ctx := c.handle }, d.endCtx c.handle)
    else if o = 0x108 && c.place = .exported then ({ status := some .ok, ctx := c.handle }, d)
    else d.defer x o c.handle p expect

/-- Checks of Table 07-5 on a record, and the context it holds. -/
def importCheck (d : Dev) (f : Nat) (b : Bytes) : Except Status Ctx :=
  let wrapped := bit (leAt b 2 1) 0
  let alg := leAt b 3 1
  if leAt b 0 2 ≠ 1 ∨ 2 ≤ leAt b 2 1 ∨ !(if wrapped then zeroAt b 0x1A0 96 else zeroAt b 0x1C8 56) then .error .contextInvalid
  else if bit alg 4 && !wrapped then .error .contextInvalid
  else if wrapped && (leAt b 4 4 ≠ d.rd CR_EPOCH || d.crypto.noWrap) then .error .contextStale
  else
    let plain := if wrapped then Config.kwUnwrap (d.key 0).bytes (slice b 8 408)
      else if slice b 0x198 48 = sha384b (slice b 0 0x198) then some (slice b 8 400) else none
    match plain with
    | none => .error .contextInvalid
    | some y =>
      let a := alg % 16
      let c : Ctx := ⟨leAt y 4 4, leAt y 0 2, leAt y 0x19 1, a, bit alg 4, 0, leAt y 0x1A 2, leAt y 8 8, slice y 0x20 200,
        (slice y 0xE8 168).take (leAt y 0x18 1), leAt y 0x10 8, 0, .internal, false, 0, false⟩
      if leAt y 0 2 ≠ f ∨ leAt y 0x1C 1 ≠ alg ∨ !zeroAt y 0x1D 3 then .error .contextInvalid
      else if wrapped && leAt y 2 2 ≠ d.rd (FN_STATE_FN_GEN f) then .error .contextStale
      else if c.total < c.count ∨ algBlock a ≤ leAt y 0x18 1 then .error .contextInvalid
      else .ok c

/-- A wrapped record reaches the AES engine, which finds whether it is intact (Tables 07-5 and 07-16). -/
def importCounted (d : Dev) (b : Bytes) : Dev :=
  if leAt b 0 2 = 1 && leAt b 2 1 = 1 && zeroAt b 0x1A0 96 && leAt b 4 4 = d.rd CR_EPOCH && !d.crypto.noWrap then
    let d1 := d.add AES_BYTES 408
    if (Config.kwUnwrap (d.key 0).bytes (slice b 8 408)).isSome then d1 else d1.inc AES_KW_FAIL
  else d

/-- CTX_IMPORT loads a record under a new handle (R223, Table 08-6), in slots 3 to 6 (R219). -/
def importBody (x : Desc) (save : Nat) (d : Dev) : Ans × Dev :=
  if x.src.length ≠ 512 then (ans .lengthMismatch, d)
  else if 4096 ≤ d.liveCtxs (issuer x.ref.port) then (ans .noContext, d)
  else ({ status := none }, { d with crypto := { d.crypto with imports := d.crypto.imports ++ [(x, save)] } })

/-- An import is counted (R219). -/
def imported (d : Dev) : Dev := ({ d with crypto := { d.crypto with imported := d.crypto.imported + 1 } }.inc CR_IMPORT_CNT).tally 279 1

/-- The record of a CTX_IMPORT is checked and loaded. -/
def importNow (d : Dev) (x : Desc) (save : Nat) : Dev :=
  let f := issuer x.ref.port
  let d1 := d.importCounted x.src
  match d.importCheck f x.src with
  | .error s => d1.answerOp x.ref (ans s)
  | .ok c =>
    let s := (d1.crypto.seq + 1) % 2 ^ 24
    let h := 2 ^ 24 * f + s
    let c1 := { c with handle := h, fnum := f, ring := x.ref.ring, save := save, fw := x.ref.port = .fw }
    ({ d1 with crypto := { d1.crypto with seq := s, ctxs := d1.crypto.ctxs ++ [c1] } }.showCtx.imported).answerOp x.ref (initAnswer h)

/-- The CTX_IMPORT commands that wait are carried out, four a frame, while there is a free context (R219). -/
def importWaiting : Nat → Dev → Dev
  | 0, d => d
  | k + 1, d => match d.crypto.imports with
    | [] => d
    | (x, save) :: r =>
      if 4 ≤ d.crypto.imported || !d.ctxFree (x.ref.port = .fw) then d
      else importWaiting k ({ d with crypto := { d.crypto with imports := r } }.importNow x save)

/-- Blocks that the dispatched operations of a context have left (R211). -/
def blocksLeft (d : Dev) (h : Nat) : Nat := ((d.ops.filter fun o => o.ctx = h).map Op.left).sum

/-- A command that waited for a context is answered. -/
def settled (d : Dev) (y : Deferred) (a : Ans) : Dev :=
  { d with crypto := { d.crypto with deferred := d.crypto.deferred.filter (· ≠ y) } }.answerOp y.desc.ref a

/-- The commands that wait for a context run in ring order while it is on chip (R218, R222), an export once the lanes owe the context nothing and
while the frame allows one more (R219); once the handle has been destroyed, they end with CONTEXT_INVALID. -/
def runDeferred (h : Nat) : List Deferred → Dev → Dev
  | [], d => d
  | y :: r, d =>
    match d.ctx h with
    | none => runDeferred h r (d.settled y (ans .contextInvalid))
    | some c =>
      if c.once && y.opcode ≠ 0x100 then runDeferred h r (d.settled y (ans .contextInvalid))
      else if c.place ≠ .internal || (y.opcode = 0x108 && (decide (0 < d.blocksLeft h) || decide (4 ≤ d.crypto.exported))) then d
      else
        let a := onContext y.desc y.opcode y.param y.expect c d
        runDeferred h r (a.2.settled y a.1)

/-- What waits for a context runs on. -/
def runAwaited (d : Dev) (h : Nat) : Dev := runDeferred h (d.crypto.deferred.filter fun y => y.param.handle = h) d

/-- An exported context comes back, or its waiting commands end with the failed check (R222, R223). -/
def autoImport (d : Dev) (h : Nat) (b : Bytes) : Dev :=
  match d.ctx h with
  | none => d
  | some c =>
    let d1 := d.importCounted b
    match d.importCheck c.fnum b with
    | .error s => (d1.crypto.deferred.filter fun y => y.param.handle = h).foldl (fun d y => d.settled y (ans s)) d1
    | .ok c1 =>
      let back := { c1 with handle := h, fnum := c.fnum, ring := c.ring, attr := c.attr, save := c.save }
      ((d1.putCtx back).imported).runAwaited h

/-! ## Lanes (R210 to R213, R219) -/

/-- The lanes of the kind that an algorithm needs, which accept host jobs and are ACTIVE (R210, R213). -/
def hostLanes (d : Dev) (sha2 : Bool) : List Nat :=
  (List.finRange 20).filterMap fun (j : Fin 20) =>
    if bit (d.rd CR_HOST_LANES) j.val && decide (j.val < 16) = sha2 && d.cst (.lane j) = .active then some j.val else none

/-- Runnable jobs of one kind, those that have waited longest first, then by function and ring (R210, R211). -/
def runnable (d : Dev) (sha2 : Bool) : List Ctx :=
  sortBy (fun a b => decide (a.held < b.held) || (a.held = b.held && (decide (a.fnum < b.fnum) || (a.fnum = b.fnum && decide (a.ring ≤ b.ring)))))
    (d.crypto.ctxs.filter fun c => c.place = .internal && decide (c.alg ≤ 2) = sha2 && decide (0 < d.blocksLeft c.handle))

/-- The jobs chosen for the next frame on their lanes: a job keeps the lane it holds, the others take the free lanes in order
(R210; the lane is the model's choice, log entry 16). -/
def chooseLanes (d : Dev) (sha2 : Bool) : List (Nat × Nat) :=
  let ls := d.hostLanes sha2
  let js := ((d.runnable sha2).take ls.length).map Ctx.handle
  let keep := d.crypto.lanes.filter fun e => ls.contains e.1 && js.contains e.2
  let free := ls.filter fun l => !keep.any fun e => e.1 = l
  keep ++ free.zip (js.filter fun h => !keep.any fun e => e.2 = h)

/-- Digest up to n blocks of a context's operations, in ring order (R211). -/
def digestBlocks (h : Nat) : Nat → List Op → Nat × List Op
  | n, [] => (n, [])
  | n, o :: r =>
    if o.ctx = h then
      let k := min n o.left
      let t := digestBlocks h (n - k) r
      (t.1, { o with left := o.left - k } :: t.2)
    else
      let t := digestBlocks h n r
      (t.1, o :: t.2)

/-- A comparison of a digest command that has ended on a lane (R224, Table 07-13). -/
def laneCompared (d : Dev) (l : Nat) (old new : Op) : Dev :=
  if old.left ≠ 0 && new.left = 0 && new.verdict ≠ 0 then (d.wr (LANE_VERDICT l) new.verdict).inc (LANE_CHECK_CNT l) else d

/-- The work of one lane in the frame that ends: taps and checks first, then its host job (R209, R211). -/
def laneRuns (d : Dev) (l h : Nat) : Dev :=
  match d.ctx h with
  | none => d
  | some c =>
    let room := (3000 - 81 * SMap.get (fun _ => 0) d.crypto.taps l) / algCycles c.alg
    let r := digestBlocks h room d.ops
    (d.ops.zip r.2).foldl (fun d e => d.laneCompared l e.1 e.2)
      ({ d with ops := r.2 }.add (LANE_HOST_BLOCKS l) (room - r.1) |>.tally (240 + l) (room - r.1))

/-- The lanes show their host jobs (Table 07-13). -/
def showLanes (d : Dev) : Dev :=
  (List.range 20).foldl (fun d l =>
    match d.crypto.lanes.find? fun e => e.1 = l with
    | some e => (d.raise (LANE_HOST_BUSY l)).wr (LANE_JOB_FUNC l) (e.2 / 2 ^ 24)
    | none => (d.clear (LANE_HOST_BUSY l)).clear (LANE_JOB_FUNC l)) d

/-- The least recently scheduled context that may be exported (R219, R228 step 5): no lane works for it, and none is to (the model exports no
context whose operations owe blocks: DESIGN CHOICE, log entry 16), and it is not the firmware's (R212). -/
def exportable (d : Dev) : Option Ctx :=
  (sortBy (fun a b => decide (a.held ≤ b.held)) (d.crypto.ctxs.filter fun c => c.place = .internal && !c.once && !c.fw && c.save ≠ 0
    && !(d.crypto.lanes.any fun e => e.2 = c.handle) && d.blocksLeft c.handle = 0 && !d.awaited c.handle
    && !(c.keyed && (d.crypto.noWrap || d.rngDead)))).head?

/-- A context is waiting to be placed. -/
def waits (c : Ctx) : Bool := match c.place with
  | .waiting _ => true
  | _ => false

/-- A context that waits is placed, and its command goes on (R219). -/
def place (d : Dev) (w : Ctx) : Dev := (d.putCtx { w with place := .internal }).runAwaited w.handle

/-- Waiting contexts are placed: into a free internal one, else one is exported first, four a frame (R219). -/
def placeWaiting : List Ctx → Dev → Dev
  | [], d => d
  | w :: r, d =>
    if d.ctxFree w.fw then placeWaiting r (d.place w)
    else match if w.fw || decide (4 ≤ d.crypto.exported) then none else d.exportable with
      | some c => placeWaiting r ((d.exportTo c c.save).place w)
      | none => placeWaiting r d

/-- Contexts that are to come back, and those of CTX_IMPORT commands. -/
def wanted (d : Dev) : Nat :=
  (d.crypto.ctxs.filter fun c => c.place = .exported && d.awaited c.handle).length + d.crypto.imports.length

/-- Room is made for the contexts that are to come on chip (R219, R222). -/
def makeRooms : Nat → Dev → Dev
  | 0, d => d
  | k + 1, d =>
    if d.wanted ≤ d.ctxRoom false || 4 ≤ d.crypto.exported then d
    else match d.exportable with
      | some c => makeRooms k (d.exportTo c c.save)
      | none => d

/-- The moves of contexts in slots 3 to 6 (R219, R222, R223). -/
def moveContexts (d : Dev) : Dev :=
  let d0 : Dev := { d with crypto := { d.crypto with exported := 0, imported := 0 } }
  let d1 := (firstOnly (d0.crypto.deferred.map fun y => y.param.handle)).foldl runAwaited d0
  (makeRooms 4 (placeWaiting (d1.crypto.ctxs.filter waits) d1)).importWaiting 4

/-- Slots 3 to 6 (R210, R219): the jobs of the frame that ends have run, contexts are moved, and the jobs of the next frame chosen. -/
def laneTick (d : Dev) : Dev :=
  let d1 := d.crypto.lanes.foldl (fun d e => d.laneRuns e.1 e.2) d
  let d2 := { d1 with crypto := { d1.crypto with taps := [] } }.moveContexts
  let ls := d2.chooseLanes true ++ d2.chooseLanes false
  let cs := d2.crypto.ctxs.map fun c => if ls.any fun e => e.2 = c.handle then { c with held := d2.frame } else c
  let d3 := { d2 with crypto := { d2.crypto with lanes := ls, ctxs := cs } }.showLanes
  (List.range 16).foldl (fun d j => d.clear (LANE_TAP_MASK j)) d3

/-- The local initialisation of the signature engine: its microcode, once the firmware has it (R243). -/
def engineInit (d : Dev) (c : Cell) : Dev :=
  if c = .se && d.fw.ucodeOk then (d.wr SE_UCODE d.fw.ucode).wr SE_STATE 1 else d

/-! ## Clearing (R227 to R230) -/

/-- Operations of the Crypto complex end with a status, their output replaced (R228, R245). -/
def endCrypto (d : Dev) (st : Status) (p : Op → Bool) : Dev :=
  let ended := fun (o : Op) => { o with
    status := some st, verdict := 0, result0 := 0, result1 := 0, ctx := 0, left := 0, work := 0,
    dst := (if o.opcode = 0x121 then List.replicate o.dst.length 0 else []) }
  { d with ops := d.ops.map fun o => if cryptoOp o.opcode && p o then ended o else o }

/-- Operations queued in the signature engine (R242). -/
def seQueue (d : Dev) : List Op := d.ops.filter fun o => o.opcode = 0x128 || o.opcode = 0x129

/-- The operation that the engine takes up next: the firmware's first, each in its order (R242). -/
def seNext (d : Dev) : Option OpRef := ((d.seQueue.find? fun o => o.ref.port = .fw).or d.seQueue.head?).map Op.ref

/-- SE.QUEUE, SE.STATE and AES.BUSY follow the operations (Tables 07-15, 07-16); the engine performs one operation at a time (R240). -/
def showEngines (d : Dev) : Dev :=
  let n := d.seQueue.length
  let kept := d.crypto.se.filter fun r => d.seQueue.any fun o => o.ref = r
  let d0 : Dev := { d with crypto := { d.crypto with se := kept.or d.seNext } }
  let d1 := d0.wr SE_QUEUE n |>.wr AES_BUSY (flag (d.ops.any fun o => o.opcode = 0x119 || o.opcode = 0x11A || o.opcode = 0x120 || o.opcode = 0x121))
  if d1.rd SE_STATE = 1 ∨ d1.rd SE_STATE = 2 then d1.wr SE_STATE (if n = 0 then 1 else 2) else d1

/-- A clear of the Crypto complex (R228), complete within the step that causes it (R229), with the bit of CR.ALARM for its cause;
ZEROISE clears without one (R374). -/
def clearCrypto (d : Dev) (cause : Option Fld) (squall : Bool) : Dev :=
  let d1 := d.endCrypto .cryptoCleared fun _ => true
  let d2 := { d1 with crypto := { d1.crypto with ctxs := [], deferred := [], imports := [], lanes := [] } }.showCtx.showLanes.showEngines
  let d3 := (List.range 20).foldl (fun d j => d.clear (LANE_VERDICT j)) (d2.clear SE_VERDICT)
  let d4 := ((List.range 8).foldl (fun d i => d.clear (KS_KEY_IN i)) d3).newWrapKey.inc CR_CLEAR_CNT |>.tally 280 1
  let d5 := match cause with
    | some f => (d4.raise f).post .cryptoClear (.cell .digest) (2 ^ (f.bit % 64))
    | none => d4.post .cryptoClear (.cell .digest) 0
  if squall && d.rd CR_STATE ≠ 3 then { d5.wr CR_STATE 0 with crypto := { d5.crypto with tests := .squall } } else d5

/-- BIST runs of the Crypto complex end INCOMPLETE at a clear, with bit 16 of the detail, after a reset of the cell (R406, R407). -/
def bistCleared (d : Dev) : Dev :=
  (d.bist.filter fun r => r.cell.inCrypto).foldl (fun d r => ((d.loadC r.cell).engineInit r.cell).bistIncomplete r true) d

/-- A Squall (R228). -/
def squall (d : Dev) (cause : Fld) : Dev := (d.clearCrypto (some cause) true).bistCleared

/-- A crypto bus error (R227). -/
def busError (d : Dev) (parity : Bool) : Dev :=
  (d.clearCrypto (some (if parity then CR_ALARM_PARITY else CR_ALARM_BUS_ERROR)) false).bistCleared

/-! ## Self-tests (R244) -/

/-- The complex enters ERROR (R244): what runs or waits in it ends with SELFTEST_FAIL. -/
def enterError (d : Dev) : Dev :=
  let d1 := d.endCrypto .selftestFail fun o => o.opcode ≠ 0x138
  ({ d1 with crypto := { d1.crypto with
      ctxs := d1.crypto.ctxs.filter fun c => !c.once && !waits c, deferred := [], imports := [], lanes := [] } }.showCtx.showLanes.showEngines).wr
    CR_STATE 3

/-- SE.STATE after tests 7 to 9 have run: ERROR when one has failed (DEDUCED from Table 07-15, log entry 98). -/
def seTested (d : Dev) (run bad : Nat) : Dev :=
  if run &&& 0x380 = 0 then d else if bad &&& 0x380 ≠ 0 then d.wr SE_STATE 3 else if d.rd SE_STATE = 3 then d.wr SE_STATE 1 else d

/-- Tests run, with the set that failed: each writes its bit of CR.KAT_FAIL; a failure sets ERROR (R244). -/
def kat (d : Dev) (run failed : Nat) : Dev :=
  let bad := run &&& failed
  let d1 := (d.wr CR_KAT_FAIL ((d.rd CR_KAT_FAIL &&& (2047 ^^^ run)) ||| bad)).seTested run bad
  if bad = 0 then d1 else (d1.enterError).post .cryptoKatFail (.cell .digest) (d1.rd CR_KAT_FAIL)

/-- The tests under way end: READY unless one failed (R230, R244). -/
def testsEnd (d : Dev) (run failed : Nat) : Dev :=
  let d1 := { d with crypto := { d.crypto with tests := .none } }.kat run failed
  if d1.rd CR_STATE = 0 then d1.wr CR_STATE 1 else d1

end Dev

/-! ## Commands -/

/-- A dispatched command of the Crypto complex; in ERROR it ends with SELFTEST_FAIL (R244). -/
def Dev.cryptoCommand (d : Dev) (x : Desc) (o : Nat) (ok : Bool) (body : Dev → Ans × Dev) : Dev :=
  (d.command x o ok fun d => if d.rd CR_STATE = 3 then (ans .selftestFail, d) else body d).showEngines

/-- A digest command, with its parameters checked (R215, R269). -/
def Dev.digestCommand (d : Dev) (x : Desc) (o : Nat) (p : DigestParam) (body : Dev → Ans × Dev) : Dev :=
  d.cryptoCommand x o true fun d =>
    if 7 < p.alg then (ans .notSupported, d) else if !p.inRange then (ans .descInvalid, d) else body d

/-- A host memory error while a digest command gathers destroys its context (R217). -/
def Dev.lostOnMemory (d e : Dev) (x : Desc) (o h : Nat) : Dev :=
  if x.failAddr.isSome && d.canIssue x.ref && !d.mustWait x o && (refusal x o true).isNone then
    match d.ctx h with
    | some c => if c.fnum = Dev.issuer x.ref.port ∧ c.ring = x.ref.ring then e.loseCtx h else e
    | none => e
  else e

/-- Parameters of a DIGEST_FINAL that no context admits are refused before it (Table 07-3, R269). -/
def DigestParam.finalOk (p : DigestParam) : Bool :=
  (p.expectLen = 0 || decide (16 ≤ p.expectLen ∧ p.expectLen ≤ 64) || decide (16 ≤ p.expectLen ∧ p.expectLen ≤ 127)) && decide (p.dest ≤ 2)

/-- DIGEST (R217); `expect` is what DST holds. -/
def execDigest (x : Desc) (expect : Bytes) (s : State) : Result :=
  let p := x.digest
  act s fun d => d.digestCommand x 0x0100 p (Dev.digestBody x p expect)

/-- DIGEST_INIT (R218). -/
def execDigestInit (x : Desc) (s : State) : Result :=
  let p := x.digest
  act s fun d => d.digestCommand x 0x0101 p (Dev.initBody x p)

/-- DIGEST_UPDATE (R217). -/
def execDigestUpdate (x : Desc) (s : State) : Result :=
  let p := x.digest
  act s fun d => d.lostOnMemory (d.cryptoCommand x 0x0102 true (Dev.handleBody x 0x102 p [])) x 0x0102 p.handle

/-- DIGEST_FINAL (R217). -/
def execDigestFinal (x : Desc) (expect : Bytes) (s : State) : Result :=
  let p := x.digest
  act s fun d => d.lostOnMemory (d.cryptoCommand x 0x0103 p.finalOk (Dev.handleBody x 0x103 p expect)) x 0x0103 p.handle

/-- CTX_EXPORT (R223). -/
def execCtxExport (x : Desc) (s : State) : Result :=
  let p := x.digest
  act s fun d => d.cryptoCommand x 0x0108 (p.save % 512 = 0) (Dev.handleBody x 0x108 p [])

/-- CTX_IMPORT (R223). -/
def execCtxImport (x : Desc) (s : State) : Result :=
  let save : BitVec 64 := x.par 0x18 64
  act s fun d => d.cryptoCommand x 0x0109 (save.toNat % 512 = 0) (Dev.importBody x save.toNat)

/-- CTX_DESTROY (R214). -/
def execCtxDestroy (x : Desc) (s : State) : Result :=
  let p := x.digest
  act s fun d => d.cryptoCommand x 0x010A true (Dev.handleBody x 0x10A p [])

/-- An exported context comes back (R222); `record` is what its export area holds. -/
def execContextAutoImport (h : BitVec 32) (record : Bytes) (s : State) : Result :=
  act s fun d =>
    match d.ctx h.toNat with
    | some c =>
      if c.place = .exported && d.ctxFree false && d.rd CR_STATE = 1 && decide (d.crypto.imported < 4) && d.awaited h.toNat then
        d.autoImport h.toNat record
      else d
    | none => d

/-- A DIGEST or DIGEST_INIT that has waited 500 frames for a context (R219). -/
def execNoContextTimeout (h : BitVec 32) (s : State) : Result :=
  act s fun d =>
    match d.ctx h.toNat with
    | some c => match c.place with
      | .waiting since =>
        if since + 500 ≤ d.frame then
          let late := fun (o : Op) => if o.ctx = h.toNat then { o with
            status := some .noContext, verdict := 0, result0 := 0, dst := [], ctx := 0, left := 0 } else o
          let d1 := { d with ops := d.ops.map late, crypto := { d.crypto with deferred := d.crypto.deferred.filter fun y => y.param.handle ≠ h.toNat } }
          d1.dropCtx h.toNat
        else d
      | _ => d
    | none => d

/-- KDF (R234); SRC holds Label and Context. -/
def execKdf (x : Desc) (s : State) : Result :=
  let keySlot : BitVec 16 := x.par 0 16
  let destSlot : BitVec 16 := x.par 2 16
  let type : Byte := x.par 4 8
  let attr : Byte := x.par 5 8
  let outLen : BitVec 16 := x.par 6 16
  let labelLen : Byte := x.par 8 8
  let contextLen : Byte := x.par 9 8
  let dest : Byte := x.par 0xA 8
  let ok := decide (1 ≤ labelLen.toNat ∧ labelLen.toNat ≤ 64 ∧ contextLen.toNat ≤ 64)
    && (dest.toNat = 1 && decide (1 ≤ outLen.toNat ∧ outLen.toNat ≤ 1024)
      || dest.toNat = 2 && decide (16 ≤ outLen.toNat ∧ outLen.toNat ≤ 64))
  act s fun d => d.cryptoCommand x 0x0110 ok fun d =>
    let f := Dev.issuer x.ref.port
    let k := keySlot.toNat
    let out := kdf (d.key k).bytes (x.src.take labelLen.toNat) (x.src.drop labelLen.toNat) outLen.toNat
    if x.src.length ≠ labelLen.toNat + contextLen.toNat then (ans .lengthMismatch, d)
    else if !d.sourceSlot f k then (ans .keySlot, d)
    else if !d.grants k 1 then (ans .keyUsage, d)
    else if dest.toNat = 1 then
      if !d.grants k 5 then (ans .keyUsage, d)
      else if x.dstLen < outLen.toNat then (ans .lengthMismatch, d)
      else ({ status := some .ok, result0 := outLen.toNat, dst := out }, d)
    else if !d.emptyOwn f destSlot.toNat then (ans .keySlot, d)
    else if !Dev.suits type.toNat attr.toNat || !Dev.typeLen type.toNat outLen.toNat
        || !Dev.within (d.rd (KS_SLOT_ATTR k)) attr.toNat then (ans .keyUsage, d)
    else (ans .ok, d.fillSlot destSlot.toNat out type.toNat attr.toNat 1)

/-- Public-key bytes that KS_GENERATE returns (Table 08-6). -/
def publicLen : Nat → Nat
  | 2 => 97 | 3 => 1952 | 4 => 2592 | _ => 0

/-- KS_GENERATE (R235); `pairwise` is the outcome of the sign and verify of a fixed message, `len` of an HMAC key comes with
its slot's type as 64 bytes. -/
def execKsGenerate (x : Desc) (pairwise : Bool) (s : State) : Result :=
  let slot : BitVec 16 := x.par 2 16
  let type : Byte := x.par 4 8
  let attr : Byte := x.par 5 8
  act s fun d => d.cryptoCommand x 0x0118 (decide (type.toNat ≤ 4)) fun d =>
    let f := Dev.issuer x.ref.port
    let t := type.toNat
    let n := if t = 1 then 64 else if t = 2 then 48 else 32
    if x.src ≠ [] ∨ x.dstLen ≠ publicLen t then (ans .lengthMismatch, d)
    else if !d.emptyOwn f slot.toNat then (ans .keySlot, d)
    else if !Dev.suits t attr.toNat then (ans .keyUsage, d)
    else if d.rngDead then (ans .entropyFail, d)
    else
      let r := d.generate n
      if 2 ≤ t ∧ !pairwise then (ans .selftestFail, r.2)
      else ({ status := some .ok, result0 := publicLen t, dst := if 2 ≤ t then Config.publicKey t r.1 else [] },
        r.2.fillSlot slot.toNat r.1 t attr.toNat 0)

/-- The header of a key blob (R236). -/
def blobHeader (type attr len : Nat) : Bytes := leBytes 1 attr ++ leBytes 1 type ++ leBytes 1 len ++ leBytes 5 0

/-- KS_UNWRAP of a key blob into a slot (R236). -/
def execKsUnwrap (x : Desc) (s : State) : Result :=
  let keySlot : BitVec 16 := x.par 0 16
  let slot : BitVec 16 := x.par 2 16
  let type : Byte := x.par 4 8
  let attr : Byte := x.par 5 8
  act s fun d => d.cryptoCommand x 0x0119 (decide (type.toNat ≤ 4)) fun d =>
    let f := Dev.issuer x.ref.port
    let k := keySlot.toNat
    if !d.sourceSlot f k || !d.emptyOwn f slot.toNat then (ans .keySlot, d)
    else if !d.grants k 3 then (ans .keyUsage, d)
    else if x.src.length % 8 ≠ 0 ∨ x.src.length < 32 ∨ 80 < x.src.length then (ans .lengthMismatch, d)
    else match Config.kwUnwrap (d.key k).bytes x.src with
      | none => ({ status := some .authFail, work := x.src.length }, d.inc AES_KW_FAIL)
      | some b =>
        let n := leAt b 2 1
        let a := leAt b 0 1 &&& attr.toNat
        let t := leAt b 1 1
        if b.length ≠ 8 + (n + 7) / 8 * 8 then (ans .lengthMismatch, d)
        else if !zeroAt b 3 5 || t ≠ type.toNat || !Dev.suits t (leAt b 0 1) || !Dev.typeLen t n then (ans .keyUsage, d)
        else ({ status := some .ok, work := x.src.length }, d.fillSlot slot.toNat (slice b 8 n) t a 2)

/-- KS_WRAP of a slot into a key blob (R236). -/
def execKsWrap (x : Desc) (s : State) : Result :=
  let keySlot : BitVec 16 := x.par 0 16
  let slot : BitVec 16 := x.par 2 16
  act s fun d => d.cryptoCommand x 0x011A true fun d =>
    let f := Dev.issuer x.ref.port
    let k := keySlot.toNat
    let v := slot.toNat
    let m := (d.key v).bytes
    if !d.sourceSlot f k || !d.sourceSlot f v then (ans .keySlot, d)
    else if !d.grants k 3 || !d.grants v 6 then (ans .keyUsage, d)
    else
      let n := (m.length + 7) / 8 * 8
      let out := Config.kwWrap (d.key k).bytes (blobHeader (d.rd (KS_SLOT_TYPE v)) (d.rd (KS_SLOT_ATTR v)) m.length ++ padTo n m)
      if x.dstLen ≠ 16 + n then (ans .lengthMismatch, d)
      else ({ status := some .ok, result0 := 16 + n, dst := slice out 0 (16 + n), work := 8 + n }, d)

/-- KS_ERASE zeroises a slot (Table 08-6). -/
def execKsErase (x : Desc) (s : State) : Result :=
  let slot : BitVec 16 := x.par 2 16
  act s fun d => d.cryptoCommand x 0x011B true fun d =>
    if !d.sourceSlot (Dev.issuer x.ref.port) slot.toNat then (ans .keySlot, d)
    else (ans .ok, d.zeroiseSlots fun v => v = slot.toNat)

/-- KS_ASSIGN gives slots to a function and zeroises them (R232). -/
def execKsAssign (x : Desc) (s : State) : Result :=
  let first : BitVec 16 := x.par 0 16
  let count : BitVec 16 := x.par 2 16
  let f : Byte := x.par 4 8
  act s fun d => d.cryptoCommand x 0x011C (decide (64 ≤ first.toNat ∧ first.toNat ≤ 1023)) fun d =>
    let a := first.toNat
    let n := count.toNat
    if 1024 < a + n then (ans .keySlot, d)
    else
      let d1 := d.zeroiseSlots fun v => decide (a ≤ v ∧ v < a + n)
      (ans .ok, (List.range' a n).foldl (fun d v => d.wr (KS_SLOT_OWNER v) f.toNat) d1)

/-- A write of KS.LOAD_CTL.GO: KEY_IN into the slot, in Blank and Test only (R235). -/
def Dev.keyLoad (d : Dev) : Dev :=
  let s := d.rd KS_LOAD_CTL_SLOT
  let n := d.rd KS_LOAD_CTL_LEN
  let t := d.rd KS_LOAD_CTL_TYPE
  let a := d.rd KS_LOAD_CTL_ATTR
  if !d.open_ then d.raise KS_EVT_LOAD_REFUSED
  else
    let b := ((List.range 8).flatMap fun i => leBytes 8 (d.rd (KS_KEY_IN i))).take n
    let d1 := (List.range 8).foldl (fun d i => d.clear (KS_KEY_IN i)) d
    if d.emptyOwn 0 s && Dev.suits t a && Dev.typeLen t n then d1.fillSlot s b t a 3 else d1.raise KS_EVT_LOAD_REFUSED

/-- GO written by PF0 (R235). -/
def execKeyLoad (s : State) : Result := act s fun d => if d.awake && d.cst .ks = .active then d.keyLoad else d

/-- AES_GCM_ENC under a DRBG IV (R237). -/
def execAesGcmEnc (x : Desc) (s : State) : Result :=
  let keySlot : BitVec 16 := x.par 0 16
  let aadLen : Word := x.par 4 32
  let textLen : Word := x.par 8 32
  let ok := decide (aadLen.toNat ≤ 65536 ∧ textLen.toNat ≤ 0x1000000)
  act s fun d => d.cryptoCommand x 0x0120 ok fun d =>
    let k := keySlot.toNat
    let y := d.key k
    if x.src.length ≠ aadLen.toNat + textLen.toNat ∨ x.dstLen ≠ textLen.toNat + 16 then (ans .lengthMismatch, d)
    else if !d.sourceSlot (Dev.issuer x.ref.port) k then (ans .keySlot, d)
    else if !d.grants k 2 then (ans .keyUsage, d)
    else if d.rngDead then (ans .entropyFail, d)
    else if 2 ^ 32 ≤ y.uses then (ans .keyExhausted, d)
    else
      let r := d.generate 12
      let out := Config.gcmEnc y.bytes r.1 (x.src.take aadLen.toNat) (x.src.drop aadLen.toNat)
      ({ status := some .ok, result0 := leAt r.1 0 8, result1 := leAt r.1 8 4, dst := slice out 0 (textLen.toNat + 16),
         work := aadLen.toNat + textLen.toNat }, r.2.setKeyData k { y with uses := y.uses + 1 })

/-- AES_GCM_DEC; on a tag mismatch the destination is overwritten with zeros (R237). -/
def execAesGcmDec (x : Desc) (s : State) : Result :=
  let keySlot : BitVec 16 := x.par 0 16
  let aadLen : Word := x.par 4 32
  let textLen : Word := x.par 8 32
  let iv : BitVec 96 := x.par 0xC 96
  let ok := decide (aadLen.toNat ≤ 65536 ∧ textLen.toNat ≤ 0x1000000)
  act s fun d => d.cryptoCommand x 0x0121 ok fun d =>
    let k := keySlot.toNat
    let a := aadLen.toNat
    let n := textLen.toNat
    if x.src.length ≠ a + n + 16 ∨ x.dstLen ≠ n then (ans .lengthMismatch, d)
    else if !d.sourceSlot (Dev.issuer x.ref.port) k then (ans .keySlot, d)
    else if !d.grants k 2 then (ans .keyUsage, d)
    else match Config.gcmDec (d.key k).bytes (leBytes 12 iv.toNat) (x.src.take a) ((x.src.drop a).take n) (x.src.drop (a + n)) with
      | some b => ({ status := some .ok, result0 := n, dst := slice b 0 n, work := a + n }, d)
      | none => ({ status := some .authFail, dst := List.replicate n 0, work := a + n }, d.inc AES_TAG_FAIL)

/-- The queue of the signature engine takes no further operation of a port: 64 places, of which the host has 48 (R242). -/
def Dev.seFull (d : Dev) (p : Port) : Bool :=
  decide (64 ≤ d.seQueue.length) || (p ≠ .fw && decide (48 ≤ (d.seQueue.filter fun o => o.ref.port ≠ .fw).length))

/-- Signature bytes of an algorithm that signs (Table 07-8). -/
def signatureLen : Nat → Nat
  | 0 => 3309 | 1 => 4627 | _ => 96

/-- SIG_SIGN with a slot key (R240, R242). -/
def execSigSign (x : Desc) (s : State) : Result :=
  let keySlot : BitVec 16 := x.par 0 16
  let alg : Byte := x.par 2 8
  let ctxLen : Byte := x.par 3 8
  let msgLen : Word := x.par 4 32
  let a := alg.toNat
  act s fun d => d.cryptoCommand x 0x0128 (decide (a ≤ 2 ∧ msgLen.toNat ≤ 65536)) fun d =>
    let k := keySlot.toNat
    let c := ctxLen.toNat
    let m := (d.key k).bytes
    if x.src.length ≠ c + msgLen.toNat ∨ x.dstLen < signatureLen a then (ans .lengthMismatch, d)
    else if d.seFull x.ref.port then (ans .queueFull, d)
    else if !d.sourceSlot (Dev.issuer x.ref.port) k then (ans .keySlot, d)
    else if !d.grants k 4 || d.rd (KS_SLOT_TYPE k) ≠ (if a = 2 then 2 else a + 3) then (ans .keyUsage, d)
    else if d.rngDead then (ans .entropyFail, d)
    else
      let r := d.generate 32
      if 814 < Config.signAttempts a m x.src d.free then (ans .signLimit, r.2.inc SE_SIGN_LIMIT)
      else
        let sig := slice (Config.sign a m (x.src.take c) (x.src.drop c) d.free) 0 (signatureLen a)
        ({ status := some .ok, result0 := signatureLen a, dst := sig }, r.2)

/-- One verification by ALG of Table 08-6. -/
def sigVerifies (alg : Nat) (pk ctx msg sig : Bytes) : Bool :=
  match alg with
  | 0 => Config.mldsa65Verify pk ctx msg sig
  | 1 => Config.mldsa87Verify pk ctx msg sig
  | 2 => Config.ecdsaVerify pk (sha384b msg) sig
  | 3 => Config.lmsVerify 0 pk msg sig
  | _ => Config.lmsVerify 1 pk msg sig

/-- SIG_VERIFY (R240); `pk` is read from PK_ADDR, `sig` from DST. The status of a verification that fails is OK: VERDICT says
that it failed (R225). -/
def execSigVerify (x : Desc) (pk sig : Bytes) (s : State) : Result :=
  let alg : Byte := x.par 2 8
  let ctxLen : Byte := x.par 3 8
  let msgLen : Word := x.par 4 32
  let a := alg.toNat
  act s fun d => d.cryptoCommand x 0x0129 (decide (a ≤ 4 ∧ msgLen.toNat ≤ 65536)) fun d =>
    let c := ctxLen.toNat
    if x.src.length ≠ c + msgLen.toNat then (ans .lengthMismatch, d)
    else if d.seFull x.ref.port then (ans .queueFull, d)
    else ({ status := some .ok, verdict := Dev.verdictOf (sigVerifies a pk (x.src.take c) (x.src.drop c) sig) }, d)

/-- RNG_GET returns DRBG bytes (Table 08-6). -/
def execRngGet (x : Desc) (s : State) : Result :=
  let len : BitVec 16 := x.par 0 16
  let n := len.toNat
  act s fun d => d.cryptoCommand x 0x0130 (decide (1 ≤ n ∧ n ≤ 4096)) fun d =>
    if x.dstLen ≠ n then (ans .lengthMismatch, d)
    else if d.rngDead then (ans .entropyFail, d)
    else
      let r := d.generate n
      ({ status := some .ok, result0 := n, dst := r.1 }, r.2)

/-- CRYPTO_SELFTEST reruns tests; `failed` is the set that fails (R244). -/
def execCryptoSelftest (x : Desc) (failed : BitVec 16) (s : State) : Result :=
  let mask : BitVec 16 := x.par 0 16
  let m := mask.toNat
  act s fun d => (d.command x 0x0138 (m &&& 0x3FE = m) fun d =>
    let run := if m = 0 then 0x3FE else m
    let d1 := d.kat run failed.toNat
    let d2 := if d1.rd CR_STATE = 3 && m = 0 && failed.toNat &&& 0x3FE = 0 then (d1.wr CR_STATE 1).clear CR_KAT_FAIL else d1
    ({ status := some .ok, result0 := d2.rd CR_KAT_FAIL }, d2)).showEngines

/-! ## Events -/

/-- A crypto bus error (R227); `parity` for a parity error of the register bus. -/
def execCryptoBusError (parity : Bool) (s : State) : Result :=
  act s fun d => if d.awake && d.cst .crypto ≠ .off then d.busError parity else d

/-- The tests after a Squall end; `failed` is the set that failed (R230). -/
def execSquallSelftestDone (failed : BitVec 11) (s : State) : Result :=
  act s fun d => if d.awake && d.crypto.tests = .squall then d.testsEnd 0x3FE failed.toNat else d

/-- The power-up tests end (R244): tests 1 to 6 and 10. -/
def execPowerUpTestsDone (failed : BitVec 11) (s : State) : Result :=
  act s fun d => if d.awake && d.crypto.tests = .powerUp then d.testsEnd 0x47E failed.toNat else d

/-- A core-rail excursion below 0.690 V (0) or above 0.810 V (1), or a core-clock excursion (2) (R437). -/
def execClockVoltageExcursion (kind : Fin 3) (s : State) : Result :=
  act s fun d =>
    if d.awake then
      ((d.squall (if kind = 2 then CR_ALARM_CLOCK else CR_ALARM_VOLTAGE)).post .voltageAlarm (.cell .mon) (2 ^ kind.val)).tally 314
        (flag (kind ≠ 2))
    else d

/-- A health test of the entropy source fails: the source restarts, or goes to ERROR on a second failure within 500,000
frames (R239). -/
def execRngHealthFail (apt : Bool) (s : State) : Result :=
  act s fun d =>
    if d.awake && d.cst .rng = .active && d.rd RNG_STATE ≠ 2 then
      let second := match d.crypto.healthAt with
        | some f => decide (d.frame < f + 500000)
        | none => false
      let d1 := (d.raise (if apt then RNG_EVT_APT_FAIL else RNG_EVT_RCT_FAIL)).post .rngHealthFail (.cell .rng) (1 + flag apt)
      { d1.wr RNG_STATE (if second then 2 else 0) with crypto := { d1.crypto with healthAt := some d.frame } }
    else d

/-- The entropy source finishes its start-up test and leaves STARTUP (R238): the DRBG gets its first seed, and the wrap key is drawn that waited for
it (R221). -/
def execEntropyStartUpTestDone (s : State) : Result :=
  act s fun d =>
    if d.awake && d.cst .rng = .active && d.rd RNG_STATE = 0 then
      let d1 := d.wr RNG_STATE 1
      let d2 := if d1.crypto.seeded then d1 else d1.seed
      if d2.crypto.wrapDue then d2.newWrapKey else d2
    else d

/-- The DRBG reseeds after 65,536 requests or 500,000 frames (R238). -/
def execDrbgReseed (s : State) : Result :=
  act s fun d =>
    if d.awake && d.rd RNG_STATE = 1 && d.crypto.seeded && (decide (65536 ≤ d.crypto.gen) || decide (d.crypto.reseedAt + 500000 ≤ d.frame)) then d.reseed
    else d

end Sys2Proof.Machine
end

