-- ==== Sys2Proof/Machine/Otp.lean ====
section
/-! DEFINITION. The OTP array, its margins, burns, seals and locks, the life cycle, debug authorisation and zeroisation
(11_lifecycle_otp_debug.md R348 to R379). -/

namespace Sys2Proof.Machine

open Reg

/-- A 32-bit complement. -/
def not32 (v : Nat) : Nat := (2 ^ 32 - 1) ^^^ v

/-- The bits of `a` all lie in `b`. -/
def subset (a b : Nat) : Bool := a &&& b = a

/-- Number of contiguous bits from bit 0 that are 1. -/
def leadingOnes : Nat → Nat → Nat
  | 0, _ => 0
  | k + 1, v => if v % 2 = 1 then 1 + leadingOnes k (v / 2) else 0

/-- P_k, the pattern of LC_WORD[k] (R350). -/
def lcPattern : Nat → Nat
  | 0 => 0x3C5AA5C3 | 1 => 0x69969669 | 2 => 0x0FF0F00F | _ => 0xC33C3CC3

/-- The pattern of INTENT words, ZEROISE_INTENT and ZEROISE_DONE (R350). -/
def intentPattern : Nat := 0x55AA33CC

/-- The PROFILE word that selects a profile (R350). -/
def profilePattern (legacy : Bool) : Nat := if legacy then 0x3C00 else 0xC3

/-- A region with a seal word and a lock word (Table 11-1). -/
def lockable (g : Nat) : Bool := decide (3 ≤ g ∧ g < 32)

/-- Words of the repair path (R357). -/
def repairPath (w : Nat) : Bool :=
  decide (w ≤ 10) || decide (64 ≤ w ∧ w ≤ 73) || decide (128 ≤ w ∧ w ≤ 135) || (lockable (w / 64) && decide (62 ≤ w % 64))

namespace OtpWord

/-- The three reference levels differ (R351). -/
def weak (x : OtpWord) : Bool := !(x.normal = x.high && x.normal = x.low)

/-- Program a bit: what it reads at each level after the pulse; a bit never falls, and one that reads 1 at a stricter level
reads 1 at the others (R351, R354). -/
def burn (x : OtpWord) (i : Nat) (nrm hi lo : Bool) : OtpWord :=
  ⟨x.normal ||| (2 ^ i * flag (nrm || hi)), x.high ||| (2 ^ i * flag hi), x.low ||| (2 ^ i * flag (lo || nrm || hi))⟩

end OtpWord

namespace State

def word (s : State) (w : Nat) : OtpWord := SMap.get (fun _ => {}) s.otp w
def setWord (s : State) (w : Nat) (x : OtpWord) : State := { s with otp := SMap.set (fun _ => {}) s.otp w x }

/-- The value of a word: on the repair path what is burned at any level counts as burned (R351, R357). -/
def value (s : State) (w : Nat) : Nat := if repairPath w then (s.word w).low else (s.word w).normal

/-- Value of a counter: contiguous bits from bit 0 of its first word that read 1 at margin-low (R362). -/
def counter (s : State) (first words : Nat) : Nat :=
  leadingOnes (32 * words) (((List.range words).map fun i => 2 ^ (32 * i) * (s.word (first + i)).low).sum)

/-- The computed seal of a region (R349). -/
def sealWith (g : Nat) (v : Nat → Nat) : Nat :=
  leNat ((sha384b (BitVec.ofNat 8 g :: (List.range 62).flatMap fun i => leBytes 4 (v (64 * g + i)))).take 4)

def sealOf (s : State) (g : Nat) : Nat := sealWith g s.value

def writeLocked (s : State) (g : Nat) : Bool := lockable g && (s.value (64 * g + 63)) % 2 ^ 16 ≠ 0
def readLocked (s : State) (g : Nat) : Bool := lockable g && (s.value (64 * g + 63)) / 2 ^ 16 ≠ 0

/-- State of a region in OTP.REGION_STATE (R359): 0 OPEN, 1 SEAL_PARTIAL, 2 SEALED_UNLOCKED, 3 LOCKED. -/
def regionState (s : State) (g : Nat) : Nat :=
  if !lockable g then 0
  else if s.value (64 * g + 63) ≠ 0 then 3
  else if s.value (64 * g + 62) = 0 then 0
  else if s.value (64 * g + 62) = s.sealOf g then 2
  else 1

/-- A seal word with bits outside the computed seal, under a blank lock word (R359). -/
def sealBad (s : State) (g : Nat) : Bool :=
  lockable g && s.value (64 * g + 63) = 0 && !subset (s.value (64 * g + 62)) (s.sealOf g)

/-- CLASS of a slot (Table 11-2). -/
def slotClass (s : State) (k : Nat) : Nat := bits (s.value 258) (2 * k) 2

/-- Slot k is usable (R363). -/
def usable (s : State) (k : Nat) : Bool :=
  ((List.range 12).any fun i => s.value (64 * (5 + k / 4) + 12 * (k % 4) + i) ≠ 0) && (s.slotClass k = 1 || s.slotClass k = 2)
    && (s.word (128 + k)).low = 0

/-- The life-cycle state and whether its burn is incomplete (Table 11-5); none when no row fits. LC_WORD[2] may be blank under
LC_WORD[3], since Test goes to End-of-life directly (R366; DEDUCED, log entry 17). -/
def lcDecode (s : State) : Option (Nat × Bool) :=
  let l := s.value
  let exact := fun k => l k = lcPattern k
  let fits := (List.range 4).all fun k => subset (l k) (lcPattern k) && subset (l (4 + k)) intentPattern
  if !fits then none
  else if !exact 0 then (if l 4 ≠ 0 then some (0, true) else none)
  else if !exact 1 then (if l 5 ≠ 0 then some (1, true) else if l 2 = 0 ∧ l 3 = 0 then some (0, false) else none)
  else if exact 3 && (exact 2 || l 2 = 0) then some (3, false)
  else if l 7 ≠ 0 then some (3, true)
  else if exact 2 then some (2, false)
  else if l 6 ≠ 0 then some (2, true)
  else some (1, false)

/-- An integrity failure of R356, and the word to blame. -/
def integrityFail (s : State) : Option Nat :=
  let weakWord := s.otp.find? fun e => decide (e.1 < 576) && !repairPath e.1 && e.2.weak
  let badSeal := (List.range 32).find? fun g =>
    (s.writeLocked g && s.value (64 * g + 62) ≠ s.sealOf g) || (decide (g ≤ 8) && s.sealBad g)
  let gap := [(64, 4), (68, 4), (72, 2)].find? fun c =>
    (((List.range c.2).map fun i => 2 ^ (32 * i) * (s.word (c.1 + i)).low).sum) ≠ 2 ^ s.counter c.1 c.2 - 1
  match weakWord, badSeal, gap with
  | some e, _, _ => some e.1
  | none, some g, _ => some (64 * g + 62)
  | none, none, some c => some c.1
  | none, none, none =>
    if s.lcDecode.isNone then some 0
    else if subset (s.value 10) 0xC3 || subset (s.value 10) 0x3C00 then none else some 10

/-- The legacy profile as the PROFILE word has it: none when blank (R350, R357). -/
def fusedProfile (s : State) : Option Bool :=
  if s.value 10 = 0 then none else some (!subset (s.value 10) 0xC3)

/-! ## What the registers show of the array -/

/-- Registers that follow the array while the device runs: region states, read locks, counters, revocations and zeroisation
(Tables 11-10 and 11-11; R352 keeps what is in use as it was at the start; R364). -/
def showOtp (s : State) : State :=
  let d := s.dev
  let gs := ((List.range 32).map fun g => 4 ^ g * s.regionState g).sum
  let rl := ((List.range 32).map fun g => 2 ^ g * flag (s.readLocked g)).sum
  let rev := ((List.range 8).map fun k => 2 ^ k * flag ((s.word (128 + k)).low ≠ 0)).sum
  let d1 := d.wr OTP_REGION_STATE gs |>.wr OTP_RLOCK_MAP rl |>.wr LC_CNT_FW_SVN (s.counter 64 4)
    |>.wr LC_CNT_POL_SVN (s.counter 68 4) |>.wr POL_FUSED_SVN (s.counter 68 4) |>.wr LC_CNT_DEBUG (s.counter 72 2) |>.wr FW_FUSED_SVN (s.counter 64 4)
    |>.wr LC_OKS_REVOKED rev |>.wr LC_OKS_USABLE (d.rd LC_OKS_USABLE &&& (255 ^^^ rev))
    |>.wr LC_STATE_ZEROISED (flag (s.value 8 ≠ 0 || s.value 9 ≠ 0))
    |>.wr OTP_STATUS_BUSY (flag !d.otpx.burns.isEmpty) |>.wr PAIR_BOUND (flag (s.writeLocked 8 && s.value 8 = 0))
  { s with dev := if (List.range 32).any s.sealBad then d1.raise OTP_EVT_SEAL_BAD else d1 }

/-- What a start latches: every word as in use, the owner's configuration and the slots (R352, Table 11-2), with the life-cycle
state. -/
def latchOtp (s : State) : State :=
  let l := s.lcDecode.getD (0, false)
  let us := ((List.range 8).map fun k => 2 ^ k * flag (s.usable k)).sum
  let fz := s.otp.foldl (fun m e => SMap.set (fun _ => 0) m e.1 (s.value e.1)) []
  let d1 := { s.dev with fuses := fz }.wr LC_STATE_STATE l.1 |>.wr LC_CONFIG_BOOT_ORDER (s.value 256 % 8)
    |>.wr LC_CONFIG_COSIGN_REQ (s.value 257) |>.wr LC_CONFIG_APPROVED (s.value 257 / 2) |>.wr LC_CONFIG_TAMPER_ZEROISE (s.value 257 / 4)
    |>.wr LC_CONFIG_PROFILE (match s.fusedProfile with
      | none => 0
      | some leg => 1 + flag leg)
    |>.wr LC_OKS_CLASS (s.value 258) |>.wr LC_OKS_USABLE us |>.clear LC_STATE_REPAIR
  showOtp { s with dev := d1 }

end State

namespace Dev

/-- Programming is permitted: Tj between 0 and 85 °C, and VQPS or the pump available (R354). -/
def otpSupply (d : Dev) : Bool :=
  let t := signed16 (d.rd MON_TJ)
  (d.on OTP_STATUS_VQPS_OK || d.otpx.pump) && decide (0 ≤ t ∧ t ≤ 340)

/-- Latest status of an OTP command (Table 11-10), and of a life-cycle command (Table 11-11). -/
def otpStatus (d : Dev) (s : Status) : Dev :=
  let d1 := d.wr OTP_STATUS_LAST_STATUS s.code
  if s = .otpProgramFail then d1.inc OTP_FAIL_CNT else d1
def lcStatus (d : Dev) (s : Status) : Dev := d.wr LC_STATE_LAST_STATUS s.code

/-- Serial of the device (region 3). -/
def serial (d : Dev) : Bytes := d.fuseBytes 192 4

/-- DEV.DEVICE_ID on stepping B0 (R2). -/
def deviceId : Nat := 0x964000B0

/-- The device secret path closes and the identity keys are absent until the next device reset (R372 to R374). -/
def closeSecret (d : Dev) (idState : Nat) : Dev :=
  { d with otpx := { d.otpx with secretClosed := true } }.wr ATT_ID_STATE idState

/-- Steps 1 and 2 of R374 as far as they need no supply: the path closes, every slot is zeroised, the Crypto complex is
cleared; `why` is 0 for a command, 1 for tamper, 2 for a transition. -/
def zeroiseKeys (d : Dev) (why : Nat) : Dev :=
  (((d.closeSecret 2).zeroiseSlots fun _ => true).clearCrypto none false).post .zeroised (.cell .lc) why

/-! ## Tokens (R365) -/

/-- A token for a command: KIND, ARG, SUBJECT and SEQ that it must name, and a slot that may not sign it. -/
def tokenCheck (d : Dev) (kind arg : Nat) (subject : Bytes) (seq : Nat) (notSlot : Option Nat) (b : Bytes) : Option Status :=
  let k := leAt b 8 1
  if leAt b 0 4 ≠ 0x4B545846 ∨ leAt b 4 2 ≠ 1 ∨ !decide (1 ≤ leAt b 6 1 ∧ leAt b 6 1 ≤ 5) ∨ 7 < k ∨ !zeroAt b 9 3
      ∨ !zeroAt b 0x34 12 then some .policyFormat
  else if b.length ≠ 7476 then some .lengthMismatch
  else if !d.slotIntact k then some .keyRevoked
  else if d.rd CR_STATE = 3 then some .selftestFail
  else if notSlot = some k ∨ !d.signedBy true k (b.take 64) (sigBlock b 64) then some .authFail
  else if leAt b 6 1 ≠ kind ∨ leAt b 7 1 ≠ arg ∨ leAt b 0xC 4 ≠ deviceId ∨ slice b 0x10 16 ≠ d.serial
      ∨ slice b 0x20 16 ≠ subject ∨ leAt b 0x30 4 ≠ seq then some .authFail
  else none

/-- What the verification of a token leaves in the signature engine's registers (R224, R241). -/
def sawToken (d : Dev) (notSlot : Option Nat) (b : Bytes) : Dev :=
  let k := leAt b 8 1
  d.sawVerify (if b.length = 7476 && (d.tokenCheck 0 0 [] 0 notSlot b = some .authFail) && notSlot ≠ some k then
    d.hybrid true k (b.take 64) (sigBlock b 64) else none)

/-- A grant opens JTAG to a level (R372). -/
def grant (d : Dev) (level : Nat) : Dev :=
  let d1 := (d.wr DBG_STATE_LEVEL level |>.raise DBG_STATE_GRANTED |>.wr DBG_STATE_LAST_STATUS 0).post .debugGranted (.cell .dbg) level
  if level = 2 then (d1.zeroiseSlots fun _ => true).closeSecret 0 else d1

/-- The device is in approved mode (R375). -/
def approved (d : Dev) : Bool :=
  d.lc = .production && d.on LC_CONFIG_APPROVED && d.rd DBG_STATE_LEVEL = 0 && d.rd CR_STATE = 1 && d.rd RNG_STATE = 1

/-- Every component's OXM is to be examined for a revoked slot (R199). -/
def revokedEverywhere (d : Dev) (k : Nat) : Dev :=
  allGcs.foldl (fun d n => if d.named n then d.setComp n { d.comp n with revoked := some k } else d) d

end Dev

namespace State

/-! ## Burns (R354 to R358) -/

/-- An act within a burn; `pulses` counts the burn's pulses so far. -/
def burnAct (s : State) (a : BurnAct) (pulses : Nat) : State :=
  let d := s.dev
  match a with
  | .answer r => { s with dev := (d.otpStatus .ok).answerOp r (ans .ok) }
  | .pulses r => { s with dev := (d.otpStatus .ok).answerOp r { status := some .ok, result0 := pulses } }
  | .reburn _ =>
    if s.otp.any fun e => decide (e.1 < 576) && !repairPath e.1 && e.2.weak then s else { s with dev := d.clear OTP_STATUS_WEAK_SECURITY }
  | .revoke k => { s with dev := ((d.lcStatus .ok).revokedEverywhere k).post .oksRevoked (.cell .lc) k }
  | .transition k r =>
    let d1 := (d.lcStatus .ok).post .lcTransition (.cell .lc) k
    let d2 := match r with
      | some x => d1.answerOp x (ans .ok)
      | none => d1
    { s with dev := { d2 with run := { d2.run with resetDue := some (d2.frame + 1) } } }
  | .zeroise r => { s with dev := match r with
      | some x => (d.lcStatus .ok).answerOp x (ans .ok)
      | none => d }
  | .clearKeys why => { s with dev := d.zeroiseKeys why }
  | .policySvn => { s with dev := { d with pol := { d.pol with stored := true } } }
  | .grant l r => { s with dev := (d.grant l).answerOp r { status := some .ok, result0 := l, result1 := s.counter 72 2 } }
  | .repaired => { s with dev := { d.clear OTP_STATUS_REPAIR_WAIT with otpx := { d.otpx with zeroiseDue := false } } }
  | .lcRepaired => { s with dev := { d with run := { d.run with resetDue := some (d.frame + 1) } } }
  | .bound r => { s with dev := (((d.raise PAIR_BOUND).clear PAIR_LAST_STATUS).answerOp r (ans .ok)).post .pairBound (.cell .keeper) 0 }

/-- Bits of a step that still need a pulse (R355, R358). -/
def missingBits (s : State) (w v : Nat) (strong : Bool) : Nat :=
  v &&& not32 (if strong then (s.word w).high else (s.word w).normal)

/-- The pump is charged while a burn without VQPS is under way (R354). -/
def showPump (s : State) : State :=
  { s with dev := (s.dev.wr OTP_STATUS_PUMP_OK (flag (!s.dev.otpx.burns.isEmpty && !s.dev.on OTP_STATUS_VQPS_OK))) }

/-- Run the burns in order up to the next pulse. -/
def burnOn : Nat → State → State
  | 0, s => s
  | n + 1, s =>
    match s.dev.otpx.burns with
    | [] => s
    | b :: rest =>
      let put := fun (s : State) (l : List Burn) => { s with dev := { s.dev with otpx := { s.dev.otpx with burns := l } } }
      if b.pulse.isSome then s
      else match b.steps with
        | [] => burnOn n (put s rest)
        | .act a :: r => burnOn n ((put s ({ b with steps := r } :: rest)).burnAct a b.pulses)
        | .word w v st :: r =>
          let m := s.missingBits w v st
          if m = 0 then burnOn n (put s ({ b with steps := r } :: rest))
          else put s ({ b with pulse := some (w, Dev.lowestBit m), tries := 0 } :: rest)

/-- Enough rounds to reach the next pulse of any burn that waits. -/
def burnAhead (s : State) : State :=
  ((burnOn (2 * (s.dev.otpx.burns.map fun b => b.steps.length + 2).sum) s).showOtp).showPump

/-- A burn is entered behind those under way. -/
def addBurn (s : State) (steps : List BurnStep) (r : Option OpRef) : State :=
  { s with dev := { s.dev with otpx := { s.dev.otpx with burns := s.dev.otpx.burns ++ [⟨steps, none, 0, 0, r⟩] } } }

/-- A burn of the firmware's own is started; a burn under way comes first. -/
def startBurn (s : State) (steps : List BurnStep) (r : Option OpRef) : State := burnAhead (s.addBurn steps r)

/-- A command whose body may enter a burn: the burn starts once the operation has been entered, so that one with no bit left to
pulse answers at once (R273, R355). -/
def burnCommand (s : State) (x : Desc) (o : Nat) (paramOk : Bool) (body : State → Ans × State) : State :=
  let r := s.dev.takeUp x o paramOk
  if r.1 then
    let b := body { s with dev := r.2 }
    let t : State := { b.2 with dev := b.2.dev.enterOp x o b.1 }
    if b.1.status.isNone then t.burnAhead else t
  else { s with dev := r.2 }

/-- A burn that fails ends with OTP_PROGRAM_FAIL (R354, R372). -/
def burnFails (s : State) (b : Burn) (rest : List Burn) : State :=
  let d := { s.dev with otpx := { s.dev.otpx with burns := rest } }.otpStatus .otpProgramFail
  let lcs := b.steps.any fun x => match x with
    | .act (.transition _ _) => true
    | .act (.zeroise _) => true
    | .act (.revoke _) => true
    | _ => false
  let grants := b.steps.any fun x => match x with
    | .act (.grant _ _) => true
    | _ => false
  let pol := b.steps.any fun x => match x with
    | .act .policySvn => true
    | _ => false
  let binds := b.steps.any fun x => match x with
    | .act (.bound _) => true
    | _ => false
  let d0 := if binds then d.wr PAIR_LAST_STATUS Status.otpProgramFail.code else d
  let d1 := if lcs then d0.lcStatus .otpProgramFail else d0
  let d2 := if grants then d1.wr DBG_STATE_LAST_STATUS Status.otpProgramFail.code else d1
  let d3 := if pol then d2.loadFails .otpProgramFail else d2
  burnAhead { s with dev := match b.requester with
    | some r => d3.answerOp r (ans .otpProgramFail)
    | none => d3 }

/-- A pulse ends, and the bit is read at the three levels (R354): the next pulse, a further pulse, or failure. -/
def pulseEnd (s : State) (nrm hi lo : Bool) : State :=
  match s.dev.otpx.burns with
  | [] => s
  | b :: rest => match b.pulse with
    | none => s
    | some (w, i) =>
      let t := s.setWord w ((s.word w).burn i nrm hi lo)
      let d := (t.dev.inc OTP_PULSE_CNT).tally 308 1
      let b1 := { b with pulses := b.pulses + 1 }
      let put := fun (l : List Burn) => { t with dev := { d with otpx := { d.otpx with burns := l } } }
      if hi || b.steps = [] then burnAhead (put ({ b1 with pulse := none, tries := 0 } :: rest))
      else if b.tries < 3 then showOtp (put ({ b1 with tries := b.tries + 1 } :: rest))
      else burnFails { t with dev := d } b1 rest

/-! ## Burn lists -/

/-- Burn bits [v, v') of a counter in ascending order (R362). -/
def counterSteps (first v upTo : Nat) : List BurnStep :=
  (List.range 4).filterMap fun i =>
    let m := ((List.range 32).map fun j => if decide (v ≤ 32 * i + j ∧ 32 * i + j < upTo) then 2 ^ j else 0).sum
    if m = 0 then none else some (.word (first + i) m true)

/-- Seal and lock words of a region whose words are to be `v` (R360 steps 3 and 4). -/
def lockSteps (g : Nat) (v : Nat → Nat) (read : Bool) : List BurnStep :=
  [.word (64 * g + 62) (sealWith g v) true, .word (64 * g + 63) (if read then 0xFFFFFFFF else 0xFFFF) true]

/-- Step 3 of ZEROISE, after ZEROISE_INTENT (R374). -/
def zeroiseSteps : List BurnStep :=
  .word 8 intentPattern true :: ((List.range' 448 128).map fun w => .word w 0xFFFFFFFF true) ++ [.word 9 intentPattern true]

/-- ZEROISE has been started and not finished. -/
def zeroiseOpen (s : State) : Bool := s.value 8 ≠ 0 && s.value 9 ≠ intentPattern

/-- Words of the repair path that are WEAK or partly burned, with their intended values (R357): life-cycle words, the zeroisation
words and PROFILE, counter bits, revoke words, lock words, and seal words under a lock. -/
def repairWords (s : State) : List BurnStep :=
  let lcw := (List.range 8).map fun w => (w, (s.word w).low)
  let prof := match s.fusedProfile with
    | some leg => [(10, profilePattern leg)]
    | none => []
  let ctr := (List.range' 64 10).map fun w => (w, (s.word w).low)
  let rev := (List.range' 128 8).map fun w => (w, if (s.word w).low = 0 then 0 else 0xFFFFFFFF)
  let locks := ((List.range 32).filter lockable).flatMap fun g =>
    let l := (s.word (64 * g + 63)).low
    let v := (if l % 2 ^ 16 = 0 then 0 else 0xFFFF) + if l / 2 ^ 16 = 0 then 0 else 0xFFFF0000
    [(64 * g + 63, v), (64 * g + 62, if l = 0 then 0 else (s.word (64 * g + 62)).low)]
  let zero := [8, 9].map fun w => (w, if (s.word w).low = 0 then 0 else intentPattern)
  ((lcw ++ zero ++ prof ++ ctr ++ rev ++ locks).filter fun e => s.missingBits e.1 e.2 true ≠ 0).map fun e => BurnStep.word e.1 e.2 true

/-- What the repair path has to burn, the rest of a ZEROISE included (R357, R374). -/
def repairSteps (s : State) : List BurnStep :=
  s.repairWords ++ if s.zeroiseOpen || s.dev.otpx.zeroiseDue then zeroiseSteps else []

/-- What completes an incomplete life-cycle burn to state k (R368). -/
def lcSteps (s : State) (k : Nat) : List BurnStep :=
  (if 2 ≤ k ∧ s.value 10 = 0 then [.word 10 (profilePattern s.dev.run.profile) true]
    else match s.fusedProfile with
      | some leg => [.word 10 (profilePattern leg) true]
      | none => [])
    ++ (if s.zeroiseOpen then zeroiseSteps else []) ++ [.word (4 + k) intentPattern true, .word k (lcPattern k) true]

/-- ZEROISE of R374: what needs no supply takes effect at once; the burns wait for one (R357). -/
def zeroise (s : State) (why : Nat) (r : Option OpRef) : State :=
  let d := s.dev.zeroiseKeys why
  if d.otpSupply then addBurn { s with dev := d } (zeroiseSteps ++ [.act (.zeroise r)]) r
  else { s with dev := { d.raise OTP_STATUS_REPAIR_WAIT with otpx := { d.otpx with zeroiseDue := true } } }

/-! ## Command bodies -/

/-- Refusal and status of an OTP command. -/
def otpRefuse (s : State) (st : Status) : Ans × State := (ans st, { s with dev := s.dev.otpStatus st })

/-- A burn list has a bit left to pulse: the command must program (R354, R355). -/
def mustProgram (s : State) (steps : List BurnStep) : Bool :=
  steps.any fun x => match x with
    | .word w v st => s.missingBits w v st ≠ 0
    | .act _ => false

/-- A command burns: refused without a supply when it must program, else answered when its burn ends (R354). -/
def otpBurn (s : State) (r : OpRef) (steps : List BurnStep) : Ans × State :=
  if s.mustProgram steps && !s.dev.otpSupply then s.otpRefuse .otpNoSupply
  else ({ status := none }, s.addBurn steps (some r))

/-- Words of one command lie in one region (R376). -/
def oneRegion (w n : Nat) : Bool := decide (1 ≤ n ∧ n ≤ 64 ∧ w < 2048 ∧ w / 64 = (w + n - 1) / 64)

/-- The life-cycle state lets a host program words of a region (Table 11-1). -/
def mayProgram (s : State) (g : Nat) : Bool :=
  (decide (4 ≤ g ∧ g ≤ 6) && s.dev.open_) || (decide (16 ≤ g) && s.dev.lc ≠ .endOfLife)

/-- OTP_READ (R353). -/
def otpRead (s : State) (x : Desc) (w n : Nat) : Ans × State :=
  let ws := List.range' w n
  let weak := ws.filter fun v => (s.word v).weak
  if x.src ≠ [] ∨ x.dstLen < 4 * n then s.otpRefuse .lengthMismatch
  else if s.readLocked (w / 64) then s.otpRefuse .otpLocked
  else
    let st := if weak = [] then Status.ok else .otpWeak
    ({ status := some st, result0 := weak.length, result1 := weak.head?.getD 0xFFFFFFFF,
       dst := ws.flatMap fun v => leBytes 4 (s.word v).normal }, { s with dev := (s.dev.otpStatus st).tally 307 n })

/-- OTP_PROGRAM (R355). -/
def otpProgram (s : State) (x : Desc) (w n : Nat) : Ans × State :=
  let g := w / 64
  let vs := (List.range n).map fun i => (w + i, leAt x.src (4 * i) 4)
  if x.src.length ≠ 4 * n then s.otpRefuse .lengthMismatch
  else if !s.mayProgram g then s.otpRefuse .lifecycleDenied
  else if s.regionState g ≠ 0 then s.otpRefuse .otpLocked
  else if vs.any fun e => !subset (s.word e.1).low e.2 then s.otpRefuse .otpProgramFail
  else s.otpBurn x.ref ((vs.map fun e => BurnStep.word e.1 e.2 false) ++ [.act (.pulses x.ref)])

/-- OTP_REBURN (R358). -/
def otpReburn (s : State) (x : Desc) (w : Nat) : Ans × State :=
  let v := leAt x.src 0 4
  let g := w / 64
  if x.src.length ≠ 4 then s.otpRefuse .lengthMismatch
  else if !subset (s.word w).low v then s.otpRefuse .otpProgramFail
  else if s.writeLocked g && sealWith g (fun y => if y = w then v else s.value y) ≠ (if w % 64 = 62 then v else s.value (64 * g + 62)) then
    s.otpRefuse .authFail
  else s.otpBurn x.ref [.word w v true, .act (.reburn w), .act (.pulses x.ref)]

/-- Blank required fields of a region (Table 11-3): the bit of each field is its place in the table, slots in order. -/
def blankFields (s : State) (g : Nat) : Nat :=
  let blank := fun (w n : Nat) => (List.range n).all fun i => s.value (w + i) = 0
  if g = 4 then flag (s.value 256 / 4 % 2 = 0)
    + ((List.range 8).map fun k => 2 ^ (k + 1) * flag (s.slotClass k ≠ 1 ∧ s.slotClass k ≠ 2)).sum
  else if g = 5 ∨ g = 6 then ((List.range 4).map fun k => 2 ^ k * flag (blank (64 * g + 12 * k) 12)).sum
  else if g = 7 then flag (blank 448 8)
  else if g = 8 then flag (blank 512 8) + 2 * flag (blank 520 4)
  else 0

/-- OTP_LOCK (R360). -/
def otpLock (s : State) (x : Desc) (g : Nat) (read force : Bool) : Ans × State :=
  if x.src ≠ [] then s.otpRefuse .lengthMismatch
  else if !lockable g then s.otpRefuse .lifecycleDenied
  else if s.writeLocked g && (!read || s.readLocked g) then s.otpRefuse .otpLocked
  else if s.sealBad g then s.otpRefuse .otpProgramFail
  else if s.regionState g = 0 && s.blankFields g ≠ 0 && !force then
    ({ status := some .lockIncomplete, result0 := s.blankFields g }, { s with dev := s.dev.otpStatus .lockIncomplete })
  else s.otpBurn x.ref (lockSteps g s.value read ++ [.act (.answer x.ref)])

/-- Refusal of a life-cycle command. -/
def lcRefuse (s : State) (st : Status) : Ans × State := (ans st, { s with dev := s.dev.lcStatus st })

/-- A life-cycle command burns, unless it must program and there is no supply (R354). -/
def lcBurn (s : State) (r : OpRef) (steps : List BurnStep) : Ans × State :=
  if s.mustProgram steps && !s.dev.otpSupply then s.lcRefuse .otpNoSupply else ({ status := none }, s.addBurn steps (some r))

/-- KEY_REVOKE (R364). -/
def keyRevoke (s : State) (x : Desc) (k : Nat) : Ans × State :=
  let d := s.dev
  let same := fun j => j ≠ k && d.slotUsable j && bits (d.rd LC_OKS_CLASS) (2 * j) 2 = bits (d.rd LC_OKS_CLASS) (2 * k) 2
  let t := if d.open_ then none else d.tokenCheck 1 k (List.replicate 16 0) 0 (some k) x.src
  let s : State := if d.open_ then s else s.onDev fun d => d.sawToken (some k) x.src
  match t with
  | some st => s.lcRefuse st
  | none =>
    if d.slotUsable k && !((List.range 8).any same) then s.lcRefuse .lastOwnerKey
    else s.lcBurn x.ref [.word (128 + k) 0xFFFFFFFF true, .act (.revoke k), .act (.answer x.ref)]

/-- Steps of a transition to state k, with a fresh device secret for Test (R366, R367, Table 11-4). -/
def transitionSteps (s : State) (k : Nat) (secret : Bytes) (r : OpRef) : List BurnStep :=
  let words := (List.range 8).map fun i => (448 + i, leAt secret (4 * i) 4)
  let after := fun (w : Nat) => (((words.find? fun e => e.1 = w).map Prod.snd).getD 0) ||| s.value w
  let profile := [BurnStep.word 10 (profilePattern s.dev.legacy) true]
  let work := match k with
    | 1 => (words.map fun e => BurnStep.word e.1 e.2 false) ++ lockSteps 7 after true
    | 2 => profile
    | _ => (if s.value 10 = 0 then profile else [])
        ++ (if s.value 9 = intentPattern then []
            else .word 8 intentPattern true :: .act (.clearKeys 2) :: zeroiseSteps)
  .word (4 + k) intentPattern true :: work ++ [.word k (lcPattern k) true, .act (.transition k (some r))]

/-- Condition of a transition (Table 11-4): nothing is burned when it fails (R367). -/
def transitionRefusal (s : State) (x : Desc) (k : Nat) : Option Status :=
  let d := s.dev
  let from_ := d.lc.code
  let locked := fun gs => gs.all fun g => s.regionState g = 3
  if !((k = from_ + 1 ∧ 1 ≤ k ∧ k ≤ 3) ∨ (from_ = 1 ∧ k = 3)) then some .lifecycleDenied
  else if k = 1 then
    if !locked [3] then some .lockIncomplete else if d.rngDead then some .entropyFail else none
  else if k = 2 then
    if !locked [3, 4, 5, 6, 7] then some .lockIncomplete
    else if !(List.range 8).any fun j => s.usable j && s.slotClass j = 1 then some .lifecycleDenied else none
  else if from_ = 2 then d.tokenCheck 2 3 (List.replicate 16 0) 0 none x.src
  else none

/-- LC_TRANSITION (R366, R367). -/
def lcTransition (s0 : State) (x : Desc) (k : Nat) : Ans × State :=
  let s := if s0.dev.lc.code = 2 && k = 3 then s0.onDev fun d => d.sawToken none x.src else s0
  match s.transitionRefusal x k with
  | some st => s.lcRefuse st
  | none =>
    if !s.dev.otpSupply then s.lcRefuse .otpNoSupply
    else if k = 1 then
      let r := s.dev.generate 32
      ({ status := none }, addBurn { s with dev := r.2 } (s.transitionSteps k r.1 x.ref) (some x.ref))
    else ({ status := none }, s.addBurn (s.transitionSteps k [] x.ref) (some x.ref))

/-- ZEROISE by command (R374). -/
def zeroiseCommand (s : State) (x : Desc) : Ans × State :=
  if x.src ≠ [] then s.lcRefuse .lengthMismatch
  else if s.dev.otpSupply then ({ status := none }, s.zeroise 0 (some x.ref))
  else s.zeroise 0 none |>.lcRefuse .otpNoSupply

end State

namespace Dev

/-! ## Debug (R370 to R372) -/

/-- The body of a debug challenge (R371). -/
def challengeBody (d : Dev) (level : Nat) (nonce : Bytes) : Bytes :=
  padTo 128 (leBytes 4 0x43445846 ++ leBytes 2 1 ++ leBytes 1 level ++ leBytes 1 0 ++ leBytes 4 deviceId ++ leBytes 4 d.lc.code
    ++ d.serial ++ nonce ++ leBytes 1 (d.rd LC_CNT_DEBUG) ++ leBytes 1 0xFF)

/-- DEBUG_CHALLENGE opens nothing at a level that the state does not allow (R371 step 1). -/
def challengeDenied (d : Dev) (level : Nat) : Bool :=
  d.open_ || (d.lc = .endOfLife && level ≠ 3) || (d.lc ≠ .endOfLife && level = 3)
    || (level = 3 && d.fuse 9 ≠ intentPattern)

/-- The open challenge closes. -/
def closeChallenge (d : Dev) : Dev :=
  { d with dbg := { d.dbg with challenge := none } }.clear DBG_STATE_CHALLENGE_OPEN |>.clear DBG_CHALLENGE_LEFT

/-- A body as a response must repeat it: MAGIC, FLAGS and OWNER_SLOT apart (Table 11-7 step 3). -/
def sameBody (c b : Bytes) : Bool :=
  (List.range 128).all fun i => decide (i < 4) || i = 7 || i = 0x41 || slice b i 1 = slice c i 1

/-- The keys of a debug response are the authority's. -/
def fromAuthority (b : Bytes) : Bool := Config.authorityKeys (slice b 128 1952 ++ slice b 2080 97)

/-- The authority's keys, and both its signatures over the body (R371). -/
def authoritySigned (b : Bytes) : Bool :=
  let body := b.take 128
  fromAuthority b && Config.mldsa65Verify (slice b 128 1952) [] body (slice b 2177 3309)
    && Config.ecdsaVerify (slice b 2080 97) (sha384b body) (slice b 5486 96)

/-- Checks of Table 11-7 on a debug response. -/
def responseCheck (d : Dev) (b : Bytes) : Option Status :=
  let body := b.take 128
  let level := leAt b 6 1
  let co := bit (leAt b 7 1) 0
  match d.dbg.challenge with
  | none => some .debugDenied
  | some (c, _) =>
    if b.length ≠ (if co then 12994 else 5582) then some .lengthMismatch
    else if !sameBody c b || leAt b 0 4 ≠ 0x52445846 || !decide (leAt b 7 1 < 2) then some .debugDenied
    else if d.rd CR_STATE = 3 then some .selftestFail
    else
      if !authoritySigned b then some .authFail
      else if d.on LC_CONFIG_COSIGN_REQ && !(co && d.signedBy true (leAt b 0x41 1) body (sigBlock b 5582)) then some .authFail
      else if d.open_ || (d.lc = .endOfLife && (level ≠ 3 || d.fuse 9 ≠ intentPattern)) || (d.lc = .production && level = 3) then
        some .lifecycleDenied
      else if level ≠ 3 ∧ 64 ≤ d.rd LC_CNT_DEBUG then some .debugDenied
      else none

/-- What the verifications of a debug response leave in the signature engine's registers (R224, R241). -/
def sawResponse (d : Dev) (b : Bytes) : Dev :=
  let co := bit (leAt b 7 1) 0
  match d.dbg.challenge with
  | none => d
  | some (c, _) =>
    if b.length ≠ (if co then 12994 else 5582) || !sameBody c b || leAt b 0 4 ≠ 0x52445846 || !decide (leAt b 7 1 < 2)
        || d.rd CR_STATE = 3 || !fromAuthority b then d
    else
      let d1 := d.sawVerify (some (authoritySigned b))
      if authoritySigned b && co && d.on LC_CONFIG_COSIGN_REQ then
        d1.sawVerify (d.hybrid true (leAt b 0x41 1) (b.take 128) (sigBlock b 5582))
      else d1

end Dev

/-- DEBUG_RESPONSE (R371, R372). -/
def debugResponse (s : State) (x : Desc) : Ans × State :=
  let d := s.dev
  let d1 := (d.sawResponse x.src).closeChallenge
  let s : State := { s with dev := d1 }
  match d.responseCheck x.src with
  | some st => (ans st, { s with dev := (d1.wr DBG_STATE_LAST_STATUS st.code).inc DBG_DENIED_CNT })
  | none =>
    let level := leAt x.src 6 1
    let n := s.counter 72 2
    if level = 3 then
      ({ status := some .ok, result0 := level, result1 := n }, { s with dev := d1.grant level })
    else if !d.otpSupply then (ans .otpNoSupply, { s with dev := d1.wr DBG_STATE_LAST_STATUS Status.otpNoSupply.code })
    else ({ status := none },
      State.addBurn { s with dev := d1 } (State.counterSteps 72 n (n + 1) ++ [.act (.grant level x.ref)]) (some x.ref))

/-! ## Meanings -/

/-- OTP_READ (R353). -/
def execOtpRead (x : Desc) (s : State) : Result :=
  let word : BitVec 16 := x.par 0 16
  let count : BitVec 16 := x.par 2 16
  .next (s.command x 0x0600 (State.oneRegion word.toNat count.toNat) fun s => s.otpRead x word.toNat count.toNat)

/-- OTP_PROGRAM (R355). -/
def execOtpProgram (x : Desc) (s : State) : Result :=
  let word : BitVec 16 := x.par 0 16
  let count : BitVec 16 := x.par 2 16
  .next (s.burnCommand x 0x0601 (State.oneRegion word.toNat count.toNat) fun s => s.otpProgram x word.toNat count.toNat)

/-- OTP_REBURN (R358). -/
def execOtpReburn (x : Desc) (s : State) : Result :=
  let word : BitVec 16 := x.par 0 16
  .next (s.burnCommand x 0x0602 (decide (word.toNat < 2048)) fun s => s.otpReburn x word.toNat)

/-- OTP_LOCK (R360). -/
def execOtpLock (x : Desc) (s : State) : Result :=
  let region : Byte := x.par 0 8
  let read : Bool := x.raw.getLsbD 264
  let force : Bool := x.raw.getLsbD 265
  .next (s.burnCommand x 0x0603 (decide (region.toNat < 32)) fun s => s.otpLock x region.toNat read force)

/-- KEY_REVOKE (R364). -/
def execKeyRevoke (x : Desc) (s : State) : Result :=
  let slot : Byte := x.par 0 8
  .next (s.burnCommand x 0x0604 (decide (slot.toNat < 8)) fun s => s.keyRevoke x slot.toNat)

/-- LC_TRANSITION (R367). -/
def execLcTransition (x : Desc) (s : State) : Result :=
  let target : Byte := x.par 0 8
  .next (s.burnCommand x 0x0608 (decide (target.toNat < 4)) fun s => s.lcTransition x target.toNat)

/-- DEBUG_CHALLENGE (R371); a new challenge replaces an open one. -/
def execDebugChallenge (x : Desc) (s : State) : Result :=
  let level : Byte := x.par 0 8
  act s fun d => d.command x 0x0609 (decide (1 ≤ level.toNat ∧ level.toNat ≤ 3)) fun d =>
    if x.src ≠ [] ∨ x.dstLen < 128 then (ans .lengthMismatch, d)
    else if d.challengeDenied level.toNat then (ans .lifecycleDenied, d)
    else if d.rngDead then (ans .entropyFail, d)
    else
      let r := d.generate 32
      let b := r.2.challengeBody level.toNat r.1
      let d1 := { r.2 with dbg := { r.2.dbg with challenge := some (b, r.2.frame + 150000000) } }
      ({ status := some .ok, dst := b }, (d1.raise DBG_STATE_CHALLENGE_OPEN).wr DBG_CHALLENGE_LEFT 150000000)

/-- DEBUG_RESPONSE (R371). -/
def execDebugResponse (x : Desc) (s : State) : Result :=
  .next (s.burnCommand x 0x060A true fun s => debugResponse s x)

/-- An open challenge expires after 150,000,000 frames (R371). -/
def execChallengeExpiry (s : State) : Result :=
  act s fun d => match d.dbg.challenge with
    | some (_, f) => if f ≤ d.frame then d.closeChallenge else d
    | none => d

/-- ZEROISE with PARAM CONFIRM (R374). -/
def execZeroise (x : Desc) (s : State) : Result :=
  let confirm : Word := x.par 0 32
  .next (s.burnCommand x 0x060B (confirm.toNat = 0x5A45524F) fun s => s.zeroiseCommand x)

/-- A timed pulse ends; what the bit reads at normal, margin-high and margin-low (R354). -/
def execOtpPulseEnd (nrm hi lo : Bool) (s : State) : Result := .next (s.pulseEnd nrm hi lo)

/-- Every 10 frames one word is re-read; `hi` and `lo` are what it reads at margin-high and margin-low (R351, R352). The value
at the normal level stands (log entry 18). -/
def otpRecheck (s : State) (hi lo : Word) : State :=
  let w := s.dev.otpx.recheck
  let y := s.word w
  let t := s.setWord w ⟨y.normal, hi.toNat &&& y.normal, lo.toNat ||| y.normal⟩
  let d := (t.dev.tally 307 1)
  let d0 := { d with otpx := { d.otpx with recheck := (w + 1) % 2048, recheckAt := d.frame } }
  let d1 := if w = 2047 then d0.incWrap OTP_RECHECK_PASSES else d0
  if !(t.word w).weak then { t with dev := d1 }
  else
    let d2 := d1.raise OTP_STATUS_WEAK_SEEN |>.wr OTP_LAST_WEAK_WORD w |>.wr OTP_LAST_WEAK_FRAME (lo32 d1.frame)
      |>.inc OTP_WEAK_CNT |>.tally 309 1
    let d3 := if decide (w < 576) && !repairPath w then d2.raise OTP_STATUS_WEAK_SECURITY else d2
    if d3.otpx.weakSeen.contains w then { t with dev := d3 }
    else { t with dev := { d3 with otpx := { d3.otpx with weakSeen := w :: d3.otpx.weakSeen } }.post .otpWeak (.cell .otp) w }

/-- One word is re-read (R352). -/
def execOtpRecheck (hi lo : Word) (s : State) : Result :=
  .next (if s.dev.awake && s.dev.otpx.burns.isEmpty && decide (s.dev.otpx.recheckAt + 10 ≤ s.dev.frame) then otpRecheck s hi lo else s)

/-- Once per second the firmware retries a repair that waits for a supply (R357). -/
def execRepairRetry (s : State) : Result :=
  .next (
    let d := s.dev
    if d.up && d.on OTP_STATUS_REPAIR_WAIT && d.otpx.burns.isEmpty && decide (d.otpx.retryAt + 500000 ≤ d.frame) then
      let d1 := { d with otpx := { d.otpx with retryAt := d.frame } }
      if d1.otpSupply then State.startBurn { s with dev := d1 } (s.repairSteps ++ [.act .repaired]) none else { s with dev := d1 }
    else s)

/-- The LC_REPAIR burn is retried (R369). -/
def lcRepair (s : State) : State :=
  let d := { s.dev with otpx := { s.dev.otpx with retryAt := s.dev.frame } }
  if d.otpSupply && d.otpx.burns.isEmpty then
    State.startBurn { s with dev := d } (s.lcSteps (d.rd LC_STATE_STATE) ++ [.act .lcRepaired]) none
  else { s with dev := d }

/-- In LC_REPAIR the controller retries every second (R369). -/
def execLcRepairRetry (s : State) : Result :=
  .next (if s.dev.phase = .lcRepair && decide (s.dev.otpx.retryAt + 500000 ≤ s.dev.frame) then lcRepair s else s)

/-- OTP.REPAIR_CTL.GO retries at once, in LC_REPAIR only (R369). -/
def execRepairCtlGo (s : State) : Result := .next (if s.dev.phase = .lcRepair then lcRepair s else s)

end Sys2Proof.Machine
end

