-- ==== Sys2Proof/Machine/Policy.lean ====
section
/-! DEFINITION. Loading, storing and swapping a Guard Policy (04_windbreak_policy.md R115 to R124, R136 to R140). -/

namespace Sys2Proof.Machine

open Reg

/-- HOME place of policy copy A or B (10 Table 10-2). -/
def policyPlace (copy : Nat) : Nat := if copy = 0 then 0x1400000 else 0x1500000

/-- Fields of a component record that may change under a RELEASED component (R138): regions and windows, FILL, WRSR_MODE, WP_BITS,
HORIZON, OXM_LOC and OXM_LEN. -/
def CompRec.sameButLive (a b : CompRec) : Bool :=
  decide ({ a with
    regions := [], windows := [], fill := 0, wrsrMode := 0, wpBits := 0, horizon := 0, oxmLoc := 0, oxmLen := 0 } =
    { b with
    regions := [], windows := [], fill := 0, wrsrMode := 0, wpBits := 0, horizon := 0, oxmLoc := 0, oxmLen := 0 })

/-- The entry that a policy has for a component, and for a pair. -/
def Policy.comp (q : Policy) (n : Nat) : Option CompRec := (q.comps.find? fun e => e.1 = n).map Prod.snd
def Policy.pair (q : Policy) (p : Nat) : Option PairRec := (q.pairs.find? fun e => e.1 = p).map Prod.snd

namespace State

/-- Step 9 of Table 04-5 (R184): SEALED granules and boot-entry granules, from the OXMs that pass at this load; `oxms` are
those read from the components' flashes. -/
def pinQuota (s : State) (q : Policy) (oxms : List (Fin 96 × Bytes)) : Nat :=
  (q.comps.map fun e =>
    let o := oxmAt s e.2 (((oxms.find? fun x => x.1.val = e.1).map Prod.snd).getD [])
    let ps := if o.1 && (s.dev.compOxmCheck e.2 e.1 [0, 1] o.2).isNone then (parseOxm o.2).parts else []
    (pinnedSet e.2 ps).length).sum

/-- Checks 1 to 7 of Table 04-5, and the POLICY_SEQ that step 5 compares with (R123). -/
def policyCheck7 (s : State) (b : Bytes) (seqAbove : Option Nat) : Option Status :=
  let d := s.dev
  let q := parsePolicy b
  let k := q.ownerSlot
  if !policyHeaderOk b then some .policyFormat
  else if !policyLengthOk b then some .lengthMismatch
  else if !d.slotIntact k then some .keyRevoked
  else if d.rd CR_STATE = 3 then some .selftestFail
  else if !d.signedBy true k (b.take (32 + leAt b 0xC 4)) (sigBlock b (32 + leAt b 0xC 4)) then some .authFail
  else if decide (q.svn < d.rd POL_FUSED_SVN) || seqAbove.any (fun m => decide (q.seq ≤ m)) then some .svnRollback
  else if !policyRecordsOk b then some .lengthMismatch
  else if !policyStructureOk d.legacy (fun p => d.on (PP_CFG_BANK_18 p)) b then some .policyInvalid
  else none

/-- What the hybrid verify of a policy leaves in the signature engine's registers (R224, R241). -/
def sawPolicy (s : State) (b : Bytes) : State :=
  let k := (parsePolicy b).ownerSlot
  s.onDev fun d => d.sawVerify (if policyHeaderOk b && policyLengthOk b then
    d.hybrid true k (b.take (32 + leAt b 0xC 4)) (sigBlock b (32 + leAt b 0xC 4)) else none)

/-- Steps 1 to 9 of Table 04-5. -/
def policyCheck (s : State) (oxms : List (Fin 96 × Bytes)) (b : Bytes) (seqAbove : Option Nat) : Option Status :=
  match s.policyCheck7 b seqAbove with
  | some st => some st
  | none =>
    if !policyLatencyOk b then some .portLatency
    else if 8192 < s.pinQuota (parsePolicy b) oxms then some .pinQuota
    else none

/-- The verifications of a policy that is loaded, with those of the OXMs that step 9 reads. -/
def sawLoad (s : State) (oxms : List (Fin 96 × Bytes)) (b : Bytes) (seqAbove : Option Nat) : State :=
  let t := s.sawPolicy b
  if (s.policyCheck7 b seqAbove).isSome || !policyLatencyOk b then t
  else (parsePolicy b).comps.foldl (fun t e =>
    let o := oxmAt t e.2 (((oxms.find? fun x => x.1.val = e.1).map Prod.snd).getD [])
    if o.1 then t.onDev fun d => d.sawOxm o.2 else t) t

end State

namespace Dev

/-- FW_UPDATE, POLICY_LOAD and a new Front are refused while one is open (R317, R343). -/
def frontBusy (d : Dev) : Bool :=
  match FrontState.ofCode (d.rd FRONT_STATE) with
  | .idle => false
  | .settled => false
  | .aborted => false
  | _ => true

/-! ## Registers of an entry (R109, R144, R145) -/

/-- Configuration registers of a chip select under its entry (Tables 03-9, 04-11 and 05-7); without one they stay as `clearEntry` leaves them
(DESIGN CHOICE, log entry 87). -/
def showEntry (d : Dev) (n : Nat) : Dev :=
  let p := n / 2
  let c := n % 2
  match (d.gc n).entry, (d.pair p).record with
  | some e, some r =>
    let cs := (gcsOf p).filterMap fun m => (d.gc m).entry
    let wait := fun m => advertisedWait r cs e m
    let d1 := d.wr (UP_CFG_START_MODE p c) e.startMode |>.wr (UP_CFG_RUN_MODE p c) e.runMode |>.wr (UP_CFG_CMD_EXT p c) (e.cflags / 4)
      |>.wr (UP_CFG_DUMMY_START p c) (wait e.startMode) |>.wr (UP_CFG_DUMMY_RUN p c) (wait e.runMode)
      |>.wr (UP_CFG_ADDR4_DEFAULT p c) (flag e.addr4Default) |>.wr (UP_CFG_CONT_EN p c) (flag e.contEn)
      |>.wr (UP_CFG_FREQ_MAX p c) e.freqMax |>.wr (UP_CFG_DENSITY_LOG2 p c) e.densityLog2
      |>.wr (UP_CFG_MODE_SW_OPC p c) e.swOpc |>.wr (UP_CFG_MODE_SW_DATA p c) e.swData
    let d2 := d1.wr (DN_FLASH_DENSITY_LOG2 p c) e.flashLog2 |>.wr (DN_FLASH_PAGE_LOG2 p c) e.pageLog2
      |>.wr (DN_FLASH_PROG_LIMIT p c) e.progLimit |>.wr (DN_FLASH_ERASE_LIMIT p c) e.eraseLimit
    let d3 := d2.wr (WB_CS_REGION_COUNT p c) e.regions.length |>.wr (WB_CS_WINDOW_COUNT p c) e.windows.length
      |>.wr (WB_CS_WRSR_MODE p c) e.wrsrMode |>.wr (WB_CS_FILL p c) e.fill
      |>.wr (VF_CFG_HORIZON p c) e.horizonFrames |>.wr (VF_CFG_ANY_STREAMED p c) (flag (e.regions.any fun r => r.cls = 1))
      |>.wr (VF_CFG_ANY_SEALED p c) (flag (e.regions.any fun r => r.cls = 0))
    let d4 := e.regions.zipIdx.foldl (fun d x => d.wr (REGION_BASE p c x.2) x.1.base |>.wr (REGION_LIMIT p c x.2) x.1.limit
      |>.wr (REGION_CLASS p c x.2) x.1.cls |>.wr (REGION_ACTION p c x.2) x.1.action |>.wr (REGION_ROLE p c x.2) x.1.role) d3
    (e.windows.zipIdx.foldl (fun d x => d.wr (WINDOW_BASE p c x.2) x.1.base |>.wr (WINDOW_LIMIT p c x.2) x.1.limit
      |>.wr (WINDOW_PERM p c x.2) x.1.perm
      |>.wr (WINDOW_REGION p c x.2) (((e.region x.1.base).map Prod.fst).getD 0)) d4).showDegraded n
  | _, _ => d

/-- Configuration registers of a pair under its record (Tables 03-8 and 03-10). -/
def showPair (d : Dev) (p : Nat) : Dev :=
  let u := fun n => flag (d.gc n).entry.isSome
  let d1 := d.wr (PP_CFG_CS_USED0 p) (u (2 * p)) |>.wr (PP_CFG_CS_USED1 p) (u (2 * p + 1))
    |>.wr (WB_CTL_ENABLE p) (flag (d.pair p).record.isSome) |>.wr (WB_CTL_PAIRED p) (flag (d.legacy && (d.pair p).record.isSome))
  match (d.pair p).record with
  | some r => (d1.wr (PP_CFG_BURST p) r.burst |>.wr (DN_CFG_MODE p) r.mode |>.wr (DN_CFG_ADDR4 p) (r.pflags / 2)
      |>.wr (DN_CFG_CMD_EXT p) r.pflags |>.wr (DN_CFG_FREQ p) r.freq |>.wr (DN_CFG_DUMMY p) r.dummy
      |>.wr (DN_CFG_TSHSL p) r.tshsl |>.wr (DN_CFG_READ_OPC p) r.readOpc).bgFreq p
  | none => d1

/-- The registers of a chip select that only an entry fills read as at reset before one is shown, and while none is in force (DESIGN CHOICE, log
entry 87): UP_CFG, WB_CS but for the view, VF_CFG, REGION and WINDOW. DN_FLASH keeps its values, under which the bus ends what it has begun. -/
def clearEntry (d : Dev) (n : Nat) : Dev :=
  let base := ppOff (n / 2)
  let c := n % 2
  let word := fun (o b : Nat) => b / 64 * 8 = base + o + 8 * c
  let run := fun (o len b : Nat) => decide (8 * (base + o + len * c) ≤ b ∧ b < 8 * (base + o + len * (c + 1)))
  d.resetWhere fun b => word 0x48 b || word 0x4000 b || run 0x3100 0x200 b || run 0x3500 0x100 b
    || (word 0x3050 b && b ≠ (WB_CS_WP_VIEW (n / 2) c).bit)

/-- The registers and the SFDP image of one chip select (R87, R109, R144). -/
def showChip (d : Dev) (n : Nat) : Dev := ((d.clearEntry n).showEntry n).buildSfdp n

/-- Every configuration register of a pair. -/
def showConfig (d : Dev) (p : Nat) : Dev := (gcsOf p).foldl showChip (d.showPair p)

/-! ## Swaps (R136 to R139) -/

/-- An ENABLE of the firmware, submitted again when it is refused with FRAME_BUDGET (R469). -/
def fwEnable (d : Dev) (c : Cell) : Dev :=
  let r := d.enable c
  if r.1 = .frameBudget then { r.2 with resubmit := r.2.resubmit.filter (· ≠ c) ++ [c] } else r.2

/-- An ENABLE of a pair's cells that waits to be submitted again is given up. -/
def dropResubmit (d : Dev) (p : Fin 48) : Dev := { d with resubmit := d.resubmit.filter fun c => c.pair? ≠ some p }

/-- A pair is powered when the policy in force names a component on it, else it goes OFF (R27). A device that does not drive the port-pair
signals (R412) powers no pair before it does (DESIGN CHOICE, log entry 80). -/
def powerPair (d : Dev) (p : Fin 48) : Dev :=
  let need := (gcsOf p).any d.named
  if need then
    if d.cst (.pp p) = .off && (d.ownsPorts || d.pairState = .taking) then d.fwEnable (.pp p) else d
  else
    let d1 := d.dropResubmit p
    if d1.cst (.pp p) = .active || d1.cst (.pp p) = .starting then d1.disable (.pp p) else d1

/-- Frames follow the entry in force (Table 05-5): granules that leave the pinned set are cached ones, no refetch goes on for them, and what was
buffered unverified stays only where it is of an OPEN region (R152). -/
def repin (d : Dev) (n : Nat) : Dev :=
  let ps := d.pins n
  let gone := fun (f : Frame) => f.gc = n &&
    ((f.state = .refetch && !ps.contains f.granule) || (f.state = .buffered && !f.verified && d.classAt n (2048 * f.granule) ≠ 2))
  (d.setSnow { d.snow with frames := (d.snow.frames.filter fun f => !gone f).map fun f =>
    if f.gc = n && f.state = .pinned && !ps.contains f.granule then { f with state := .cached } else f }).showPins

/-- A component that the policy in force no longer names (Table 06-1): HELD, but for one that is QUARANTINED or CONTAINED, which no trigger of
Table 06-2 moves (DEDUCED, log entry 95). Its open entries stay to be completed (R136); an image write is given up. -/
def unname (d : Dev) (n : Nat) : Dev :=
  let d0 := d.dropWrite n .componentState
  let d1 := if d0.state n = .quarantined || d0.state n = .contained then d0 else d0.setState n .held
  let d2 := (d1.clear (COMP_STATUS_READY n)).setHold n .noEntry
  let d3 := d2.setSnow { d2.snow with
    frames := d2.snow.frames.filter fun f => f.gc ≠ n || f.state = .pending,
    nodes := d2.snow.nodes.filter fun x => x.gc ≠ n || d2.nodeInUse x }
  let g := d3.gc n
  let x := d3.comp n
  let op := g.op.map fun o => if o.own then { o with rest := [] } else o
  let d4 := (d3.setGc n { idBytes := g.idBytes, sfdpRaw := g.sfdpRaw, op := op }).setComp n { thaws := x.thaws, fell := x.fell, thawDue := x.thawDue }
  ((d4.setGolden n 0).showPinning n false).showRefill

/-- The golden image is looked up under a new entry where its regions change (R191, R192); `home` is the golden OXM in HOME. -/
def regolden (d : Dev) (n : Nat) (old : Option CompRec) (c : CompRec) (home : Option Bytes) : Dev :=
  if d.started && old.map CompRec.regions ≠ some c.regions then State.findGolden d n c home else d

/-- The OXM of a RELEASED component whose OXM_LOC has moved (R138, R173, R184): it takes effect when it passes and the pinned total allows. -/
def moveOxm (e : Dev) (n : Nat) (c : CompRec) (oxm : Bool × Bytes) : Dev :=
  let d := if oxm.1 then e.sawOxm oxm.2 else e
  if !oxm.1 then d.compStatus n .oxmInvalid
  else match d.compOxmCheck c n [0, 1] oxm.2 with
    | some st => d.compStatus n st
    | none =>
      if 8192 < d.pinTotal n (parseOxm oxm.2).parts then d.compStatus n .pinQuota
      else ((d.setOxm n oxm.2).repin n).compStatus n .ok

/-- What a swap brings from outside the policy: whether the OXM is placed as R314 asks, its bytes, and the golden OXM in HOME. -/
structure SwapIn where
  placed : Bool
  oxm : Bytes
  golden : Option Bytes
  deriving DecidableEq, Repr

/-- The registers after an entry has changed: those of the whole pair, unless its record is staged or the other component runs (R138). -/
def showSwapped (d : Dev) (n : Nat) : Dev :=
  if (d.pair (n / 2)).staged.isSome || d.state (otherCs n) = .released then d.showChip n else d.showConfig (n / 2)

/-- A new entry takes effect for a chip select (R136, Table 06-2): its registers and SFDP image, its OXM when the component is
not RELEASED or when OXM_LOC moves. -/
def takeEntry (d : Dev) (n : Nat) (e : Option CompRec) (y : SwapIn) : Dev :=
  let p := n / 2
  let c := n % 2
  let old := (d.gc n).entry
  let rel := d.state n = .released
  let d1 := d.setBit (WB_STATUS_STAGED p) c false |>.setBit (WB_STATUS_PIN_WAIT p) c false |>.raise (WB_EVT_SWAPPED p)
  match e with
  | none => ((d1.unname n).showSwapped n).repin n
  | some x =>
    let d2 := (d1.setGc n { d1.gc n with entry := some x, staged := none, sfdp := [] }).clearHold n .noEntry
    let d3 := (((d2.regolden n old x y.golden).showSwapped n).refillOver n).repin n
    let moved := match old with
      | some o => o.oxmLoc ≠ x.oxmLoc || o.oxmLen ≠ x.oxmLen
      | none => true
    if rel then (if moved then d3.moveOxm n x (y.placed, y.oxm) else d3)
    else if d3.started && d3.state n ≠ .contained then d3.takeOxm n x y.oxm y.placed
    else d3

/-- A pair record takes effect (R137, R138). -/
def takePair (d : Dev) (p : Fin 48) (r : Option PairRec) : Dev :=
  let d1 := d.setPair p { d.pair p with record := r, staged := none }
  (d1.clear (WB_STATUS_PAIR_STAGED p)).showConfig p

/-- An entry is staged (R138). -/
def stage (d : Dev) (n : Nat) (e : Option CompRec) : Dev :=
  (((d.setGc n { d.gc n with staged := some e }).setBit (WB_STATUS_STAGED (n / 2)) (n % 2) true).raise (WB_EVT_STAGED (n / 2))).setBit
    (WB_STATUS_PIN_WAIT (n / 2)) (n % 2) false

def stagePair (d : Dev) (p : Nat) (r : Option PairRec) : Dev :=
  (d.setPair p { d.pair p with staged := some r }).raise (WB_STATUS_PAIR_STAGED p) |>.raise (WB_EVT_STAGED p)

/-- The pair record of a new policy differs from that of the policy before it, or the chip selects that it names do (R137, R138). -/
def pairChanges (d : Dev) (q : Policy) (p : Nat) : Bool :=
  let o := parsePolicy d.pol.bytes
  q.pair p ≠ o.pair p || (gcsOf p).any fun n => (q.comp n).isSome ≠ (o.comp n).isSome

/-- The device's own program or erase of a thaw is in progress, which a new entry waits for (Table 06-2). -/
def midWrite (d : Dev) (n : Nat) : Bool := d.state n = .thawing && (d.gc n).op.isSome

/-- A component that is not RELEASED meets a new policy (R137): its entry takes effect, with the pair record when that changes; while the other
component is RELEASED the pair record is staged, and with it the entry of a component newly named. -/
def meetIdle (d : Dev) (q : Policy) (n : Fin 96) (y : SwapIn) : Dev :=
  let p : Fin 48 := ⟨n.val / 2, by omega⟩
  let e := q.comp n
  if !d.pairChanges q p then (d.takeEntry n e y).powerPair p
  else if d.state (otherCs n) ≠ .released then ((d.takePair p (q.pair p)).takeEntry n e y).powerPair p
  else if (d.gc n).entry.isNone then (d.stage n e).stagePair p (q.pair p)
  else ((d.stagePair p (q.pair p)).takeEntry n e y).powerPair p

/-- A RELEASED component meets a new policy (R138): whether it is settled. -/
def meetReleased (d : Dev) (q : Policy) (n : Fin 96) (y : SwapIn) : Bool × Dev :=
  let p := n.val / 2
  let e := q.comp n
  if d.pairChanges q p then (true, (d.stage n e).stagePair p (q.pair p))
  else match e, (d.gc n).entry with
    | some x, some o =>
      if !x.sameButLive o then (true, d.stage n e)
      else if d.on (COMP_STATUS_FORCED n) ||
          ((pinnedSet x (((d.comp n).oxm.map Oxm.parts).getD [])).all fun g => d.gstate n g = some .pinned) then (true, d.takeEntry n e y)
      else (false, (d.setGc n { d.gc n with staged := some e }).setBit (WB_STATUS_PIN_WAIT p) (n.val % 2) true)
    | _, _ => (true, d.stage n e)

/-- A chip select meets a new policy at a tick (R137, R138): whether it is settled, swapped or staged. One that neither policy names is settled as
it stands, and so is one for which nothing changes. -/
def meetPolicy (d : Dev) (q : Policy) (n : Fin 96) (y : SwapIn) : Bool × Dev :=
  let e := q.comp n
  let old := (d.gc n).entry
  if e.isNone && old.isNone && (d.gc n).staged.isNone then (true, d)
  else if e = old && !d.pairChanges q (n.val / 2) && (d.gc n).staged.isNone then (true, d)
  else if d.state n = .released then d.meetReleased q n y
  else if d.midWrite n then (false, d)
  else (true, d.meetIdle q n y)

/-- A staged pair record takes effect once neither component of the pair is RELEASED (R138). -/
def meetStagedPair (d : Dev) (p : Fin 48) : Dev :=
  match (d.pair p).staged with
  | some r => if (gcsOf p).any fun m => d.state m = .released || d.midWrite m then d else (d.takePair p r).powerPair p
  | none => d

/-- A staged entry takes effect when its component reaches HELD, and not before a staged pair record does (R138). -/
def meetStaged (d : Dev) (n : Fin 96) (y : SwapIn) : Dev :=
  let p : Fin 48 := ⟨n.val / 2, by omega⟩
  let d1 := d.meetStagedPair p
  match (d1.gc n).staged with
  | some e => if d1.state n = .held && (d1.pair p).staged.isNone then ((d1.takeEntry n e y).powerPair p).showPol else d1.showPol
  | none => d1.showPol

/-- The load completes (R139): the object is in force, DISAGREE clears for the pairs that it names (R142), and it is
answered. -/
def loadCompletes (d : Dev) (b : Bytes) : Dev :=
  let q := parsePolicy b
  let dg := sha384b b
  let d1 := d.wr POL_SEQ q.seq |>.wr POL_SVN q.svn |>.wr POL_STATUS_ORIGIN q.origin |>.wr POL_STATUS_COPY d.pol.copy
    |>.wr POL_STATUS_LAST_LOAD 0
  let d2 := (List.range 6).foldl (fun d i => d.wr (POL_DIGEST i) (leAt dg (8 * i) 8)) d1
  let d3 := q.pairs.foldl (fun d e =>
    (gcsOf e.1).foldl (fun d n => d.clearHold n .disagree) (d.clear (WB_STATUS_HOLD e.1))) d2
  let d4 := match d3.pol.requester with
    | some r => d3.answerOp r (ans .ok)
    | none => d3
  { d4 with pol := { bytes := b } }.showPol

end Dev

/-! ## Meanings -/

/-- A Guard Policy presented for loading (R118 to R120): checked, then in progress until its swaps are made. -/
def policyLoad (s : State) (x : Desc) (oxms : List (Fin 96 × Bytes)) : Ans × State :=
  let d := s.dev
  let i3c := match x.ref.port with
    | .i3c _ => true
    | _ => false
  let refuse := fun (st : Status) => (ans st, { s with dev := d.wr POL_STATUS_LAST_LOAD st.code })
  if i3c && d.inForce then (ans .roleDenied, s)
  else if !d.ownsPorts then (ans .notOwner, s)
  else if d.frontBusy then refuse .updateBusy
  else if d.pol.load.isSome || d.anyStaged then refuse .policyBusy
  else
    let above := if d.inForce then some (d.rd POL_SEQ) else none
    let s : State := s.sawLoad oxms x.src above
    let d := s.dev
    match s.policyCheck oxms x.src above with
    | some st => (ans st, s.onDev fun d => d.wr POL_STATUS_LAST_LOAD st.code)
    | none =>
      let p : Pol := { d.pol with load := some x.src, requester := some x.ref, stored := false, todo := allGcs }
      ({ status := none }, { s with dev := { d with pol := p }.showPol })

/-- POLICY_LOAD (R120); `oxms` are the OXMs that the components' flashes hold. -/
def execPolicyLoad (x : Desc) (oxms : List (Fin 96 × Bytes)) (s : State) : Result :=
  .next (s.command x 0x0300 true fun s => policyLoad s x oxms)

/-- POLICY_READ: the policy in force (Table 08-8). -/
def execPolicyRead (x : Desc) (s : State) : Result :=
  act s fun d => d.command x 0x0301 true fun d =>
    if x.src ≠ [] ∨ x.dstLen < d.pol.bytes.length then (ans .lengthMismatch, d)
    else ({ status := some .ok, result0 := d.pol.bytes.length, dst := d.pol.bytes }, d)

/-- The checked policy is written to the copy not in use and read back; then COMMIT_SVN advances the fused counter (R122,
R124). -/
def policyStore (s : State) (b : Bytes) (good : Bool) : State :=
  let copy := if s.dev.inForce then 1 - s.dev.rd POL_STATUS_COPY else 0
  let q := parsePolicy b
  let v := s.counter 68 4
  let t := (s.onDev fun d => { d with pol := { d.pol with copy := copy } }).homeWrite good (policyPlace copy) 0x100000 b
  if !good then { t with dev := t.dev.loadFails .flashWrite }
  else if bit q.flags 0 && decide (v < q.svn) then
    if t.dev.otpSupply then t.startBurn (State.counterSteps 68 v q.svn ++ [.act .policySvn]) none
    else { t with dev := t.dev.loadFails .otpNoSupply }
  else { t with dev := { t.dev with pol := { t.dev.pol with stored := true } } }

/-- A write of the unused HOME copy; `good` says that the read-back agrees (R122). -/
def execPolicyStore (good : Bool) (s : State) : Result :=
  .next (match s.dev.pol.load with
    | some b => if s.dev.up && !s.dev.pol.stored && !(s.dev.otpx.burns.any fun x => x.steps.contains (.act .policySvn)) then policyStore s b good else s
    | none => s)

/-- What a swap to an entry brings (R191, R314); `flash` is what the component's flash holds at OXM_LOC. -/
def State.swapIn (s : State) (n : Nat) (e : Option CompRec) (flash : Bytes) : Dev.SwapIn :=
  let o := match e with
    | some c => State.oxmAt s c flash
    | none => (true, [])
  ⟨o.1, o.2, s.goldenOxm n⟩

/-- At a tick a chip select's new entry takes effect or is staged, and the load completes when every one has (R136 to R139);
`flash` is what the component's flash holds at OXM_LOC. -/
def policySwap (s : State) (n : Fin 96) (flash : Bytes) : State :=
  match s.dev.pol.load with
  | some b =>
    if !s.dev.pol.stored || !s.dev.pol.todo.contains n then s
    else
      let q := parsePolicy b
      let r := s.dev.meetPolicy q n (s.swapIn n (q.comp n) flash)
      if !r.1 then { s with dev := r.2 }
      else
        let d1 := { r.2 with pol := { r.2.pol with todo := r.2.pol.todo.filter (· ≠ n.val) } }
        { s with dev := if d1.pol.todo = [] then d1.loadCompletes b else d1 }
  | none => s.onDev fun d => d.meetStaged n (s.swapIn n ((d.gc n).staged.bind id) flash)

/-- A swap at a tick (R136). -/
def execPolicySwap (n : Fin 96) (flash : Bytes) (s : State) : Result :=
  .next (if s.dev.up then policySwap s n flash else s)

end Sys2Proof.Machine
end

