-- ==== Sys2Proof/Machine/Host.lean ====
section
/-! DEFINITION. The host interface (08_host_rings.md R254 to R286): functions, rings, completions, interrupts, resets of
functions, and the mailbox of the I3C targets. -/

namespace Sys2Proof.Machine

open Reg

namespace Dev

/-! ## Functions (R259) -/

/-- FN_STATE.LAST_RESULT. -/
def fnResult (d : Dev) (f : Nat) (s : Status) : Dev := d.wr (FN_STATE_LAST_RESULT f) s.code

/-- The checks of an ENABLE from OFF (R259). -/
def fnSetupOk (d : Dev) (f : Nat) : Bool :=
  d.rd (RCT_BASE f) ≠ 0 && d.rd (RCT_BASE f) % 4096 = 0 && d.rd (DB_BASE f) ≠ 0 && d.rd (DB_BASE f) % 4096 = 0
    && decide (1 ≤ d.rd (RCT_RINGS f) ∧ d.rd (RCT_RINGS f) ≤ 256)

/-- ENABLE of a function that is OFF (R259). -/
def fnStart (d : Dev) (f : Nat) : Dev :=
  if d.fnSetupOk f then
    ((d.wr (FN_STATE_STATE f) 1).setFn f { d.fn f with enabled := d.frame }).fnResult f .pending
  else d.fnResult f .ringInvalid

/-- ENABLE (R259, Table 02-5). -/
def fnEnable (d : Dev) (f : Nat) : Dev :=
  match d.rd (FN_STATE_STATE f) with
  | 0 => d.fnStart f
  | 1 => d.fnResult f .pending
  | 2 => d.fnResult f .ok
  | _ => (d.raise (FN_STATE_PENDING_ENABLE f)).fnResult f .busyDraining

/-- A draining function with every ring OFF is OFF; a latched ENABLE is taken (R259). -/
def fnSettle (d : Dev) (f : Nat) : Dev :=
  if d.rd (FN_STATE_STATE f) = 3 && (d.fn f).rings.isEmpty then
    let d1 := ((d.wr (FN_STATE_STATE f) 0).clear (FN_STATE_DROWSY f)).fnResult f .ok
    if d1.on (FN_STATE_PENDING_ENABLE f) then (d1.clear (FN_STATE_PENDING_ENABLE f)).fnStart f else d1
  else d

/-- A ring stops fetching and drains, and a latched ENABLE of it ends (R261, Table 02-5). -/
def drainRing (d : Dev) (f r : Nat) : Dev :=
  match d.ring f r with
  | some x => d.setRing f r (some { x with state := .draining, pendingEnable := false })
  | none => d

/-- DISABLE (R259, Table 02-5): every ring is disabled; RING_CTL writes that wait are taken as RING_INVALID (R261). -/
def fnDisable (d : Dev) (f : Nat) : Dev :=
  match d.rd (FN_STATE_STATE f) with
  | 0 => (d.clear (FN_STATE_PENDING_ENABLE f)).fnResult f .ok
  | 3 => (d.clear (FN_STATE_PENDING_ENABLE f)).fnResult f .ok
  | _ =>
    let d1 := ((d.fn f).rings.map Prod.fst).foldl (fun d r => d.drainRing f r) d
    ((d1.wr (FN_STATE_STATE f) 3).fnResult f .pending).fnSettle f

/-! ## Rings (R260, R261) -/

/-- A RING_CTL write waits for the next frame (R261); it is ignored for other values of OP. -/
def ringCtl (d : Dev) (f r op : Nat) : Dev :=
  if op = 1 ∨ op = 2 then
    let x := d.fn f
    (((d.setFn f { x with ctl := x.ctl ++ [(r, op, d.frame)] }).wr (RING_RESULT_RING f) r).wr (RING_RESULT_STATUS f)
      Status.pending.code).showRing f
  else d

/-- The RING_CTL write that is taken next, in a later frame than that of the write. -/
def ringDue (d : Dev) (f op : Nat) : Option Nat :=
  match (d.fn f).ctl with
  | (r, o, at_) :: _ => if o = op && decide (at_ < d.frame) then some r else none
  | [] => none

/-- The write for ring r is taken with a status, which RING_RESULT shows while it names that ring (Table 08-2). -/
def ringTaken (d : Dev) (f r : Nat) (s : Status) : Dev :=
  let x := d.fn f
  let d1 := d.setFn f { x with ctl := x.ctl.drop 1 }
  (if d.rd (RING_RESULT_RING f) = r then d1.wr (RING_RESULT_STATUS f) s.code else d1).showRing f

/-- Checks of an RCT entry at ENABLE (R260, R261, R279); `tails` says that SQ_TAIL and CQ_HEAD read 0. -/
def rctOk (d : Dev) (f : Nat) (x : Rct) (tails : Bool) : Bool :=
  x.reservedZero && x.cqBase % 4096 = 0 && decide (4 ≤ x.cqLog2 ∧ x.cqLog2 ≤ 16) && decide (x.kind ≤ 1) && decide (x.rflags < 2)
    && decide (x.vector < 256) && decide (x.intCount < 256) && tails
    && (if x.kind = 1 then !(d.fn f).rings.any fun r => r.2.rct.kind = 1
        else x.sqBase % 4096 = 0 && decide (4 ≤ x.sqLog2 ∧ x.sqLog2 ≤ 16))

/-- A ring after ENABLE (R261). -/
def freshRing (x : Rct) (frame : Nat) : Ring :=
  { state := .active, pendingEnable := false, rct := x, sqHead := 0, sqTail := 0, cqTail := 0, cqHead := 0, phase := true,
    unsignalled := 0, oldest := 0, intNow := false, cached := true, lastUse := frame }

/-- ENABLE of a ring is taken (R261); a failed read of its entry or group line stops it (R275). -/
def ringEnable (d : Dev) (f r : Nat) (x : Rct) (tails : Bool) (failAddr : Option Nat) : Dev :=
  if d.rd (RCT_RINGS f) ≤ r ∨ d.rd (FN_STATE_STATE f) ≠ 2 then d.ringTaken f r .ringInvalid
  else match d.ring f r with
    | some y =>
      if y.state = .draining then (d.setRing f r (some { y with pendingEnable := true })).ringTaken f r .busyDraining
      else d.ringTaken f r .ok
    | none => match failAddr with
      | some a => ((d.hostReadFailed f a).fnEvent f FN_EVT_RING_ERR).ringTaken f r .hostMemory
      | none =>
        if d.rctOk f x tails then (d.useRing f r (freshRing x d.frame)).ringTaken f r .ok
        else { d with hostUse := { d.hostUse with fills := d.hostUse.fills + 1 } }.ringTaken f r .ringInvalid

/-- DISABLE of a ring is taken (R261). -/
def ringDisable (d : Dev) (f r : Nat) : Dev :=
  if d.rd (RCT_RINGS f) ≤ r ∨ d.rd (FN_STATE_STATE f) ≠ 2 then d.ringTaken f r .ringInvalid
  else (d.drainRing f r).ringTaken f r .ok

/-- Operations of the ring, and their completions, are still to be posted. -/
def ringBusy (d : Dev) (f r : Nat) : Bool :=
  !(d.inRing f r).isEmpty || d.cpls.any fun c => OpRef.onRing c.op.ref f r

/-- A drained ring is OFF, its device area written back, and a latched ENABLE goes on as a fresh one (R261). -/
def ringOff (d : Dev) (f r : Nat) (x : Ring) : Dev :=
  let d0 : Dev := { d with hostUse := { d.hostUse with fills := d.hostUse.fills + flag x.cached } }
  let d1 := (d0.writeArea f r x).setRing f r none
  let g := d1.fn f
  let d2 := if x.pendingEnable then d1.setFn f { g with ctl := g.ctl ++ [(r, 1, d1.frame)] } else d1
  d2.fnSettle f

/-! ## Drowsy functions (R266, R267) -/

/-- SLEEP_HINT is written, and FN_STATE.DROWSY copies it. -/
def hint (d : Dev) (f : Nat) (b : Bool) : Dev :=
  let d1 := d.wr (FN_STATE_DROWSY f) (flag b)
  if (d.fn f).bme then d1.emit (.hostWrite f (d.rd (DB_BASE f) + 0x840) (leBytes 4 (flag b))) else d1

/-- A function wakes: the hint falls, and it is scanned in the next frame as every function that is not drowsy (R265, R267). -/
def wakeFn (d : Dev) (f : Nat) : Dev :=
  if d.on (FN_STATE_DROWSY f) then
    let d1 := d.hint f false
    d1.setFn f { d1.fn f with confirm := none, scanAt := d.frame }
  else d

/-- A wake event of Drizzle; the first is latched, with its cause: 0 kick, 1 scan, 2 PERST_N (R283, R441). -/
def drizzleWake (d : Dev) (cause : Nat) : Dev :=
  if d.rd DRZ_STATE = 0 ∨ d.rd DRZ_STATE = 3 ∨ d.driz.wake.isSome then d
  else { d with driz := { d.driz with wake := some cause, wakeAt := d.frame } }

/-- A write to FN_KICK (R267, R283). -/
def kick (d : Dev) (f : Nat) : Dev :=
  let d1 := (d.inc (FN_CNT_KICKS f)).tally 290 1
  if d.rd (FN_STATE_STATE f) ≠ 2 then d1
  else if d.rd DRZ_STATE = 0 then d1.wakeFn f else d1.drizzleWake 0

/-- Nothing of the function is dispatched or in flight. -/
def fnQuiet (d : Dev) (f : Nat) : Bool :=
  (!d.ops.any fun o => Port.isFn o.ref.port f && !OpRef.orphaned o.ref) && !d.cpls.any fun c => Port.isFn c.op.ref.port f

/-- Function f takes part in the frame's scans. -/
def scanned (d : Dev) (f : Nat) : Bool :=
  d.rd (FN_STATE_STATE f) = 2 && (d.fn f).bme && !d.on (FN_STATE_DROWSY f)

/-- SQ_TAIL and CQ_HEAD of the rings of a group, from its line of the Doorbell Page (R263, Table 08-4). -/
def readLine (f : Nat) (s : Scan) (d : Dev) (g : Fin 32) : Dev :=
  match s.lines.find? fun e => e.1 = g with
  | none => d
  | some l => (List.range 8).foldl (fun d i =>
      let r := 8 * g.val + i
      match d.ring f r with
      | some x => d.setRing f r (some { x with sqTail := lineTail l.2 i % 2 ^ x.rct.sqLog2, cqHead := lineHead l.2 i % 2 ^ x.rct.cqLog2 })
      | none => d) d

/-- The scan of one function (R265): a changed DB_SEQ reads the lines of its groups, as far as the frame allows 64 of all functions; it counts as
seen once all have been read. -/
def scanFn (d : Dev) (s : Scan) : Dev :=
  let f := s.f.val
  let x := d.fn f
  let d1 := d.tally 289 1
  if x.groups = [] && x.dbSeq = s.dbSeq.toNat then d1
  else
    let gs := if x.groups = [] then (List.finRange 32).filter fun g => s.groups.getLsbD g.val else x.groups
    let next := if x.groups = [] then s.dbSeq.toNat else x.dbNext
    let n := 64 - d1.hostUse.lines
    let d2 := (gs.take n).foldl (readLine f s) { d1 with hostUse := { d1.hostUse with lines := d1.hostUse.lines + min n gs.length } }
    let left := gs.drop n
    let y := d2.fn f
    d2.setFn f { y with groups := left, dbNext := next, dbSeq := (if left = [] then next else y.dbSeq), idle := 0 }

/-- The sleep hint is written after IDLE_FRAMES idle frames, and confirmed by a further read of DB_SEQ in a later frame, which scans the function
when DB_SEQ has changed (R266). -/
def drowsy (d : Dev) (s : Scan) : Dev :=
  let f := s.f.val
  let x := d.fn f
  match x.confirm with
  | some at_ =>
    if d.frame ≤ at_ then d
    else if x.dbSeq = s.dbSeq.toNat then d.setFn f { x with confirm := none, scanAt := d.frame }
    else (d.wakeFn f).scanFn s
  | none =>
    if !d.on (FN_STATE_DROWSY f) && decide (d.rd (FN_CFG_IDLE_FRAMES f) ≤ x.idle) && decide (x.scanAt < d.frame) && x.groups = [] && d.fnQuiet f then
      let d1 := d.hint f true
      d1.setFn f { d1.fn f with confirm := some d.frame }
    else d

/-- A scan of a drowsy function every 1,000 frames (R266, R283). -/
def drowsyScan (d : Dev) (f dbSeq : Nat) : Dev :=
  let x := d.fn f
  if d.on (FN_STATE_DROWSY f) && x.confirm.isNone && decide (x.scanAt + 1000 ≤ d.frame) then
    let d1 := (d.setFn f { x with scanAt := d.frame }).tally 289 1
    if x.dbSeq = dbSeq then d1 else if d.rd DRZ_STATE = 0 then d1.wakeFn f else d1.drizzleWake 1
  else d

/-! ## The ring-engine slots of a frame (R259, R265, R271, R276, R279) -/

/-- Idle frames are counted; a STARTING function becomes ACTIVE in the frame after its ENABLE (R259, R266). -/
def fnFrame (d : Dev) (f : Nat) : Dev :=
  let x := d.fn f
  match d.rd (FN_STATE_STATE f) with
  | 1 => if x.enabled < d.frame then (d.wr (FN_STATE_STATE f) 2).fnResult f .ok else d
  | 2 => d.setFn f { x with idle := if d.fnQuiet f then x.idle + 1 else 0 }
  | _ => d

/-- An entry of 32 bytes is written to the CQ of a ring (R271, R279). -/
def writeCq (d : Dev) (f r : Nat) (now : Bool) (entry : Bool → Bytes) : Dev :=
  match d.ring f r with
  | some x =>
    let t := (x.cqTail + 1) % 2 ^ x.rct.cqLog2
    let y := { x with
      cqTail := t, phase := (if t = 0 then !x.phase else x.phase), unsignalled := x.unsignalled + 1,
      oldest := (if x.unsignalled = 0 then d.frame else x.oldest), intNow := x.intNow || now }
    ((d.useRing f r y).emit (.hostWrite f (x.rct.cqBase + 32 * x.cqTail) (entry x.phase))).tally 287 1
  | none => d

/-- The completion of an operation (Table 08-7). -/
def cplBytes (o : Op) (st : Status) (sqHead frame : Nat) (phase : Bool) : Bytes :=
  leBytes 2 st.code ++ leBytes 2 o.ref.index ++ leBytes 4 o.tag.toNat ++ leBytes 2 sqHead ++ leBytes 2 o.verdict
    ++ leBytes 8 o.result0 ++ leBytes 4 o.result1 ++ leBytes 4 frame ++ leBytes 4 (flag phase)

/-- A completion is written; a function without Bus Master Enable writes none (R256). -/
def postCpl (d : Dev) (c : Cpl) : Dev :=
  match c.op.ref.port, c.op.status with
  | .fn f, some st =>
    if (d.fn f).bme then d.writeCq f c.op.ref.ring c.op.intr (cplBytes c.op st c.sqHead (lo32 d.frame)) else d
  | _, _ => d

/-- An event record in the completion layout (R276). -/
def evtBytes (e : EvtRec) (frame : Nat) (phase : Bool) : Bytes :=
  leBytes 2 e.code ++ leBytes 2 0xFFFF ++ leBytes 4 0 ++ leBytes 4 0 ++ leBytes 8 e.result0 ++ leBytes 4 e.result1
    ++ leBytes 4 frame ++ leBytes 4 (flag phase)

/-- One event record is posted, or dropped and counted when the event CQ is full; EVENTS_LOST goes first when space has
returned after a loss (R276). -/
def postEvt (f : Nat) (d : Dev) (e : EvtRec) : Dev :=
  let room := fun (d : Dev) => match d.eventRing f with
    | some (r, x) => if d.cqRoom f r 1 x then some r else none
    | none => none
  let drop := fun (d : Dev) =>
    ((d.setFn f { d.fn f with lost := (d.fn f).lost + 1 }).inc (FN_CNT_EVT_LOST f)).fnEvent f FN_EVT_EVT_LOST
  match room d with
  | none => drop d
  | some r =>
    let n := (d.fn f).lost
    let d1 := if n = 0 then d
      else (d.writeCq f r false (evtBytes ⟨Ev.eventsLost.code, Cell.ring.offset, n⟩ (lo32 d.frame))).setFn f
        { (d.writeCq f r false (evtBytes ⟨Ev.eventsLost.code, Cell.ring.offset, n⟩ (lo32 d.frame))).fn f with lost := 0 }
    match room d1 with
    | some r => d1.writeCq f r false (evtBytes e (lo32 d.frame))
    | none => drop d1

/-- Event records of a function are posted, when it may write, as far as the frame allows writes and fills (R256, R265, R276). -/
def postEvents (d : Dev) (f : Nat) : Dev :=
  let es := (d.fn f).events
  let n := match d.eventRing f with
    | some (r, _) => if d.rctRoom f r then (128 - d.hostUse.posted) / 2 else 0
    | none => es.length
  if es.isEmpty || !(d.fn f).bme || n = 0 then d
  else
    let d1 := (es.take n).foldl (postEvt f) (d.setFn f { d.fn f with events := es.drop n })
    { d1 with hostUse := { d1.hostUse with posted := d1.hostUse.posted + min n es.length } }

/-- A ring is due to signal (R279). -/
def signalDue (frame : Nat) (x : Ring) : Bool :=
  bit x.rct.rflags 0 && decide (0 < x.unsignalled)
    && (decide (x.rct.intCount ≤ x.unsignalled) || (x.rct.intFrames ≠ 0 && decide (x.oldest + x.rct.intFrames ≤ frame)) || x.intNow)

/-- The due vectors of a function, that of FN_INT among them, each once (R279); a function without Bus Master Enable sends none (R256). -/
def signal (d : Dev) (f : Nat) : Dev :=
  if !(d.fn f).bme then d
  else
    let due := (d.fn f).rings.filter fun r => signalDue d.frame r.2
    let own := if (d.fn f).intDue then [d.rd (FN_INT_VECTOR f)] else []
    let d1 := (firstOnly ((due.map fun r => r.2.rct.vector) ++ own)).foldl (fun d v => d.sendMsix f v) d
    let d2 := due.foldl (fun d r => d.setRing f r.1 (some { r.2 with unsignalled := 0, intNow := false })) d1
    d2.setFn f { d2.fn f with intDue := false }

/-- Completions are written in their order while the frame allows 128 writes and the fills for their rings (R265, R273). -/
def postCpls : List Cpl → Dev → Dev
  | [], d => { d with cpls := [] }
  | c :: cs, d =>
    let room := match c.op.ref.port with
      | .fn f => d.rctRoom f c.op.ref.ring
      | _ => true
    if 128 ≤ d.hostUse.posted || !room then { d with cpls := c :: cs }
    else postCpls cs ({ d with hostUse := { d.hostUse with posted := d.hostUse.posted + 1 } }.postCpl c)

/-- Descriptors whose OPCODE no command has are taken up, to be refused (R269). -/
def refuseStray (d : Dev) (x : Desc) : Dev := if opcodeKnown x.opcode then d else (d.takeUp x x.opcode true).2

/-- The scan of a function in this frame; one that the frame brings no reading of reads its DB_SEQ unchanged. -/
def scanOf (d : Dev) (scans : List Scan) (f : Fin 256) : Scan :=
  (scans.find? fun s => s.f = f).getD ⟨f, BitVec.ofNat 32 (d.fn f).dbSeq, 0, []⟩

/-- Slots 19 to 24 (R259, R265, R271, R276, R279): every ACTIVE function that is not drowsy is scanned, in order. -/
def hostSlots (e : Dev) (scans : List Scan) (strays : List Desc) : Dev :=
  let d : Dev := { e with hostUse := {} }
  if d.hostPaused then d
  else
    let fs := (List.finRange 256).filter fun (f : Fin 256) => d.rd (FN_STATE_STATE f.val) ≠ 0 && d.fnLive f.val
    let d1 := fs.foldl (fun (d : Dev) (f : Fin 256) => d.fnFrame f.val) d
    let d2 := if d1.skipScan then d1 else fs.foldl (fun (d : Dev) (f : Fin 256) => if d.scanned f.val then d.scanFn (d.scanOf scans f) else d) d1
    let d3 := postCpls d2.cpls (strays.foldl refuseStray d2)
    fs.foldl (fun (d : Dev) (f : Fin 256) => (d.postEvents f.val).signal f.val) d3

/-! ## Completion of operations (R273) -/

/-- The operation may complete now: it has its answer, no lane works for it, and earlier ones on its context, or earlier Pilot
tasks of its ring, have completed (R218, R273). -/
def mayComplete : List Op → Op → Bool
  | [], _ => false
  | p :: ps, o =>
    if p.ref = o.ref then o.status.isSome && o.left = 0
    else !((p.ref.port = o.ref.port && p.ref.ring = o.ref.ring && pilotTask p.opcode && pilotTask o.opcode)
        || (o.ctx ≠ 0 && p.ctx = o.ctx)) && mayComplete ps o

/-- An operation of the signature engine completes when the engine has performed it, one at a time (R240, R242). -/
def seTurn (d : Dev) (o : Op) : Bool := (o.opcode ≠ 0x128 && o.opcode ≠ 0x129) || d.crypto.se.all (· = o.ref)

/-- What engines and counters show of a completed operation (Tables 07-15, 07-16, 12-4). -/
def countOp (d : Dev) (o : Op) (st : Status) : Dev :=
  if 0x100 ≤ o.opcode ∧ o.opcode ≤ 0x103 then d.tally 277 1
  else if o.opcode = 0x110 then d.tally 285 1
  else if o.opcode = 0x119 ∨ o.opcode = 0x11A then (d.add AES_BYTES o.work).showEngines
  else if o.opcode = 0x120 ∨ o.opcode = 0x121 then ((d.add AES_BYTES o.work).tally 283 1).showEngines
  else if o.opcode = 0x128 then ((d.inc SE_OPS).tally 281 1).showEngines
  else if o.opcode = 0x129 then
    let d1 := (((d.inc SE_OPS).tally 281 1).wr SE_VERDICT o.verdict).showEngines
    if st = .ok ∧ o.verdict = 0xA55A then d1 else (d1.inc SE_VERIFY_FAIL).tally 282 1
  else d

/-- MBX_CPL, MBX_DATA and MBX_CTL at the end of a mailbox command (R286). -/
def mbxComplete (d : Dev) (k : Nat) (o : Op) (st : Status) : Dev :=
  let m := d.mbx k
  d.setMbx k { m with
    cpl := cplBytes o st 0 (lo32 d.frame) (!m.phase), phase := !m.phase, busy := false, appended := [],
    data := o.dst ++ m.data.drop o.dst.length }

/-- An operation completes: its output is written and its completion queued, unless it is QUIET and OK (R268, R273); a function
without Bus Master Enable gets none (R256), nor does one that an FLR has ended (R280). -/
def complete (d : Dev) (o : Op) (st : Status) : Dev :=
  let d1 := (({ d with ops := d.ops.filter fun p => p ≠ o }.endTask (.op o.ref)).countOp o st)
  let last := !d1.ops.any fun p => p.ctx = o.ctx
  let d2 := if last && d1.crypto.ctxs.any fun c => c.once && c.handle = o.ctx then d1.dropCtx o.ctx else d1
  match o.ref.port with
  | .fn f =>
    if OpRef.orphaned o.ref || !(d.fn f).bme then d2
    else
      let d3 := if o.dst.isEmpty then d2 else d2.emit (.dst o.ref o.dst)
      if o.quiet && st = .ok then d3
      else { d3 with cpls := d3.cpls ++ [⟨o, ((d3.ring f o.ref.ring).map Ring.sqHead).getD 0⟩] }
  | .i3c k => if OpRef.orphaned o.ref then d2 else d2.mbxComplete k o st
  | .fw => d2

/-! ## Endpoints and sessions (R298, R304) -/

def ep (d : Dev) (e : Nat) : Ep := SMap.get (fun _ => {}) d.att.eps e
def setEp (d : Dev) (e : Nat) (x : Ep) : Dev := { d with att := { d.att with eps := SMap.set (fun _ => {}) d.att.eps e x } }

/-- ATT.SESSIONS. -/
def showSessions (d : Dev) : Dev :=
  d.wr ATT_SESSIONS ((d.ep 0).sessions.length + (d.ep 1).sessions.length + (d.ep 2).sessions.length)

/-- A session ends, with its transfers (R304). -/
def endSession (d : Dev) (e id : Nat) : Dev :=
  let x := d.ep e
  let mine := fun (s : Option Nat) => decide (s = some id)
  (d.setEp e { x with
    sessions := x.sessions.filter fun s => s.id ≠ id
    held := x.held.filter fun h => !mine h.session
    chunk := x.chunk.filter fun h => !mine h.session
    seqs := x.seqs.filter fun q => !mine q.1
    delayed := x.delayed.filter fun q => !mine q.1 }).showSessions

/-- Every session of an endpoint ends (R304). -/
def endSessions (d : Dev) (e : Nat) : Dev := ((d.ep e).sessions.map Session.id).foldl (fun d i => d.endSession e i) d

/-! ## Function-level reset (R280, R281) -/

/-- A reference to an operation that is left to the firmware. -/
def orphan (f : Nat) (r : OpRef) : OpRef := if Port.isFn r.port f then { r with index := r.index + 2 ^ 20 } else r

/-- The same in an act of a burn. -/
def orphanAct (f : Nat) : BurnAct → BurnAct
  | .answer r => .answer (orphan f r)
  | .pulses r => .pulses (orphan f r)
  | .transition k r => .transition k (r.map (orphan f))
  | .zeroise r => .zeroise (r.map (orphan f))
  | .grant l r => .grant l (orphan f r)
  | .bound r => .bound (orphan f r)
  | a => a

def orphanStep (f : Nat) : BurnStep → BurnStep
  | .act a => .act (orphanAct f a)
  | s => s

/-- Operations of a function end with FUNCTION_RESETTING; Pilot tasks run on under the firmware without a completion (R280 step 2). -/
def orphanOps (d : Dev) (f : Nat) : Dev :=
  let g := orphan f
  { d with
    ops := (d.ops.filter fun o => !Port.isFn o.ref.port f || pilotTask o.opcode).map fun o => { o with ref := g o.ref }
    cpls := d.cpls.filter fun c => !Port.isFn c.op.ref.port f
    tasks := d.tasks.map fun t => match t.of with
      | .op r => { t with of := .op (g r) }
      | _ => t
    front := { d.front with requester := d.front.requester.map g }
    att := { d.att with waiting := d.att.waiting.map fun x => { x with ref := g x.ref } }
    own := { d.own with returning := d.own.returning.map g }
    cnt := { d.cnt with snapshot := (match d.cnt.snapshot with
      | some r => if Port.isFn r.port f then none else some r
      | none => none) }
    gcs := d.gcs.map fun e => (e.1, { e.2 with write := e.2.write.map fun w => { w with requester := g w.requester } })
    pol := { d.pol with requester := d.pol.requester.map g }
    otpx := { d.otpx with burns := d.otpx.burns.map fun b =>
      { b with requester := b.requester.map g, steps := b.steps.map (orphanStep f) } }
    crypto := { d.crypto with
      deferred := d.crypto.deferred.filter fun x => !Port.isFn x.desc.ref.port f
      imports := d.crypto.imports.filter fun x => !Port.isFn x.1.ref.port f } }

/-- The field at a bit address belongs to the block of function f. -/
def inFnBlock (f b : Nat) : Bool := decide (fnBase f ≤ b / 8 ∧ b / 8 < fnBase f + 0x4000)

/-- The reset of one function (R280), complete within the step. -/
def flrOne (d : Dev) (f : Nat) : Dev :=
  let d1 := d.orphanOps f
  let d2 := (d1.setCtxs (d1.crypto.ctxs.filter fun c => c.fnum ≠ f)).showEngines
  let d3 := d2.zeroiseSlots fun s => decide (64 ≤ s) && d2.rd (KS_SLOT_OWNER s) = f
  let d4 := (d3.setFn f {}).resetWhere fun b => inFnBlock f b && (kindsAt b).contains .f
  (d4.incWrap (FN_STATE_FN_GEN f)).tally 291 1

/-- An FLR of a function; that of PF0 ends the SPDM sessions over PCIe, clears VF Enable and NumVFs, and every VF undergoes its
own (R281, R304). -/
def flr (d : Dev) (f : Nat) : Dev :=
  let d1 := d.flrOne f
  if f ≠ 0 then d1
  else
    let d2 := (List.range d.run.numVfs).foldl (fun d k => if d.fnExists (k + 1) then d.flrOne (k + 1) else d) (d1.endSessions 0)
    { d2 with run := { d2.run with vfEnable := false, numVfs := 0 } }

/-- PERST_N falls: every function is reset, and Drizzle ends (R257, R283, R442). -/
def perstLow (d : Dev) : Dev :=
  let d1 := (d.flr 0).drizzleWake 2
  { d1 with run := { d1.run with perst := false, linkWidth := 0, linkGen := 0 } }

/-- Identification in the configuration space of function f: Vendor, Device, Revision and class (Table 08-1). -/
def pcieIds (f : Nat) : Nat × Nat × Nat × Nat := (0x1F5B, if f = 0 then 0x9640 else 0x9641, 0xB0, 0x108000)

/-- The host writes VF Enable and NumVFs; VFs that cease to exist are reset (R254, R281). -/
def vfChange (d : Dev) (en : Bool) (n : Nat) : Dev :=
  let gone := (List.range 255).filter fun k => d.fnExists (k + 1) && !(en && decide (k + 1 ≤ n))
  let d1 := gone.foldl (fun d k => d.flrOne (k + 1)) d
  { d1 with run := { d1.run with vfEnable := en, numVfs := n } }

/-! ## Host memory (R275) -/

/-- A read of a command's own data failed: the command ends with HOST_MEMORY, and a digest context that it gathers for is
destroyed (R217). -/
def dataFailed (d : Dev) (r : OpRef) (addr : Nat) : Dev :=
  match d.ops.find? fun o => o.ref = r && (o.status.isNone || decide (0 < o.left)) with
  | some o =>
    let d1 := if o.ctx = 0 then d else d.endCtx o.ctx
    let ops := d1.ops.map fun p =>
      if p = o then { p with status := some .hostMemory, verdict := 0, result0 := 0, result1 := 0, dst := [], left := 0 } else p
    let d2 := { d1 with
      ops := ops
      crypto := { d1.crypto with
        deferred := (d1.crypto.deferred.filter fun y => y.desc.ref ≠ r)
        imports := (d1.crypto.imports.filter fun y => y.1.ref ≠ r) } }
    match r.port with
    | .fn f => d2.hostReadFailed f addr
    | _ => d2
  | none => d

/-- The host unmasks a function's vectors as a whole; pending messages of those that are not masked themselves are sent (R279). -/
def fnUnmask (d : Dev) (f : Nat) : Dev :=
  (List.range 256).foldl (fun d v =>
    if bit (d.rd (MSIX_PBA f (v / 64))) (v % 64) && !d.on (MSIX_MASK f v) then (d.setBit (MSIX_PBA f (v / 64)) (v % 64) false).sendMsix f v else d) d

/-- The host writes the Command register and the MSI-X control of a function. -/
def configWrite (d : Dev) (f : Nat) (bme mse msix mask : Bool) : Dev :=
  let d1 := d.setFn f { d.fn f with bme := bme, mse := mse, msix := msix, msixMask := mask }
  if (d.fn f).msixMask && !mask then d1.fnUnmask f else d1

/-- A write to a register of a function's block (R256): one whose Memory Space Enable is 0 answers Unsupported Request. -/
def fnWrite (d : Dev) (f : Fin 256) (k : Dev → Dev) : Dev :=
  if !d.fnLive f then d else if !(d.fn f).mse then d.emit (.unsupported (.fn f)) else k d

/-- A fetch for a ring failed: the ring goes OFF once its operations have completed. -/
def fetchFailed (d : Dev) (f r addr : Nat) : Dev :=
  match d.ring f r with
  | some x => ((d.setRing f r (some { x with state := .draining, pendingEnable := false })).hostReadFailed f addr).fnEvent f
      FN_EVT_RING_ERR
  | none => d

/-! ## The mailbox (R286) -/

/-- A vector is unmasked: a message that fell due is sent (R279). -/
def msixUnmask (d : Dev) (f v : Nat) : Dev :=
  let d1 := d.clear (MSIX_MASK f v)
  if bit (d.rd (MSIX_PBA f (v / 64))) (v % 64) then (d1.setBit (MSIX_PBA f (v / 64)) (v % 64) false).sendMsix f v else d1

/-- A mailbox command ends at GO with a status. -/
def mbxRefused (d : Dev) (k : Nat) (st : Status) : Dev :=
  let m := d.mbx k
  let o : Op := ⟨⟨.i3c ⟨k % 2, Nat.mod_lt _ (by decide)⟩, 0, 0⟩, leAt m.desc 0 2, BitVec.ofNat 32 (leAt m.desc 4 4), false, false,
    some st, 0, 0, 0, [], 0, 0, 0⟩
  d.mbxComplete k o st

/-- Bytes committed by APPEND. -/
def Mbx.taken (m : Mbx) : Nat := m.appended.length

/-- GO (R286): the command waits for its dispatch with BUSY set, or ends at once. -/
def mbxGo (d : Dev) (k : Nat) : Dev :=
  let m := d.mbx k
  let srcLen := leAt m.desc 0x10 4
  let x : Desc := ⟨⟨.i3c ⟨k % 2, Nat.mod_lt _ (by decide)⟩, 0, 0⟩, BitVec.ofNat 512 (leNat m.desc), [], [], [], none⟩
  if m.busy then d
  else if x.reserved || x.sglSrc || x.sglDst then d.mbxRefused k .descInvalid
  else if !opcodeKnown x.opcode then d.mbxRefused k .notSupported
  else if !roleMay x.ref.port x.opcode then d.mbxRefused k .roleDenied
  else if 65536 < x.dstField then d.mbxRefused k .descInvalid
  else if srcLen < Mbx.taken m ∨ 65536 < srcLen - Mbx.taken m then d.mbxRefused k .lengthMismatch
  else d.setMbx k { m with busy := true }

/-- APPEND commits the 64 KiB of MBX_DATA (R286). -/
def mbxAppend (d : Dev) (k : Nat) : Dev :=
  let m := d.mbx k
  if m.busy then d else d.setMbx k { m with appended := m.appended ++ slice m.data 0 65536 }

/-- ABORT discards what has been appended, and does nothing once BUSY is set (R286). -/
def mbxAbort (d : Dev) (k : Nat) : Dev :=
  let m := d.mbx k
  if m.busy then d else d.setMbx k { m with appended := [] }

end Dev

/-! ## Meanings -/

/-- FN_CTL ENABLE (R259). -/
def execFunctionEnable (f : Fin 256) (s : State) : Result := act s fun d => d.fnWrite f fun d => d.fnEnable f

/-- FN_CTL DISABLE (R259). -/
def execFunctionDisable (f : Fin 256) (s : State) : Result := act s fun d => d.fnWrite f fun d => d.fnDisable f

/-- A RING_CTL ENABLE is taken; `entry` is what bytes 0x00 to 0x2F of the entry hold, `line` the line of the ring's group (R261). -/
def execRingEnable (f : Fin 256) (entry : BitVec 384) (line : BitVec 512) (failAddr : Option Nat) (s : State) : Result :=
  act s fun d =>
    match d.ringDue f 1 with
    | some r =>
      if d.fnLive f && !d.hostPaused && (d.fn f).bme && d.rctRoom f r then
        d.ringEnable f r (parseRct entry) (lineTail line (r % 8) = 0 && lineHead line (r % 8) = 0) failAddr
      else d
    | none => d

/-- A RING_CTL DISABLE is taken (R261). -/
def execRingDisable (f : Fin 256) (s : State) : Result :=
  act s fun d =>
    match d.ringDue f 2 with
    | some r => if d.fnLive f && !d.hostPaused then d.ringDisable f r else d
    | none => d

/-- A draining ring whose operations have completed goes OFF (R261). -/
def execRingDrainComplete (f r : Fin 256) (s : State) : Result :=
  act s fun d =>
    match d.ring f r with
    | some x => if x.state = .draining && !d.ringBusy f r && (!x.cached || decide (d.hostUse.fills < 32)) then d.ringOff f r x else d
    | none => d

/-- A write to FN_KICK (R267). -/
def execFnKick (f : Fin 256) (s : State) : Result := act s fun d => d.fnWrite f fun d => d.kick f

/-- The sleep hint is written or confirmed; `x` is what the confirming read, and the scan that it may lead to, return (R266). -/
def execFunctionDrowsy (x : Scan) (s : State) : Result :=
  act s fun d =>
    if d.fnLive x.f && d.rd (FN_STATE_STATE x.f) = 2 && (d.fn x.f).bme && !d.hostPaused && d.rd DRZ_STATE = 0 then d.drowsy x else d

/-- The scan of a drowsy function (R266). -/
def execDrowsyScan (f : Fin 256) (dbSeq : Word) (s : State) : Result :=
  act s fun d =>
    if d.fnLive f && d.rd (FN_STATE_STATE f) = 2 && (d.fn f).bme && !d.hostPaused then d.drowsyScan f dbSeq.toNat else d

/-- A function-level reset (R280, R281). -/
def execFlr (f : Fin 256) (s : State) : Result := act s fun d => if d.fnLive f then d.flr f else d

/-- The host writes Bus Master Enable, with Memory Space Enable and the MSI-X control (R256, R257, R279). -/
def execBusMasterEnableChange (f : Fin 256) (bme mse msix mask : Bool) (s : State) : Result :=
  act s fun d => if d.fnLive f then d.configWrite f bme mse msix mask else d

/-- The host unmasks a vector; its pending message is sent (R279). -/
def execMsixUnmask (f v : Fin 256) (s : State) : Result :=
  act s fun d => d.fnWrite f fun d => d.msixUnmask f v

/-- A host memory read of a function fails at an address (R275). -/
def execHostMemory (f : Fin 256) (what : HostRead) (addr : BitVec 64) (s : State) : Result :=
  act s fun d =>
    if d.fnLive f then
      match what with
      | .fetch r => d.fetchFailed f r addr.toNat
      | .data r i => d.dataFailed ⟨.fn f, r, i⟩ addr.toNat
    else d

/-- PERST_N falls (R257). -/
def execPerstNAssert (s : State) : Result := act s fun d => if d.awake then d.perstLow else d

/-- PERST_N rises: link training starts, and the functions leave reset (R461). -/
def execPerstNRelease (s : State) : Result :=
  act s fun d => if d.awake then { d with run := { d.run with perst := true } }.linkTrained else d

/-- The host writes VF Enable and NumVFs (R281). -/
def execVfEnableChange (en : Bool) (n : Fin 256) (s : State) : Result := act s fun d => if d.fnLive 0 then d.vfChange en n else d

/-- NOP completes with OK (R277). -/
def execNop (x : Desc) (s : State) : Result := act s fun d => d.command x 0x0000 true fun d => (ans .ok, d)

/-- A dispatched operation completes (R273), one that runs as a Pilot task not before its last slice (R40). -/
def execOperationComplete (r : OpRef) (s : State) : Result :=
  act s fun d =>
    match d.ops.find? fun o => o.ref = r with
    | some o => match o.status with
      | some st => if d.awake && Dev.mayComplete d.ops o && d.sliced (.op r) && d.seTurn o then d.complete o st else d
      | none => d
    | none => d

/-- MBX_CTL.APPEND (R286). -/
def execMbxAppend (k : Fin 2) (s : State) : Result :=
  act s fun d => if d.awake && d.cst (.i3c k) = .active then d.mbxAppend k else d

/-- MBX_CTL.GO (R286). -/
def execMbxGo (k : Fin 2) (s : State) : Result :=
  act s fun d => if d.awake && d.cst (.i3c k) = .active then d.mbxGo k else d

/-- MBX_CTL.ABORT (R286). -/
def execMbxAbort (k : Fin 2) (s : State) : Result :=
  act s fun d => if d.awake && d.cst (.i3c k) = .active then d.mbxAbort k else d

end Sys2Proof.Machine
end

