-- ==== Sys2Proof/Machine/Attest.lean ====
section
/-! DEFINITION. Attestation (09_attestation.md R287 to R306): measurement entries, the Fypex report, and the SPDM responder. -/

namespace Sys2Proof.Machine

open Reg

/-- HOME offsets of the certificate chains (R292, R313). -/
def chainPlace (k : Nat) : Nat := if k = 0 then 0x1330000 else 0x1332000

/-- A certificate chain as HOME holds it: its first four bytes give its length (R292). -/
def State.chain (s : State) (k : Nat) : Bytes :=
  let n := leNat (s.homeRead (chainPlace k) 4)
  if n ≤ (if k = 0 then 8192 else 32768) then s.homeRead (chainPlace k) n else []

/-- A measurement entry (Table 09-2) with CHANGE_GEN zero. -/
def measEntry (index kind state eflags svn slot status : Nat) (digest : Bytes) : Nat × Bytes :=
  (index, leBytes 1 index ++ leBytes 1 kind ++ leBytes 1 state ++ leBytes 1 eflags ++ leBytes 1 svn ++ leBytes 1 slot
    ++ leBytes 2 status ++ leBytes 8 0 ++ slice digest 0 48)

/-- An entry takes CHANGE_GEN. -/
def withGen (e : Nat × Bytes) (gen : Nat) : Nat × Bytes := (e.1, e.2.take 8 ++ leBytes 4 gen ++ e.2.drop 12)

/-- CHANGE_GEN of an entry. -/
def genOf (e : Nat × Bytes) : Nat := leAt e.2 8 4

/-- The value of an entry as a DMTF measurement block (Table 09-7). -/
def measBlock (e : Nat × Bytes) : Bytes :=
  let v := if e.1 ≤ 6 then slice e.2 16 48 else e.2
  let t := if e.1 = 1 then 0x00 else if e.1 ≤ 4 then 0x01 else if e.1 = 5 then 0x03 else if e.1 = 6 then 0x82 else 0x81
  leBytes 1 e.1 ++ leBytes 1 1 ++ leBytes 2 (v.length + 3) ++ leBytes 1 t ++ leBytes 2 v.length ++ v

namespace Dev

/-! ## Entries (R287 to R291) -/

/-- The device configuration record (Table 09-3). -/
def configRecord (d : Dev) : Bytes :=
  padTo 48 (leBytes 1 d.lc.code ++ leBytes 1 (d.rd FS_PROFILE) ++ leBytes 1 (d.rd DBG_STATE_LEVEL) ++ leBytes 1 (flag d.run.groupRole)
    ++ leBytes 1 (d.rd FW_FUSED_SVN) ++ leBytes 1 (d.rd POL_FUSED_SVN) ++ leBytes 1 (d.rd LC_OKS_REVOKED) ++ leBytes 1 (d.rd LC_CNT_DEBUG))

/-- EFLAGS of a component (Table 09-2). -/
def eflags (d : Dev) (n : Nat) : Nat :=
  d.rd (COMP_STATUS_FORCED n) + 2 * d.rd (COMP_STATUS_KEY_STALE n) + 4 * flag (d.anyDegraded n) + 8 * d.rd (COMP_OXM_FLOOR_LOST n)

/-- Digest and slot of an OXM. -/
def oxmDigest (o : Option Oxm) : Bytes × Nat :=
  match o with
  | some x => (sha384b (oxmSigned x.raw), x.slot)
  | none => (List.replicate 48 0, 0xFF)

/-- The present entries in ascending order, without CHANGE_GEN (Table 09-1). -/
def measNow (d : Dev) : List (Nat × Bytes) :=
  let dev := fun (i : Nat) (b : Bytes) => measEntry i 0 0 0 0 0xFF 0 b
  let q := parsePolicy d.pol.bytes
  let pol := if d.pol.bytes.isEmpty then [] else
    [measEntry 5 0 0 0 (d.rd POL_SVN) q.ownerSlot 0 ((List.range 6).flatMap fun i => leBytes 8 (d.rd (POL_DIGEST i)))]
  let named := if d.pol.bytes.isEmpty then [] else allGcs.filter fun n => q.comps.any fun e => e.1 = n
  [dev 1 (beBytes 48 Config.romDigest.toNat), dev 2 d.att.loader, dev 3 d.att.firmware, dev 4 d.att.microcode] ++ pol
    ++ [dev 6 d.configRecord]
    ++ (named.map fun n =>
        let o := oxmDigest (d.comp n).oxm
        measEntry (0x10 + n) 1 (d.rd (COMP_STATUS_STATE n)) (d.eflags n) (d.rd (COMP_OXM_SVN n)) o.2 (d.rd (COMP_STATUS_LAST_STATUS n)) o.1)
    ++ ((named.filter fun n => d.rd (COMP_STATUS_GOLDEN n) ≠ 0).map fun n =>
        let o := oxmDigest (d.comp n).golden
        measEntry (0x80 + n) 2 (d.rd (COMP_STATUS_GOLDEN n)) (d.eflags n) (d.rd (COMP_OXM_GOLDEN_SVN n)) o.2 0 o.1)

/-- Indices whose entry differs between two tables, or that one of them lacks (R290). -/
def measChanged (old new : List (Nat × Bytes)) : List Nat :=
  let was := old.map fun e => withGen e 0
  ((new.filter fun e => !was.contains e).map Prod.fst) ++ ((was.filter fun e => !new.any fun x => x.1 = e.1).map Prod.fst)

/-- Notices of a change to every ACTIVE function with an event ring (R297). -/
def measNotices (d : Dev) (changed : List Nat) : Dev :=
  let which := match changed with
    | [i] => i
    | _ => 0xFF
  ((List.range 256).filter fun f => d.rd (FN_STATE_STATE f) = 2).foldl (fun d f =>
    d.ringPost f ⟨Ev.attMeasChanged.code, which, lo32 (d.rd ATT_MEAS_GEN)⟩) d

/-- At a tick at which an entry has changed, MEAS_GEN increments and the changed entries take it (R290). -/
def measTick (d : Dev) : Dev :=
  let new := d.measNow
  let changed := measChanged d.att.entries new
  if changed = [] then d
  else
    let gen := d.rd ATT_MEAS_GEN + 1
    let es := new.map fun e =>
      if changed.contains e.1 then withGen e (lo32 gen)
      else withGen e (((d.att.entries.find? fun x => x.1 = e.1).map genOf).getD 0)
    ((({ d with att := { d.att with entries := es } }.wr ATT_MEAS_GEN gen).wr ATT_ENTRIES es.length)).measNotices changed

/-! ## Reports (R293 to R296) -/

/-- FUNCTION of a report header (Table 09-4). -/
def reportFn : Port → Nat
  | .fn f => f.val
  | .i3c k => 0x100 + k.val
  | .fw => 0

/-- Header and entries of a report (Table 09-4); `sig` bytes of signature follow. -/
def report (d : Dev) (p : Port) (nonce : Bytes) (es : List (Nat × Bytes)) (signed : Bool) : Bytes :=
  let body := (es.map Prod.snd).flatten
  let total := 96 + body.length + (if signed then 4723 else 0)
  leBytes 4 0x524D5846 ++ leBytes 2 1 ++ leBytes 1 d.lc.code
    ++ leBytes 1 (flag d.att.takenOver + 2 * flag (decide (d.rd DBG_STATE_LEVEL ≠ 0)) + 4 * flag d.legacy + 16 * flag (!signed))
    ++ leBytes 4 total ++ leBytes 4 deviceId ++ slice d.serial 0 16 ++ leBytes 8 (d.rd ATT_MEAS_GEN) ++ leBytes 8 d.frame
    ++ slice nonce 0 32 ++ leBytes 2 (reportFn p) ++ leBytes 2 es.length ++ List.replicate 12 0 ++ body

/-- The identity keys are in the key store (R292). -/
def hasIdentity (d : Dev) : Bool := d.rd ATT_ID_STATE = 1 && d.on (KS_SLOT_VALID 1) && d.on (KS_SLOT_VALID 2) && d.rd CR_STATE ≠ 3

/-- A signature by an identity key: slot 1 ECDSA P-384, slot 2 ML-DSA-87 (R292, R294). -/
def identitySign (d : Dev) (slot : Nat) (msg : Bytes) : Bytes × Dev :=
  let alg := if slot = 2 then 1 else 2
  (slice (Config.sign alg (d.key slot).bytes [] msg d.free) 0 (if slot = 2 then 4627 else 96),
    ((d.generate 32).2.inc SE_OPS).tally 281 1)

/-- A bare length mismatch that tells the bytes needed (R296). -/
def needs (n : Nat) : Ans := { status := some .lengthMismatch, result0 := n }

/-- MEAS_REPORT (R294 to R296). -/
def measReport (d : Dev) (x : Desc) (nonce : Bytes) : Ans × Dev :=
  let es := d.att.entries
  let total := 96 + 64 * es.length + 4723
  if x.src ≠ [] then (ans .lengthMismatch, d)
  else if x.dstLen < total then (needs total, d)
  else if !d.hasIdentity then (ans .selftestFail, d)
  else
    let body := d.report x.ref.port nonce es true
    let a := d.identitySign 2 body
    let b := a.2.identitySign 1 body
    ({ status := some .ok, result0 := total, result1 := lo32 (d.rd ATT_MEAS_GEN), dst := body ++ a.1 ++ b.1 },
     (b.2.inc ATT_REPORTS).tally 296 1)

/-- MEAS_READ (R295, R296). -/
def measRead (d : Dev) (x : Desc) (first last : Nat) : Ans × Dev :=
  let es := d.att.entries.filter fun e => decide (first ≤ e.1 ∧ e.1 ≤ last)
  let b := d.report x.ref.port [] es false
  if x.src ≠ [] then (ans .lengthMismatch, d)
  else if x.dstLen < b.length then (needs b.length, d)
  else ({ status := some .ok, result0 := b.length, result1 := lo32 (d.rd ATT_MEAS_GEN), dst := b }, d)

/-- A report command is carried out on the present snapshot (R295). -/
def measAnswer (d : Dev) (x : Desc) : Dev :=
  let a := if x.opcode = 0x400 then d.measReport x (leBytes 32 (x.par 0 256).toNat) else d.measRead x (x.par 0 8).toNat (x.par 1 8).toNat
  a.2.answerOp x.ref a.1

/-- The report commands whose Pilot task begins in this frame take their snapshot (R295). -/
def measAnswers (d : Dev) : Dev :=
  let due := fun (x : Desc) => d.tasks.all fun t => t.of ≠ .op x.ref || decide (t.start ≤ d.frame)
  (d.att.waiting.filter due).foldl measAnswer { d with att := { d.att with waiting := d.att.waiting.filter fun x => !due x } }

/-- A report command waits for the tick of its first slice (R295). -/
def awaitSnapshot (x : Desc) (d : Dev) : Ans × Dev := ({ status := none }, { d with att := { d.att with waiting := d.att.waiting ++ [x] } })

/-! ## The responder (R298 to R304) -/

/-- The endpoint can receive: the responder runs and is not under test, and its medium is there (R298, Table 12-5). -/
def epLive (d : Dev) (e : Nat) : Bool :=
  d.up && (d.bistOf .mctp).isNone &&
  (match e with
    | 0 => d.fnLive 0
    | 1 => d.cst (.i3c 0) = .active && (d.bistOf (.i3c 0)).isNone
    | _ => d.cst (.i3c 1) = .active && (d.bistOf (.i3c 1)).isNone)

/-- A response goes out on the endpoint. -/
def spdm (d : Dev) (e : Nat) (s : Option Nat) (m : SpdmMsg) : Dev := d.emit (.spdm e s m)

/-- An ERROR response (Table 09-8, Table 12-4). -/
def spdmErr (d : Dev) (e : Nat) (s : Option Nat) (x : SpdmError) : Dev := ((d.spdm e s (.error x)).inc ATT_SPDM_ERR).tally 295 1

/-- The open chunked request is refused (R303). -/
def chunkErr (d : Dev) (e : Nat) (s : Option Nat) : Dev :=
  ((d.setEp e { d.ep e with chunk := none }).inc ATT_CHUNK_ERR).spdmErr e s .invalidRequest

/-- The message of a session counts as its latest. -/
def touchSession (d : Dev) (e : Nat) (s : Option Nat) : Dev :=
  let x := d.ep e
  d.setEp e { x with sessions := x.sessions.map fun t => if s = some t.id then { t with last := d.frame } else t }

/-- The session of a message exists; a message outside sessions needs none (R304). -/
def knows (d : Dev) (e : Nat) : Option Nat → Bool
  | none => true
  | some i => (d.ep e).sessions.any fun s => s.id = i

/-- A request reaches the responder: dropped, refused for its length (R300), while a chunked request is open (R303), before
version, capabilities and algorithms have come to `stage`, for its version when it is not 1.2 (1.0 for GET_VERSION, log entry 19), or inside a session when not accepted there (R304); otherwise it is
answered. A request other than CHUNK_GET discards a held response. -/
def request (d : Dev) (e : Nat) (s : Option Nat) (h : ReqHead) (chunkGet chunkSend inSession : Bool) (stage : Nat) (body : Dev → Dev) : Dev :=
  if !d.epLive e || !d.knows e s then d
  else
    let d1 := (d.touchSession e s).tally 294 1
    let d2 := if chunkGet then d1 else d1.setEp e { d1.ep e with held := none }
    if (d2.ep e).chunk.isSome && !chunkSend then d2.chunkErr e s
    else if h.version ≠ (if inSession || stage ≠ 0 then 0x12 else 0x10) then d2.spdmErr e s .versionMismatch
    else if !h.whole then d2.spdmErr e s .invalidRequest
    else if s.isSome && !inSession then d2.spdmErr e s .unsupportedRequest
    else if (d2.ep e).stage < stage then d2.spdmErr e s .unexpectedRequest
    else body d2

/-- The answer to a request whose response is not ready (R300). -/
def notReady : SpdmError := .responseNotReady 17 4

/-- A response is sent, or held and announced when it is longer than the requester's DataTransferSize (R303); `bytes` is its wire form. -/
def answerLarge (d : Dev) (e : Nat) (s : Option Nat) (m : SpdmMsg) (bytes : Bytes) : Dev :=
  let x := d.ep e
  if bytes.length ≤ x.transfer then d.spdm e s m
  else
    let h : Held := ⟨s, x.handle, 0, bytes, d.frame⟩
    (d.setEp e { x with held := some h, handle := (x.handle + 1) % 256 }).spdmErr e s (.largeResponse x.handle)

/-- A response with its wire form; one that is not ready within CTExponent is kept for RESPOND_IF_READY (R300). -/
def answerLate (d : Dev) (e : Nat) (s : Option Nat) (late : Bool) (m : SpdmMsg) (bytes : Bytes) : Dev :=
  if late then (d.setEp e { d.ep e with delayed := some (s, m, bytes) }).spdmErr e s notReady else d.answerLarge e s m bytes

/-- MeasurementSummaryHash of a type (R301): none for 0x00, indices 0x01 to 0x06 for 0x01, every present block for 0xFF. -/
def summary (d : Dev) (type : Nat) : Bytes :=
  if type = 0 then [] else sha384b ((d.att.entries.filter fun e => type = 0xFF || decide (e.1 ≤ 6)).flatMap measBlock)

/-- A signature over the transcript (R299). -/
def spdmSign (d : Dev) : Bytes × Dev := d.identitySign 1 (Config.transcript d.free)

/-- GET_MEASUREMENTS (R301, R302). -/
def getMeasurements (d : Dev) (e : Nat) (s : Option Nat) (index : Nat) (signed late : Bool) (nonce : Bytes) : Dev :=
  let x := d.ep e
  let start := ((x.seqs.find? fun q => q.1 = s).map Prod.snd).getD (d.rd ATT_MEAS_GEN)
  let others := x.seqs.filter fun q => q.1 ≠ s
  let es := if index = 0 then [] else d.att.entries.filter fun m => index = 0xFF || m.1 = index
  let record := es.flatMap measBlock
  let count := if index = 0 then d.att.entries.length else es.length
  let head := leBytes 8 (0x6012 + 2 ^ 16 * (if index = 0 then count else 0) + 2 ^ 32 * es.length + 2 ^ 40 * record.length)
  if signed && start ≠ d.rd ATT_MEAS_GEN then
    ((d.setEp e { x with seqs := others }).inc ATT_RESYNCH).spdmErr e s .requestResynch
  else if signed && !d.hasIdentity then d.spdmErr e s .unspecified
  else if signed then
    let g := d.spdmSign
    let d1 := ((g.2.setEp e { x with seqs := others }).inc ATT_REPORTS).tally 296 1
    d1.answerLate e s late (.measurements count record nonce g.1) (head ++ record ++ nonce ++ leBytes 2 0 ++ g.1)
  else
    let r := d.drawBytes 32
    (r.2.setEp e { x with seqs := (s, start) :: others }).answerLate e s late (.measurements count record r.1 [])
      (head ++ record ++ r.1 ++ leBytes 2 0)

/-- Offset and length of a chunk of a held response (R303): 16 bytes of header in chunk 0, 12 in the others. -/
def chunkAt (transfer seq total : Nat) : Nat × Nat :=
  let off := if seq = 0 then 0 else (transfer - 16) + (seq - 1) * (transfer - 12)
  (off, min (total - off) (if seq = 0 then transfer - 16 else transfer - 12))

/-- CHUNK_GET (R303). -/
def chunkGet (d : Dev) (e : Nat) (s : Option Nat) (handle seq : Nat) : Dev :=
  let x := d.ep e
  match x.held with
  | none => d.spdmErr e s .invalidRequest
  | some h =>
    if h.session ≠ s ∨ h.handle ≠ handle ∨ ¬ (seq = h.next ∨ seq + 1 = h.next) then
      (d.setEp e { x with held := none }).spdmErr e s .invalidRequest
    else
      let c := chunkAt x.transfer seq h.bytes.length
      let last := decide (h.bytes.length ≤ c.1 + c.2)
      (d.setEp e { x with held := if last then none else some { h with next := seq + 1, last := d.frame } }).spdm e s
        (.chunk handle seq last (slice h.bytes c.1 c.2))

/-- CHUNK_SEND (R303); `large` is LargeMessageSize of chunk 0. -/
def chunkSend (d : Dev) (e : Nat) (s : Option Nat) (handle seq : Nat) (last : Bool) (large size : Nat) (data : Bytes) : Dev :=
  let x := d.ep e
  let full := if seq = 0 then 4096 - 16 else 4096 - 12
  let shape := size = data.length && (last || data.length = full)
  let go := fun (total got : Nat) =>
    if total < got + data.length ∨ (last ∧ got + data.length ≠ total) then d.chunkErr e s
    else
      let c : ChunkReq := ⟨s, handle, seq + 1, total, got + data.length, d.frame⟩
      (d.setEp e { x with chunk := if last then none else some c }).spdm e s (.chunkSendAck handle seq)
  match x.chunk with
  | none => if seq = 0 && decide (4096 < large ∧ large ≤ 32768) && shape then go large 0 else d.chunkErr e s
  | some c => if c.session = s && c.handle = handle && c.next = seq && shape then go c.total c.got else d.chunkErr e s

/-- KEY_EXCHANGE (R304): at most four sessions on an endpoint. -/
def keyExchange (d : Dev) (e type : Nat) (late : Bool) : Dev :=
  let x := d.ep e
  if 4 ≤ x.sessions.length then d.spdmErr e none .sessionLimitExceeded
  else if !d.hasIdentity then d.spdmErr e none .unspecified
  else
    let r := d.drawBytes 32
    let g := r.2.spdmSign
    let id := g.2.att.session
    let t : Session := ⟨id, false, d.frame⟩
    let d1 := { g.2 with att := { g.2.att with session := id + 1 } }
    let y := d1.ep e
    ((d1.setEp e { y with sessions := y.sessions ++ [t] }).showSessions).answerLate e none late
      (.keyExchange id r.1 (d.summary type) g.1) []

/-- FINISH completes a session, or ends it when its verify data are wrong (R300, log entry 19). -/
def finish (d : Dev) (e id : Nat) (ok late : Bool) : Dev :=
  let x := d.ep e
  if ok then
    (d.setEp e { x with sessions := x.sessions.map fun t => if t.id = id then { t with done := true } else t }).answerLate e (some id) late .finish []
  else (d.spdmErr e (some id) .decryptError).endSession e id

/-- The firmware's part of a Pilot reset, or of a takeover: no session, held response or sequence remains (R304, R305). -/
def dropSpdm (d : Dev) : Dev := { d with att := { d.att with eps := [] } }.clear ATT_SESSIONS

end Dev

/-! ## Meanings -/

/-- An MCTP message arrives: `inSequence` says that its packets did (R298). One that the responder does not take is dropped. -/
def execMctpMessage (e : Fin 3) (type : Byte) (length : Nat) (inSequence : Bool) (s : State) : Result :=
  act s fun d =>
    if d.epLive e && inSequence && decide (length ≤ 4160) && (type = 0x00 || type = 0x05 || type = 0x06) then d.tally 293 1 else d

/-- MCTP control Set Endpoint ID (R298). -/
def execSetEndpointId (e : Fin 3) (eid : Byte) (s : State) : Result :=
  act s fun d =>
    if d.epLive e then d.wr (match e.val with
      | 0 => ATT_EID_PCIE
      | 1 => ATT_EID_I3C0
      | _ => ATT_EID_I3C1) eid.toNat
    else d

/-- GET_VERSION begins again: version 1.2 (R299, R300). -/
def execGetVersion (e : Fin 3) (sess : Option Nat) (h : ReqHead) (s : State) : Result :=
  act s fun d => d.request e sess h false false false 0 fun d =>
    let x := d.ep e
    (d.setEp e { x with stage := 1, seqs := [], delayed := none }).spdm e sess (.version 0x12)

/-- The capabilities of Table 09-6 at their places in the FLAGS of DSP0274 (PRESUMED, log entry 100): CERT_CAP 1, CHAL_CAP 2, MEAS_CAP 3 and 4,
MEAS_FRESH_CAP 5, ENCRYPT_CAP 6, MAC_CAP 7, KEY_EX_CAP 9, CHUNK_CAP 17. -/
def spdmFlags : Nat := 2 ^ 1 + 2 ^ 2 + 2 * 2 ^ 3 + 2 ^ 5 + 2 ^ 6 + 2 ^ 7 + 2 ^ 9 + 2 ^ 17

/-- GET_CAPABILITIES; `transfer` is the requester's DataTransferSize (Table 09-6). -/
def execGetCapabilities (e : Fin 3) (sess : Option Nat) (h : ReqHead) (transfer : Nat) (s : State) : Result :=
  act s fun d => d.request e sess h false false false 1 fun d =>
    (d.setEp e { d.ep e with stage := 2, transfer := transfer }).spdm e sess (.capabilities spdmFlags 17 4096 32768)

/-- NEGOTIATE_ALGORITHMS; `offers` says that every row of Table 09-6 is offered (R299). -/
def execNegotiateAlgorithms (e : Fin 3) (sess : Option Nat) (h : ReqHead) (offers : Bool) (s : State) : Result :=
  act s fun d => d.request e sess h false false false 2 fun d =>
    if offers then (d.setEp e { d.ep e with stage := 3 }).spdm e sess
      (.algorithms .ecdsaP384 .sha384 .dmtf .sha384 .secp384r1 .aes256Gcm .spdm) else d.spdmErr e sess .invalidRequest

/-- GET_DIGESTS: slot 0 holds chain 0 (R299, R300). -/
def execGetDigests (e : Fin 3) (sess : Option Nat) (h : ReqHead) (late : Bool) (s : State) : Result :=
  act s fun d => d.request e sess h false false true 3 fun d => d.answerLate e sess late (.digests (sha384b (s.chain 0))) []

/-- GET_CERTIFICATE (R299, R300). -/
def execGetCertificate (e : Fin 3) (sess : Option Nat) (h : ReqHead) (slot offset len : Nat) (late : Bool) (s : State) : Result :=
  act s fun d => d.request e sess h false false true 3 fun d =>
    let c := s.chain 0
    if slot ≠ 0 ∨ c.length ≤ offset then d.spdmErr e sess .invalidRequest
    else
      let p := (c.drop offset).take len
      d.answerLate e sess late (.certificate p (c.length - offset - p.length))
        (leBytes 4 0x0212 ++ leBytes 2 p.length ++ leBytes 2 (c.length - offset - p.length) ++ p)

/-- CHALLENGE, outside sessions only (R300); `late` says that the signature takes longer than CTExponent. -/
def execChallenge (e : Fin 3) (sess : Option Nat) (h : ReqHead) (slot type : Nat) (late : Bool) (s : State) : Result :=
  act s fun d => d.request e sess h false false false 3 fun d =>
    if slot ≠ 0 then d.spdmErr e sess .invalidRequest
    else if !d.hasIdentity then d.spdmErr e sess .unspecified
    else
      let r := d.drawBytes 32
      let g := r.2.spdmSign
      g.2.answerLate e sess late (.challengeAuth (sha384b (s.chain 0)) r.1 (d.summary type) g.1) []

/-- GET_MEASUREMENTS (R301, R302); a signed one carries a nonce. -/
def execGetMeasurements (e : Fin 3) (sess : Option Nat) (h : ReqHead) (index : Byte) (signed late : Bool) (nonce : Bytes) (s : State) : Result :=
  act s fun d => d.request e sess h false false true 3 fun d => d.getMeasurements e sess index.toNat signed late (slice nonce 0 32)

/-- KEY_EXCHANGE (R304). -/
def execKeyExchange (e : Fin 3) (sess : Option Nat) (h : ReqHead) (type : Nat) (late : Bool) (s : State) : Result :=
  act s fun d => d.request e sess h false false false 3 fun d => d.keyExchange e type late

/-- FINISH of a session whose KEY_EXCHANGE was answered; `verified` says that its verify data are right (R300). -/
def execFinish (e : Fin 3) (sess : Nat) (h : ReqHead) (verified late : Bool) (s : State) : Result :=
  act s fun d => d.request e (some sess) h false false true 3 fun d =>
    if (d.ep e).sessions.any fun t => t.id = sess && t.done then d.spdmErr e (some sess) .unsupportedRequest else d.finish e sess verified late

/-- END_SESSION (R304). -/
def execEndSession (e : Fin 3) (sess : Nat) (h : ReqHead) (s : State) : Result :=
  act s fun d => d.request e (some sess) h false false true 3 fun d => (d.spdm e (some sess) .endSession).endSession e sess

/-- RESPOND_IF_READY fetches a delayed response (R300). -/
def execRespondIfReady (e : Fin 3) (sess : Option Nat) (h : ReqHead) (ready : Bool) (s : State) : Result :=
  act s fun d => d.request e sess h false false false 3 fun d =>
    let x := d.ep e
    match x.delayed with
    | some (t, m, b) =>
      if t ≠ sess then d.spdmErr e sess .unexpectedRequest
      else if ready then (d.setEp e { x with delayed := none }).answerLarge e sess m b
      else d.spdmErr e sess Dev.notReady
    | none => d.spdmErr e sess .unexpectedRequest

/-- CHUNK_SEND (R303). -/
def execChunkSend (e : Fin 3) (sess : Option Nat) (h : ReqHead) (handle seq : Nat) (last : Bool) (large size : Nat) (data : Bytes)
    (s : State) : Result :=
  act s fun d => d.request e sess h false true true 3 fun d => d.chunkSend e sess handle seq last large size data

/-- CHUNK_GET (R303). -/
def execChunkGet (e : Fin 3) (sess : Option Nat) (h : ReqHead) (handle seq : Nat) (s : State) : Result :=
  act s fun d => d.request e sess h true false true 3 fun d => d.chunkGet e sess handle seq

/-- Any other SPDM request (R300). -/
def execUnsupportedRequest (e : Fin 3) (sess : Option Nat) (h : ReqHead) (s : State) : Result :=
  act s fun d => d.request e sess { h with whole := true } false false true 0 fun d => d.spdmErr e sess .unsupportedRequest

/-- A session with no message for 60 s ends (R304). -/
def execSessionTimeout (e : Fin 3) (id : Nat) (s : State) : Result :=
  act s fun d =>
    if d.up && (d.ep e).sessions.any fun t => t.id = id && decide (t.last + 30000000 ≤ d.frame) then d.endSession e id else d

/-- A held response or an open chunked request that saw no chunk for 1 s is discarded (R303). -/
def execChunkTimeout (e : Fin 3) (s : State) : Result :=
  act s fun d =>
    let x := d.ep e
    if !d.up then d
    else
      let d1 := if x.held.any fun h => decide (h.last + 500000 ≤ d.frame) then d.setEp e { x with held := none } else d
      match (d1.ep e).chunk with
      | some c => if c.last + 500000 ≤ d.frame then d1.chunkErr e c.session else d1
      | none => d1

/-- MEAS_REPORT (R295). -/
def execMeasReport (x : Desc) (s : State) : Result :=
  act s fun d => d.command x 0x0400 true (Dev.awaitSnapshot x)

/-- MEAS_READ (R295). -/
def execMeasRead (x : Desc) (s : State) : Result :=
  let first : Byte := x.par 0 8
  let last : Byte := x.par 1 8
  let a := first.toNat
  let b := last.toNat
  act s fun d => d.command x 0x0401 (decide (1 ≤ a ∧ a ≤ b ∧ b ≤ 0xDF)) (Dev.awaitSnapshot x)

/-- CERT_CHAIN_READ (R295). -/
def execCertChainRead (x : Desc) (s : State) : Result :=
  let chain : Byte := x.par 0 8
  act s fun d => d.command x 0x0402 (decide (chain.toNat ≤ 1)) fun d =>
    let c := s.chain chain.toNat
    if x.src ≠ [] then (ans .lengthMismatch, d)
    else if x.dstLen < c.length then (Dev.needs c.length, d)
    else ({ status := some .ok, result0 := c.length, dst := c }, d)

end Sys2Proof.Machine
end

