-- ==== Sys2Proof/Machine/Relay.lean ====
section
/-! DEFINITION. The relay links and chain time (10_own_firmware_update.md R327 to R331): frames, windows, acknowledgement and repetition. -/

namespace Sys2Proof.Machine

open Reg

/-! ## Frames (Table 10-8) -/

/-- Frame types. -/
def relayData : Nat := 1
def relayAck : Nat := 2
def relayNak : Nat := 3
def relayTime : Nat := 4
def relayControl : Nat := 5
def relayRecover : Nat := 6

/-- Payload bytes of a frame. -/
def relayPayload : Nat := 1004

/-- The 1,024 bytes of a relay frame (R327). -/
def RFrame.encode (f : RFrame) : Bytes :=
  let b := leBytes 1 f.type ++ leBytes 1 f.flags ++ leBytes 2 f.seq ++ leBytes 2 f.ack ++ leBytes 2 f.payload.length ++ leBytes 1 f.src
    ++ leBytes 1 f.dst ++ leBytes 2 f.xfer ++ List.replicate 4 0 ++ slice f.payload 0 relayPayload
  b ++ leBytes 4 (crc32 b)

/-- Control messages (R336, R338 to R342), by the number that the model gives them (DESIGN CHOICE, log entry 21). -/
inductive Msg where
  | armed | commit | landed | notHealthy | aborted | settled | abort | fellBack | catchUp | nakChunk
  deriving DecidableEq, Repr

def Msg.code : Msg → Nat
  | armed => 1 | commit => 2 | landed => 3 | notHealthy => 4 | aborted => 5 | settled => 6 | abort => 7 | fellBack => 8
  | catchUp => 9 | nakChunk => 10

namespace Dev

def link (d : Dev) (r : Nat) : Link := if r = 0 then d.link0 else d.link1
def setLink (d : Dev) (r : Nat) (l : Link) : Dev := if r = 0 then { d with link0 := l } else { d with link1 := l }

/-- RL.LINK is UP, and the port serves: its cell is ACTIVE and not under test, or the boot ROM uses it (R310). -/
def linkUp (d : Dev) (r : Fin 2) : Bool :=
  d.awake && d.rd (RL_LINK r) = 2 && ((d.cst (.relay r) = .active && (d.bistOf (.relay r)).isNone) || d.phase = .romWaiting)

/-- A frame of a type to a position, not yet numbered. -/
def message (d : Dev) (type dst : Nat) (payload : Bytes) : RFrame := ⟨type, 3, 0, 0, d.rd CH_POSITION, dst, 0, payload⟩

/-- The number of the last frame received in sequence, as ACK carries it (DEDUCED: R327 gives no more than "cumulative"). -/
def ackOf (l : Link) : Nat := (l.rxSeq + 65535) % 65536

/-- A frame leaves on a link: TX_FRAMES counts it. -/
def putFrameOn (d : Dev) (r : Nat) (f : RFrame) : Dev :=
  (((d.emit (.relay r f.encode)).wr (RL_TX_FRAMES r) (min (d.rd (RL_TX_FRAMES r) + 1) (2 ^ 48 - 1)))).tally 297 1

/-- Frames waiting are numbered and sent while the window of 16 has room and the link is UP (R328). -/
def pump : Nat → Nat → Dev → Dev
  | 0, _, d => d
  | k + 1, r, d =>
    let l := d.link r
    match l.waiting with
    | f :: rest =>
      if d.rd (RL_LINK r) = 2 ∧ l.window.length < 16 then
        let g := { f with seq := l.txSeq, ack := ackOf l }
        let l1 := { l with txSeq := (l.txSeq + 1) % 65536, waiting := rest, window := l.window ++ [⟨g, d.frame, 1⟩] }
        pump k r ((d.setLink r l1).putFrameOn r g)
      else d
    | [] => d

/-- Queue a frame and send what the window lets pass. -/
def sendOn (d : Dev) (r : Nat) (f : RFrame) : Dev :=
  pump 16 r (d.setLink r { d.link r with waiting := (d.link r).waiting ++ [f] })

/-- A control message towards a position (0xFF: every unit), on the link that leads there. -/
def control (d : Dev) (r : Nat) (m : Msg) (dst arg : Nat) : Dev :=
  d.sendOn r (d.message relayControl dst (Config.control m.code (d.rd CH_POSITION) arg))

/-- The pieces of an object. -/
def pieces : Nat → Bytes → List Bytes
  | 0, _ => []
  | k + 1, b => if b.length ≤ relayPayload then [b] else b.take relayPayload :: pieces k (b.drop relayPayload)

/-- One object as a transfer of frames from FIRST to LAST (R328); `keep` keeps it to be sent again. -/
def sendObject (d : Dev) (r : Nat) (b : Bytes) (keep : Bool) : Dev :=
  let l := d.link r
  let x := (l.xfer + 1) % 65536
  let ps := pieces (b.length / relayPayload + 1) b
  let fs := ps.zipIdx.map fun e =>
    ({ d.message relayData 0xFF e.1 with flags := flag (e.2 = 0) + 2 * flag (e.2 + 1 = ps.length), xfer := x } : RFrame)
  let l1 := { l with xfer := x, waiting := l.waiting ++ fs, sent := if keep then ((x, b) :: l.sent).take 8 else l.sent }
  pump 16 r (d.setLink r l1)

/-- Frames up to ACK are acknowledged (R328). -/
def takeAck (d : Dev) (r ack : Nat) : Dev :=
  let l := d.link r
  pump 16 r (d.setLink r { l with window := l.window.filter fun t => decide (32768 ≤ (ack + 65536 - t.frame.seq) % 65536) })

/-- An acknowledgement goes out. -/
def sendAck (d : Dev) (r : Nat) : Dev :=
  d.putFrameOn r { d.message relayAck 0xFF [] with ack := ackOf (d.link r) }

/-- A frame with a good CRC is counted. -/
def countRx (d : Dev) (r : Nat) : Dev := (d.wr (RL_RX_FRAMES r) (min (d.rd (RL_RX_FRAMES r) + 1) (2 ^ 48 - 1))).tally 298 1

/-- A numbered frame is received: the frames that it makes deliverable, in sequence, and the link after it. One ahead of its turn
is kept until the gap is filled (DEDUCED); one seen before is only acknowledged again. -/
def inSequence : Nat → Link → List RFrame × Link
  | 0, l => ([], l)
  | k + 1, l =>
    match l.early.find? fun f => f.seq = l.rxSeq with
    | some f =>
      let x := inSequence k { l with rxSeq := (l.rxSeq + 1) % 65536, early := l.early.filter fun g => g.seq ≠ f.seq }
      (f :: x.1, x.2)
    | none => ([], l)

def receive (d : Dev) (r : Nat) (f : RFrame) : List RFrame × Dev :=
  let d1 := (d.countRx r).takeAck r f.ack
  let l := d1.link r
  let ahead := (f.seq + 65536 - l.rxSeq) % 65536
  let l1 := if ahead < 16 && !l.early.any (fun g => g.seq = f.seq) then { l with early := l.early ++ [f] } else l
  let x := inSequence 16 l1
  (x.1, (d1.setLink r x.2).sendAck r)

/-- A frame is sent again (R328). -/
def sendAgain (d : Dev) (r : Nat) (t : TxFrame) : Dev :=
  let l := d.link r
  let l1 := { l with window := l.window.map fun x => if x = t then { x with sentAt := d.frame, sends := x.sends + 1 } else x }
  ((((d.setLink r l1).putFrameOn r { t.frame with ack := ackOf l })).inc (RL_RETRIES r)).tally 300 1

/-- The link leaves UP: its transfers end and its control messages are kept (R328); whether a transfer was lost. -/
def linkLost (d : Dev) (r : Nat) : Bool × Dev :=
  let l := d.link r
  let all := l.window.map TxFrame.frame ++ l.waiting
  (all.any fun f => f.type = relayData,
   d.setLink r { l with window := [], waiting := all.filter fun f => f.type ≠ relayData, early := [], rx := none })

/-- RL.LINK goes DOWN (R328). -/
def linkDown (d : Dev) (r : Fin 2) : Bool × Dev :=
  let x := (((d.wr (RL_LINK r) 0).wr (RL_PEER_POS r) 0xFF).inc (RL_DOWN_CNT r)).linkLost r
  (x.1, x.2.post .relayLinkDown (.cell (.relay r)) r.val)

/-- RL.LINK goes UP: numbering starts afresh on both sides (DEDUCED), and what was kept is sent. -/
def linkRises (d : Dev) (r : Nat) (peer : Nat) : Dev :=
  pump 16 r (((d.wr (RL_LINK r) 2).wr (RL_PEER_POS r) peer).setLink r { d.link r with txSeq := 0, rxSeq := 0 })

/-! ## Chain time (R330) -/

/-- Chain time in frames, from the offset in core cycles. -/
def chainTime (d : Dev) : Nat := (((d.frame * 3000 : Nat) + d.chain) / 3000).toNat

/-- CH.SYNCED holds while the estimated error is at most 4 µs and the exchange is at most 50,000 frames old; the head is its own
reference. -/
def showSync (d : Dev) : Dev :=
  d.wr CH_SYNCED (flag (d.on CH_HEAD || decide (d.rd CH_SYNC_ERR ≤ 4000 ∧ d.rd CH_SYNC_AGE ≤ 50000)))

/-- The tick's part of chain time. -/
def chainTick (d : Dev) : Dev := ((d.wr CH_CHAIN_TIME d.chainTime).add CH_SYNC_AGE 1).showSync

/-- The four timestamps of an exchange, in core cycles: sent here, received there, sent there, received here, with the partner's in
its chain time; the estimated error in ns. -/
def timeResult (d : Dev) (t1 t2 t3 t4 : Nat) (err : Nat) : Dev :=
  let offset : Int := (((t2 : Int) - t1) + ((t3 : Int) - t4)) / 2
  let delay : Int := (((t4 : Int) - t1) - ((t3 : Int) - t2)) / 2
  ({ d with chain := offset }.wr (RL_DELAY 0) delay.toNat |>.wr CH_SYNC_ERR err |>.wr CH_SYNC_AGE 0).showSync

/-- The result of an enumeration (R329): this unit's position, when it has one, and the units counted. -/
def enumerated (d : Dev) (position : Option Nat) (units : Nat) : Dev :=
  let d1 := { d with front := { d.front with tooLong := decide (64 < units) } }.wr CH_UNITS (min units 64)
  match position with
  | some p => (d1.wr CH_POSITION p).wr CH_HEAD (flag (p = 0))
  | none => d1

end Dev

/-! ## Meanings -/

/-- An ACK frame (R328). -/
def execRelayAck (r : Fin 2) (ack : BitVec 16) (s : State) : Result :=
  act s fun d => if d.linkUp r then (d.countRx r).takeAck r ack.toNat else d

/-- A TIME frame (R330): on RELAY_A the answer that completes an exchange, on RELAY_B a partner's request, which is answered. -/
def execRelayTime (r : Fin 2) (t1 t2 t3 t4 : BitVec 64) (err : BitVec 16) (s : State) : Result :=
  act s fun d =>
    if !d.linkUp r then d
    else
      let d1 := d.countRx r
      if r = 0 then d1.timeResult t1.toNat t2.toNat t3.toNat t4.toNat err.toNat
      else d1.putFrameOn r (d1.message relayTime (d1.rd (RL_PEER_POS r)) (leBytes 8 (d1.frame * 3000 + d1.chain).toNat))

/-- In slot 26, once every 500 frames, a TIME frame goes out on RELAY_A (R330). -/
def execTimeExchange (s : State) : Result :=
  act s fun d =>
    if d.linkUp 0 && d.frame % 500 = 0 then d.putFrameOn 0 (d.message relayTime (d.rd (RL_PEER_POS 0)) (leBytes 8 (d.frame * 3000))) else d

/-- A frame fails its CRC: it is dropped and NAK goes out for its SEQ (R328). -/
def execRelayBadCrc (r : Fin 2) (seq : BitVec 16) (s : State) : Result :=
  act s fun d =>
    if d.linkUp r then
      (((d.inc (RL_CRC_ERR r)).tally 299 1)).putFrameOn r { d.message relayNak 0xFF [] with seq := seq.toNat, ack := Dev.ackOf (d.link r) }
    else d

end Sys2Proof.Machine
end

