-- ==== Sys2Proof/Machine/Firmware.lean ====
section
/-! DEFINITION. The device's own firmware (10_own_firmware_update.md R307 to R323, R344 to R346): images, the update record, the
settings, updates and their trials, boot sources and recovery, and the reset of the Pilot complex. -/

namespace Sys2Proof.Machine

open Reg

/-! ## Places in HOME (Table 10-2) -/

def slotPlace : Nat := 0x100000
def retreatPlace : Nat := 0x900000
def settingsPlace (k : Nat) : Nat := 0x1100000 + 0x80000 * (k % 2)
def recordPlace (k : Nat) : Nat := 0x1310000 + 0x8000 * (k % 2)
def stagingPlace : Nat := 0x2000000

/-- Bytes of the firmware slot and of the retreat area. -/
def slotSize : Nat := 0x800000

/-! ## Images (R315, R316) -/

/-- Bytes of the HSS signature of an image. -/
def imageSigLen : Nat := 3284

/-- Both pieces of microcode lie inside the body (Table 10-3; each an offset followed by a length, DEDUCED). -/
def microcodeOk (b : Bytes) : Bool :=
  [0x14, 0x1C].all fun o => decide (256 ≤ leAt b o 4 ∧ leAt b o 4 + leAt b (o + 4) 4 ≤ b.length - imageSigLen)

/-- The steps of Table 10-3 before the signature, with the fused firmware security version. -/
def imageForm (fused : Nat) (b : Bytes) : Option Status :=
  if leAt b 0 4 ≠ 0x57465846 ∨ leAt b 4 2 ≠ 1 ∨ 2 ≤ leAt b 6 2 then some .authFail
  else if ¬(4096 ≤ leAt b 8 4 ∧ leAt b 8 4 ≤ 8355840 ∧ leAt b 8 4 = b.length) then some .lengthMismatch
  else if leAt b 0x10 1 < fused then some .svnRollback
  else if !zeroAt b 0x11 3 then some .authFail
  else if !microcodeOk b then some .lengthMismatch
  else if !zeroAt b 0x24 220 then some .authFail
  else none

/-- Table 10-3 in its order. -/
def imageCheck (fused : Nat) (b : Bytes) : Option Status :=
  if (imageForm fused b).isSome then imageForm fused b
  else if !Config.nujorVerify (b.take (b.length - imageSigLen)) (b.drop (b.length - imageSigLen)) then some .authFail
  else none

namespace State

/-- Copy a range of HOME, erasing what it covers. -/
def homeCopy (s : State) (src dst n : Nat) : State :=
  let t := s.homeErase dst n
  let moved := s.home.filter fun e => decide (src ≤ e.1 ∧ e.1 < src + n)
  let u := { t with home := moved.foldl (fun m (e : Nat × Byte) => SMap.set (fun _ => (0xFF : Byte)) m (e.1 - src + dst) e.2) t.home }
  { u with dev := (u.dev.tally 317 ((n + 255) / 256)).tally 318 ((n + 0xFFFF) / 0x10000) }

/-- The image at the start of the slot or of the retreat area: no bytes when its length is out of range. -/
def imageAt (s : State) (a : Nat) : Bytes :=
  let n := leNat (s.homeRead (a + 8) 4)
  if 4096 ≤ n ∧ n ≤ 8355840 then s.homeRead a n else []

/-- The owner OXM that follows an image: no bytes when none stands there. -/
def ownerOxmAt (s : State) (a : Nat) (image : Bytes) : Bytes :=
  let o := a + image.length
  if leNat (s.homeRead o 4) = 0x4D4F5846 then s.homeRead o (min (leNat (s.homeRead (o + 8) 4)) 32768) else []

/-- An image passes Table 10-3. -/
def imagePasses (s : State) (a : Nat) : Bool := (imageCheck (s.counter 64 4) (s.imageAt a)).isNone

end State

/-- What the verifications of an image and of its owner OXM leave in the signature engine's registers (R224, R316, R317). -/
def Dev.sawImage (d : Dev) (image oxm : Bytes) : Dev :=
  match imageForm (d.rd FW_FUSED_SVN) image, imageCheck (d.rd FW_FUSED_SVN) image with
  | some _, _ => d
  | none, some _ => d.sawVerify (some false)
  | none, none => (d.sawVerify (some true)).sawOxm oxm

/-- The owner OXM of an image (R316, steps 3 and 4 of R317). -/
def Dev.ownerOxmCheck (d : Dev) (image oxm : Bytes) : Option Status :=
  if oxm = [] then (if d.open_ then none else some .authFail)
  else match d.oxmCheck oxm 0 [2] 0xFFFF with
    | some st => some st
    | none => if slice (oxmEntry oxm 0) 0x20 48 = sha384b image then none else some .authFail

/-! ## Records that the firmware keeps (R318, R322) -/

/-- A string of little-endian fields: bytes and value of each. -/
def packFields (l : List (Nat × Nat)) : Bytes := l.flatMap fun e => leBytes e.1 e.2

/-- The values of such a string, by the bytes of each. -/
def unpackFields : List Nat → Bytes → List Nat
  | [], _ => []
  | n :: r, b => leAt b 0 n :: unpackFields r (b.drop n)

namespace State

/-- A copy of n bytes that passes its check (R318; form of the copy: log entry 14). -/
def goodCopy (s : State) (a n : Nat) : Option Bytes :=
  let b := s.homeRead a n
  if s.homeRead a (n + 48) = authCopy b then some b else none

/-- The copy with the greater generation among those that pass. -/
def newerCopy (genAt : Nat) : Option Bytes → Option Bytes → Option Bytes
  | some a, some b => if leAt a genAt 4 < leAt b genAt 4 then some b else some a
  | some a, none => some a
  | none, b => b

end State

/-- Widths of the fields of the update record (the form is the model's, log entry 14). -/
def recordWidths : List Nat := [4, 1, 1, 2, 1, 2, 4, 8, 1, 4, 4, 4, 4, 1, 4, 1, 1, 1, 1]

/-- The update record as the registers have it: its generation, the state of the update, the Front, the Barograph and CAL_SEQ. -/
def Dev.record (d : Dev) : List Nat :=
  [d.fw.gen, d.rd FW_STATE, d.rd FW_TRIAL_STARTS, d.rd FW_LAST_RESULT, d.rd FRONT_STATE, d.rd FRONT_LAST_STATUS, d.rd FRONT_SEQ,
   d.rd FRONT_LANDFALL, flag d.fw.settled, d.fw.window, d.rd BARO_OP_HOURS, d.rd BARO_POWER_CYCLES, d.rd BARO_CLEAR_SEQ,
   flag d.fw.clearPending, d.rd CAL_SEQ, d.fw.units, d.fw.position, flag d.fw.hadPolicy, d.fw.svnTo]

/-- Load the registers from an update record; without one the state is IDLE (R318). -/
def Dev.takeRecord (d : Dev) (r : Option Bytes) : Dev :=
  let v := fun i => (match r with
    | some b => (unpackFields recordWidths b)[i]?
    | none => none).getD 0
  let d1 := d.wr FW_STATE (v 1) |>.wr FW_TRIAL_STARTS (v 2) |>.wr FW_LAST_RESULT (v 3) |>.wr FRONT_STATE (v 4)
    |>.wr FRONT_LAST_STATUS (v 5) |>.wr FRONT_SEQ (v 6) |>.wr FRONT_LANDFALL (v 7)
    |>.wr BARO_CLEAR_SEQ (v 12) |>.wr CAL_SEQ (v 14)
  { d1 with fw := { d1.fw with
    gen := v 0, settled := v 8 ≠ 0, window := v 9, clearPending := v 13 ≠ 0, units := v 15, position := v 16, hadPolicy := v 17 ≠ 0, svnTo := v 18 } }

namespace State

/-- The update record in force (R318). -/
def storedRecord (s : State) : Option Bytes := newerCopy 0 (s.goodCopy (recordPlace 0) recordWidths.sum) (s.goodCopy (recordPlace 1) recordWidths.sum)

/-- Write the update record to the copy not in use (R318). -/
def save (s : State) : State :=
  let d := { s.dev with fw := { s.dev.fw with gen := s.dev.fw.gen + 1 } }
  { s with dev := d }.homeStore (recordPlace d.fw.gen) 0x8000 (authCopy (packFields (recordWidths.zip d.record)))

/-- Change registers that the update record holds, and write it. -/
def saveWith (s : State) (f : Dev → Dev) : State := (s.onDev f).save

end State

/-! ## Settings (R322) -/

/-- The fields that the settings hold. -/
def settingFields : List Fld :=
  ((List.range 99).flatMap fun k => [FS_IC_CFG_DEBOUNCE k, FS_IC_CFG_STUCK_LIMIT k]) ++ ((List.range 96).map COMP_CFG_HOLD_MIN)
    ++ ((Cell.all.filter Cell.capB).map fun c => CELL_BIST_BUDGET c.offset)
    ++ ((List.range 64).flatMap fun i => [CNT_SEL_SOURCE i, CNT_SEL_ENABLE i])
    ++ [FW_HEALTH_FRAMES, MON_CFG_GOV_TRIP, MON_CFG_CUR_WARN, VAULT_ENDURANCE]

/-- Bytes of a field in the settings. -/
def Fld.bytes (f : Fld) : Nat := (f.width + 7) / 8

/-- The settings as the registers have them. -/
def Dev.settings (d : Dev) : Bytes := packFields (settingFields.map fun f => (f.bytes, d.rd f))

/-- Every setting takes its default (R322). -/
def Dev.defaultSettings (d : Dev) : Dev :=
  ((settingFields.foldl (fun d f => d.wr f (resetVal f.bit)) d).wr FW_HEALTH_FRAMES 15000000).wr VAULT_ENDURANCE 100000

/-- Apply settings. -/
def Dev.applySettings (d : Dev) (b : Bytes) : Dev :=
  (settingFields.zip (unpackFields (settingFields.map Fld.bytes) b)).foldl (fun d e => d.wr e.1 e.2) d

/-- Bytes of a settings copy: format version, generation, settings. -/
def settingsLen : Nat := 6 + (settingFields.map Fld.bytes).sum

namespace State

/-- The settings at a start: the newer copy that passes and has the running firmware's format, else the defaults (R322). -/
def loadSettings (s : State) : State :=
  let fmt := (Config.settingsFormat (s.dev.rd FW_VERSION)).toNat
  match newerCopy 2 (s.goodCopy (settingsPlace 0) settingsLen) (s.goodCopy (settingsPlace 1) settingsLen) with
  | some b =>
    if leAt b 0 2 = fmt then
      let d := s.dev.applySettings (b.drop 6)
      { s with dev := { d with fw := { d.fw with setGen := leAt b 2 4, settings := d.settings } } }
    else { s with dev := (s.dev.defaultSettings.raise FW_SETTINGS_RESET).post .settingsReset (.cell .device) (s.dev.rd FW_VERSION) }
  | none => { s with dev := (s.dev.defaultSettings.raise FW_SETTINGS_RESET).post .settingsReset (.cell .device) (s.dev.rd FW_VERSION) }

/-- Changed settings are saved to the copy not in use. -/
def saveSettings (s : State) : State :=
  let d := { s.dev with fw := { s.dev.fw with setGen := s.dev.fw.setGen + 1, settings := s.dev.settings, savedAt := s.dev.frame } }
  let b := packFields [(2, (Config.settingsFormat (d.rd FW_VERSION)).toNat), (4, d.fw.setGen)] ++ d.settings
  { s with dev := d }.homeStore (settingsPlace d.fw.setGen) 0x80000 (authCopy b)

end State

/-! ## Reset of the Pilot complex (R8, R13, R321) -/

/-- The status that a draw stands for, for a command interrupted by a Pilot reset (log entry 20). -/
def statusOf (k : Nat) : Status :=
  ([.ok, .busyDraining, .componentState, .policyBusy, .updateBusy, .lockIncomplete, .otpProgramFail, .flashWrite, .relayTimeout,
    .landfallMissed, .healthFail, .frameBudget, .queueFull, .thawLimit, .noGolden, .authFail] : List Status)[k % 16]?.getD .ok

namespace Dev

/-- End the Pilot tasks' commands that have no result yet: with UPDATE_BUSY before a restart into new firmware (R321); otherwise
those that no chapter resumes end with a free status (log entry 20). A policy load is resumed (R140). -/
def endPilotOps (d : Dev) (update : Bool) : Dev :=
  (d.ops.filter fun o => o.status.isNone && pilotTask o.opcode && (update || o.opcode ≠ 0x0300)).foldl (fun d o =>
    if update then d.answerOp o.ref (ans .updateBusy)
    else { d with free := d.free + 1 }.answerOp o.ref (ans (statusOf (Config.interrupted d.free).toNat))) d

/-- Burns end with the pulse in progress (R355); a zeroisation under way is taken up by the repair path (R357, R374). -/
def cutBurns (d : Dev) : Dev :=
  let open_ := d.otpx.burns.any fun b => b.steps.contains (.word 9 intentPattern true)
  let cut := (d.otpx.burns.filter fun b => b.pulse.isSome).map fun b => { b with steps := [], requester := none }
  let d1 := { d with otpx := { d.otpx with burns := cut, zeroiseDue := d.otpx.zeroiseDue || open_ } }
  if open_ then d1.raise OTP_STATUS_REPAIR_WAIT else d1

/-- The Pilot complex is reset: its tasks end, I fields load, and firmware work is interrupted (R8, R13, R140, R198, R205, R304).
The firmware starts again with PILOT_START. POL_STATUS stays (R144): a load that was in its swaps is resumed. -/
def pilotDown (d : Dev) (update : Bool) : Dev :=
  let d1 := ((d.endPilotOps update).cutBurns).dropSpdm
  let d2 := { d1 with
    tasks := []
    late := []
    att := { d1.att with waiting := [] }
    phase := .pilotDown
    wdt := {}
    dbg := { d1.dbg with halted := false }
    pol := { d1.pol with
      load := none, stored := false, swapping := if d1.pol.stored then d1.pol.load.getD [] else [],
      requester := if update then none else d1.pol.requester }
    front := { d1.front with requester := none }
    gcs := d1.gcs.map fun (e : Nat × Gc) => (e.1, { e.2 with write := none, thaw := e.2.thaw.map fun _ => { pass := 0 }, op := e.2.op.map fun (o : DnOp) => if o.own then { o with rest := [] } else o }) }
  (d2.resetWhere fun b => (kindsAt b).contains .i).showLoads

/-! ## Updates (R317 to R321) -/

/-- The values that R319 compares with are kept at the beginning of an update. -/
def keepForTrial (d : Dev) : Dev :=
  { d with fw := { d.fw with hadPolicy := d.inForce, units := d.rd CH_UNITS, position := d.rd CH_POSITION } }

/-- A trial begins with no starts yet (R317 step 3). -/
def toTrial (d : Dev) (window : Nat) : Dev :=
  let d1 := (d.wr FW_STATE FwState.trial.code).clear FW_TRIAL_STARTS
  { d1 with fw := { d1.fw with window := window } }

/-- What R319 asks besides SETTLED. -/
def fit (d : Dev) (home : Bool) : Bool :=
  d.rd CR_KAT_FAIL = 0 && d.crypto.tests = .none && d.fw.ucodeOk && (d.inForce || !d.fw.hadPolicy) && home
    && d.rd CH_UNITS = d.fw.units && d.rd CH_POSITION = d.fw.position

/-- The FW word at 0x0C00 (Table 10-13). -/
def fwWord (d : Dev) : Nat :=
  d.rd FW_STATE + 2 ^ 3 * d.rd FW_TRIAL_STARTS + 2 ^ 5 * d.rd FW_SOURCE + 2 ^ 8 * d.rd FW_SETTINGS_RESET + 2 ^ 16 * d.rd FW_LAST_RESULT

end Dev

namespace State

/-- Steps 1 and 2 of R317: the slot is copied to the retreat area, then the image and its OXM are written over the slot; `copied`
and `written` say that the read-backs agree. -/
def writeSlot (s : State) (image oxm : Bytes) (copied written : Bool) : Status × State :=
  let s1 := (s.saveWith fun d => d.keepForTrial.wr FW_STATE FwState.preparing.code)
  if !copied then
    (.flashWrite, (s1.homeWrite false retreatPlace slotSize (s1.homeRead slotPlace slotSize)).saveWith fun d => (d.wr FW_STATE FwState.idle.code).wr FW_LAST_RESULT Status.flashWrite.code)
  else
    let s2 := ((s1.homeCopy slotPlace retreatPlace slotSize).saveWith fun d =>
      d.wr FW_STATE FwState.writing.code |>.wr FW_RETREAT_VERSION (leAt (s.imageAt slotPlace) 0xC 4)).homeWrite
        written slotPlace slotSize (image ++ oxm)
    if !written then (.flashWrite, s2.saveWith fun d => d.wr FW_LAST_RESULT Status.flashWrite.code) else (.ok, s2)

/-- FW_UPDATE (R317). -/
def fwUpdate (s : State) (x : Desc) (imageLen oxmLen : Nat) (copied written : Bool) : Ans × State :=
  let d := s.dev
  let image := x.src.take imageLen
  let oxm := x.src.drop imageLen
  if d.rd FW_STATE ≠ 0 || d.frontBusy then (ans .updateBusy, s)
  else if x.src.length ≠ imageLen + oxmLen then (ans .lengthMismatch, s)
  else
    let s : State := s.onDev fun d => d.sawImage image oxm
    match imageCheck (d.rd FW_FUSED_SVN) image with
    | some st => (ans st, s)
    | none => match d.ownerOxmCheck image oxm with
      | some st => (ans st, s)
      | none =>
        let v := leAt image 0xC 4
        let r := writeSlot (s.onDev fun d => d.post .fwUpdateStart (.cell .device) v) image oxm copied written
        if r.1 ≠ .ok then (ans r.1, r.2)
        else
          let t := r.2.saveWith fun d => (d.toTrial (d.rd FW_HEALTH_FRAMES)).post .fwTrial (.cell .device) v
          ({ status := some .ok, result0 := v }, t.onDev fun d => d.pilotDown true)

/-- The firmware security version is advanced at confirmation (R320), when the programming supply allows it; otherwise at a later
start. -/
def commitSvn (s : State) : State :=
  let v := s.counter 64 4
  if decide (v < s.dev.fw.svnTo) && s.dev.otpSupply then s.startBurn (counterSteps 64 v s.dev.fw.svnTo) none else s

/-- Health is confirmed: the record goes to IDLE, and a Front is settled (R319, R341). -/
def confirm (s : State) : State :=
  let landed := FrontState.ofCode (s.dev.rd FRONT_STATE) = .landed
  (s.saveWith fun d =>
    let d1 := ((d.wr FW_STATE FwState.idle.code).wr FW_LAST_RESULT 0).clear FW_HEALTH_LEFT
    let d2 := { d1 with fw := { d1.fw with svnTo := if d1.fw.commit then max d1.fw.svnTo (d1.rd FW_SVN) else d1.fw.svnTo } }.post .fwConfirmed (.cell .device) (d1.rd FW_VERSION)
    if landed then
      { (d2.wr FRONT_STATE FrontState.settled.code).wr FRONT_LAST_STATUS 0 with
        front := { d2.front with staged := [], manifest := [], inbox := [], policyCopy := none, written := false } }
    else d2).commitSvn

/-! ## Boot sources (R307 to R311) -/

/-- Sources of Table 10-1: 0 HOME, 2 PCIe, 3 I3C, 4 RELAY_A, 5 RELAY_B. -/
def bootSources (s : State) : List Nat :=
  let o := if s.dev.open_ then s.dev.run.bootOrder % 4 else s.dev.rd LC_CONFIG_BOOT_ORDER % 4
  match o with
  | 0 => [0, 4, 5, 3, 2]
  | 1 => [0, 3, 2, 4, 5]
  | 2 => [0, 2, 3, 4, 5]
  | _ => [0]

/-- The boot ROM tries its sources in turn: HOME yields at once; at PCIe and I3C it waits for START; at a relay it sends a recovery
request; when the list is exhausted it waits to start again (R307 to R311). -/
def bootFrom (s : State) (l : List Nat) : State :=
  let wait := fun (l : List Nat) (f : Dev → Dev) => s.onDev fun d =>
    f { d with phase := .romWaiting, run := { d.run with sources := l, sourceAt := d.frame, recBytes := [] } }
  match l with
  | [] => wait [] fun d => d.clear REC_STATE
  | 0 :: r =>
    if s.imagePasses slotPlace || s.imagePasses retreatPlace then
      s.onDev fun d => { d with phase := .pilotDown, run := { d.run with sources := [] } }.clear REC_STATE
    else match r with
      | [] => wait [] fun d => d.clear REC_STATE
      | k :: _ => wait r fun d => if k ≤ 3 then (d.wr REC_STATE 1).wr REC_SOURCE k else (d.clear REC_STATE).wr REC_SOURCE 4
  | k :: _ => wait l fun d => if k ≤ 3 then (d.wr REC_STATE 1).wr REC_SOURCE k else (d.clear REC_STATE).wr REC_SOURCE 4

/-- The ROM asks a neighbour for its firmware slot, when it turns to a relay (R310). -/
def askRelay (s : State) : State :=
  match s.dev.run.sources with
  | k :: _ => if s.dev.phase = .romWaiting && decide (4 ≤ k) then s.onDev fun d => d.sendOn (k - 4) (d.message 6 0xFF []) else s
  | [] => s

/-- The ROM turns to a list of sources. -/
def tryBoot (s : State) (l : List Nat) : State := (s.bootFrom l).askRelay

/-- The source at hand has failed. -/
def nextSource (s : State) : State := s.tryBoot (s.dev.run.sources.drop 1)

/-- Recovered bytes are checked and, when they pass, written into the firmware slot with their OXM (R309, R310). -/
def recover (s : State) (b : Bytes) (len oxmLen : Nat) (source : Nat) (written : Bool) : State :=
  let image := b.take (len - oxmLen)
  let fail := fun (st : Status) (t : State) => (t.nextSource).onDev fun d =>
    let d1 := d.wr REC_LAST_STATUS st.code
    if d1.rd REC_STATE = 1 then d1 else d1.wr REC_STATE 5
  if b.length ≠ len then fail .lengthMismatch s
  else match imageCheck (s.counter 64 4) image with
    | some st => fail st s
    | none =>
      let t := s.homeWrite written slotPlace slotSize b
      if !written then fail .flashWrite t
      else t.onDev fun d =>
        { d with phase := .pilotDown, fw := { d.fw with owed := true }, run := { d.run with sources := [], recBytes := [] } }.wr
          FW_SOURCE source |>.clear REC_STATE |>.clear REC_LAST_STATUS

end State

/-- The boot ROM waits at, or serves, the PCIe or I3C source (R346). -/
def Dev.recovering (d : Dev) : Bool :=
  d.phase = .romWaiting && match d.run.sources with
    | k :: _ => k = 2 || k = 3
    | [] => false

/-! ## Meanings -/

/-- FW_UPDATE (R317); `copied` and `written` are the read-backs of HOME. -/
def execFwUpdate (x : Desc) (copied written : Bool) (s : State) : Result :=
  let imageLen : Word := x.par 0 32
  let oxmLen : Word := x.par 4 32
  .next (s.command x 0x0500 true fun s => s.fwUpdate x imageLen.toNat oxmLen.toNat copied written)

/-- FW_STATUS (Table 10-12). -/
def execFwStatus (x : Desc) (s : State) : Result :=
  act s fun d => d.command x 0x0501 true fun d =>
    if x.src ≠ [] then (ans .lengthMismatch, d)
    else ({ status := some .ok, result0 := d.fwWord, result1 := d.rd FW_VERSION }, d)

/-- Changed settings are saved, at most once per 500,000 frames (R322). -/
def execSettingsSave (s : State) : Result :=
  .next (
    let d := s.dev
    if d.up && d.settings ≠ d.fw.settings && (d.fw.savedAt = 0 || decide (d.fw.savedAt + 500000 ≤ d.frame)) then s.saveSettings else s)

namespace Dev

/-- REC_CTL.START (R309). -/
def recStart (d : Dev) : Dev :=
  if d.recovering && d.rd REC_STATE = 1 then
    { (d.wr REC_STATE 2).clear REC_RECEIVED with run := { d.run with recBytes := [] } }
  else d

/-- The bytes of REC_DATA. -/
def recData (d : Dev) (n : Nat) : Bytes := ((List.range 512).flatMap fun i => leBytes 8 (d.rd (REC_DATA i))).take n

/-- REC_CTL.PUSH appends PUSH_LEN bytes of REC_DATA (R309). -/
def recPush (d : Dev) (len : Nat) : Dev :=
  if d.recovering && d.rd REC_STATE = 2 && decide (1 ≤ len ∧ len ≤ 4096) then
    { d.wr REC_RECEIVED (d.rd REC_RECEIVED + len) with run := { d.run with recBytes := d.run.recBytes ++ d.recData len } }
  else d

/-- REC_CTL.ABORT discards the staged bytes; the ROM waits for START again (R309). -/
def recAbort (d : Dev) : Dev :=
  if d.recovering && d.rd REC_STATE = 2 then
    { (d.wr REC_STATE 1).clear REC_RECEIVED with run := { d.run with recBytes := [], sourceAt := d.frame } }
  else d

end Dev

/-- REC_CTL.FINISH (R309); `written` says that the slot reads back as written. -/
def State.recFinish (s : State) (written : Bool) : State :=
  let d := s.dev
  if d.recovering && d.rd REC_STATE = 2 then
    s.recover d.run.recBytes (d.rd REC_LEN) (d.rd REC_OXM_LEN) (d.rd REC_SOURCE) written
  else s

/-- REC_CTL.START (R309). -/
def execRecStart (s : State) : Result := act s Dev.recStart

/-- REC_CTL.PUSH (R309). -/
def execRecPush (len : Fin 8192) (s : State) : Result := act s fun d => d.recPush len

/-- REC_CTL.FINISH (R309). -/
def execRecFinish (written : Bool) (s : State) : Result := .next (s.recFinish written)

/-- REC_CTL.ABORT (R309). -/
def execRecAbort (s : State) : Result := act s Dev.recAbort

/-- A source yields nothing within its wait: 15,000,000 frames for START, 500,000 for the first relay frame (R309, R310). -/
def execRecoverySourceTimeout (s : State) : Result :=
  .next (
    let d := s.dev
    let waited := fun (n : Nat) => decide (d.run.sourceAt + n ≤ d.frame)
    if d.phase = .romWaiting then
      match d.run.sources with
      | k :: _ =>
        if k ≤ 3 then (if d.rd REC_STATE = 1 && waited 15000000 then s.nextSource else s)
        else if (if k = 4 then d.link0.rx else d.link1.rx).isNone && waited 500000 then s.nextSource else s
      | [] => s
    else s)

/-- Every source has failed: the list is started again after 500,000 frames (R311). -/
def execBootSourceRetry (s : State) : Result :=
  .next (
    if s.dev.phase = .romWaiting && s.dev.run.sources = [] && decide (s.dev.run.sourceAt + 500000 ≤ s.dev.frame) then
      s.tryBoot s.bootSources
    else s)

/-- The Pilot complex is reset (R13). -/
def execPilotReset (s : State) : Result :=
  act s fun d => if d.phase = .running || d.phase = .pilotDown then d.pilotDown false else d

end Sys2Proof.Machine
end

