-- ==== Sys2Proof/Machine/Front.lean ====
section
/-! DEFINITION. The Front and Landfall (10_own_firmware_update.md R324 to R326, R332 to R344): manifests, chunks, staging, arming,
activation and settlement, and what relay frames deliver. -/

namespace Sys2Proof.Machine

open Reg

/-! ## Manifests (R333, R335, Table 10-6) -/

/-- Entries of an OXM. -/
def entriesOf (m : Bytes) : List Bytes := (List.range (leAt m 0x12 2)).map (oxmEntry m)

/-- FRONT_PART entries with their numbers. -/
def frontParts (m : Bytes) : List (Nat × Bytes) := ((entriesOf m).zipIdx.filter fun e => leAt e.1 0 1 = 4).map fun e => (e.2, e.1)

def partKind (e : Bytes) : Nat := leAt e 1 1
def partFor (e : Bytes) (pos : Nat) : Bool := leAt e 2 1 = pos || leAt e 2 1 = 0xFF
def partSize (e : Bytes) : Nat := leAt e 8 8
def partChunks (e : Bytes) : Nat := (partSize e + 65535) / 65536

/-- Landfall and health window of a manifest (Table 10-5). -/
def manifestLandfall (m : Bytes) : Nat := leAt m 0x18 8
def manifestHealth (m : Bytes) : Nat := if leAt m 0x24 4 = 0 then 15000000 else leAt m 0x24 4

/-- Bytes of the staging area of a 64 MiB HOME (R313). -/
def stagingSize : Nat := 0x2000000

namespace Dev

def frontState (d : Dev) : FrontState := FrontState.ofCode (d.rd FRONT_STATE)

/-- This unit is the head (R329). -/
def head (d : Dev) : Bool := d.on CH_HEAD

/-- A unit further down the chain exists. -/
def hasNext (d : Dev) : Bool := decide (d.rd CH_POSITION + 1 < d.rd CH_UNITS)

/-- The rules of R335; of the units' entries each unit checks its own. -/
def manifestRules (d : Dev) (m : Bytes) : Bool :=
  let us := (entriesOf m).filter fun e => leAt e 0 1 = 3
  let n := d.rd CH_UNITS
  let own := us.filter fun e => leAt e 1 1 = d.rd CH_POSITION
  let load := fun pos => ((frontParts m).map fun e => if partFor e.2 pos && decide (partKind e.2 ≤ 2) then partSize e.2 else 0).sum
  !d.front.tooLong && us.length = n && ((List.range n).all fun p => us.any fun e => leAt e 1 1 = p)
    && own.all (fun e => leAt e 4 4 = deviceId && (leAt e 2 1 = 1 || slice e 0x10 16 = slice d.serial 0 16))
    && (decide (8 < n) || us.all fun e => leAt e 2 1 = 0)
    && (n = 1 || manifestLandfall m ≠ 0)
    && (List.range n).all fun p => decide (load p ≤ stagingSize)

/-- A manifest under Table 10-7 and R335. -/
def manifestCheck (d : Dev) (m : Bytes) : Option Status :=
  match d.oxmCheck m (d.rd FRONT_SEQ) [3] 0xFFFF with
  | some st => some st
  | none => if d.manifestRules m then none else some .chainMismatch

/-- DEVICE_FW and POLICY parts of this unit, with their entry numbers. -/
def ownParts (d : Dev) : List (Nat × Bytes) :=
  (frontParts d.front.manifest).filter fun e => partFor e.2 (d.rd CH_POSITION) && decide (partKind e.2 ≤ 2)

/-- The bytes staged for an own part of a kind. -/
def stagedPart (d : Dev) (kind : Nat) : Option (Nat × Nat × Nat × Bytes) :=
  (d.front.staged.filterMap fun x =>
    let e := oxmEntry d.front.manifest x.1
    if partKind e = kind then some (x.1, x.2.1, x.2.2, e) else none).head?

/-- Where the next part is staged (R336). -/
def stagingNext (d : Dev) : Nat := d.front.staged.foldl (fun a x => max a (x.2.1 + x.2.2)) stagingPlace

/-- A FRONT word (Table 10-12). -/
def frontWord (d : Dev) (state : Nat) : Nat := state + 2 ^ 16 * d.rd FRONT_LAST_STATUS + 2 ^ 32 * d.rd FRONT_SEQ

/-- What a position last reported. -/
def note (d : Dev) (k state : Nat) : Dev :=
  { d with front := { d.front with reports := (k, d.frontWord state) :: d.front.reports.filter fun e => e.1 ≠ k } }

/-- Every position has its bit. -/
def allIn (d : Dev) (f : Fld) : Bool := (List.range (d.rd CH_UNITS)).all fun k => bit (d.rd f) k

/-- A message to the head: on RELAY_A, or taken up at once at the head itself by `own`. -/
def toHead (d : Dev) (m : Msg) (arg : Nat) (own : Dev → Dev) : Dev := if d.head then own d else d.control 0 m 0 arg

/-- A message to the units below. -/
def toTail (d : Dev) (m : Msg) (dst arg : Nat) : Dev := if d.hasNext then d.control 1 m dst arg else d

/-- A new Front is opened (R332; staged parts of an earlier one are discarded, R342). -/
def openFront (d : Dev) (m : Bytes) (l : Nat) : Dev :=
  let d1 := d.wr FRONT_STATE FrontState.receiving.code |>.wr FRONT_SEQ (leAt m 0x20 4) |>.wr FRONT_LANDFALL l
    |>.clear FRONT_ARMED_MAP |>.clear FRONT_LANDED_MAP
  { d1 with
    fw := { d1.fw with settled := false, window := manifestHealth m }
    front := { manifest := m, requester := d.front.requester, inbox := d.front.inbox, tooLong := d.front.tooLong } }

/-- A head that had written SETTLED sends it again once it has a unit below it (R343). -/
def sendSettled (d : Dev) : Dev :=
  if d.front.resend && d.head && d.hasNext then { d.toTail .settled 0xFF 0 with front := { d.front with resend := false } } else d

/-- An ARMED unit's bit at the head, or its report to it (R337). -/
def reportArmed (d : Dev) : Dev :=
  (d.wr FRONT_STATE FrontState.armed.code).toHead .armed 0 fun d => d.setBit FRONT_ARMED_MAP 0 true

end Dev

namespace State

/-! ## Aborting and falling back (R341, R342) -/

/-- A Front is over for this unit before it activated: the slot is restored and the staged parts are discarded. -/
def unitAborted (s : State) : State :=
  let restore := s.dev.front.written
  let t := if restore then s.homeCopy retreatPlace slotPlace slotSize else s
  t.saveWith fun d =>
    let d1 := d.wr FRONT_STATE FrontState.aborted.code
    { (if restore then d1.wr FW_STATE FwState.idle.code else d1) with
      front := { d1.front with staged := [], written := false, manifest := [], inbox := [], part := [] } }

/-- A landed unit falls back (R341): RESTORING when it runs a staged image, its policy copy is erased, and FELL_BACK is reported. -/
def fallBack (s : State) : State :=
  let t := match s.dev.front.policyCopy with
    | some c => s.homeErase (policyPlace c) 0x100000
    | none => s
  let u := t.saveWith fun d =>
    let d1 := (d.wr FRONT_STATE FrontState.fellBack.code).clear FW_HEALTH_LEFT
    let d2 := d1.wr FW_STATE (if d1.front.written then FwState.restoring.code else FwState.idle.code)
    { d2 with front := { d2.front with policyCopy := none, policyDue := false, settledGot := false, catchUp := false } }
  u.onDev fun d => (d.toHead .fellBack 0 fun d => d.note 0 6).pilotDown true

/-- ABORT reaches a unit (Table 10-11); staged parts are discarded at ABORT (R342). -/
def unitAbort (s : State) (st : Nat) : State :=
  let t := s.onDev fun d => d.wr FRONT_LAST_STATUS st
  match s.dev.frontState with
  | .receiving => t.unitAborted
  | .armed => t.unitAborted
  | .committed => t.unitAborted
  | .landed => t.fallBack.onDev fun d => { d with front := { d.front with staged := [] } }
  | .fellBack => (t.onDev fun d => { d with front := { d.front with written := false } }).unitAborted
  | _ => s

/-- The head sends ABORT; FRONT_LAUNCH ends when it is still running (R332, R338, R340). -/
def headAborts (s : State) (st : Status) : State :=
  let t := s.onDev fun d =>
    let d1 := d.toTail .abort 0xFF st.code
    match d1.front.requester with
    | some r => { d1.answerOp r (ans st) with front := { d1.front with requester := none } }
    | none => d1
  t.unitAbort st.code

/-- A unit reports a failed check to the head, which sends ABORT (R332, R334). -/
def frontFails (s : State) (st : Status) : State :=
  if s.dev.head then s.headAborts st else s.onDev fun d => d.control 0 .aborted 0 st.code

/-! ## Preparing and activating (R337, R339) -/

/-- The staged image and its OXM. -/
def stagedImage (s : State) : Option (Bytes × Bytes) :=
  (s.dev.stagedPart 1).map fun x =>
    let b := s.homeRead x.2.1 x.2.2.1
    let n := x.2.2.1 - leAt x.2.2.2 0x14 4
    (b.take n, b.drop n)

/-- The staged policy. -/
def stagedPolicy (s : State) : Option Bytes := (s.dev.stagedPart 2).map fun x => s.homeRead x.2.1 x.2.2.1

/-- Checks of R337 on the staged parts. -/
def stagedCheck (s : State) (oxms : List (Fin 96 × Bytes)) : Option Status :=
  let img := match s.stagedImage with
    | some b => (match imageCheck (s.dev.rd FW_FUSED_SVN) b.1 with
      | some st => some st
      | none => s.dev.ownerOxmCheck b.1 b.2)
    | none => none
  match img with
  | some st => some st
  | none => match s.stagedPolicy with
    | some b =>
      if bit (parsePolicy b).flags 0 then some .chainMismatch
      else s.policyCheck oxms b (if s.dev.inForce then some (s.dev.rd POL_SEQ) else none)
    | none => none

/-- The verifications of R337 on the staged parts. -/
def sawStaged (s : State) (oxms : List (Fin 96 × Bytes)) : State :=
  let t := match s.stagedImage with
    | some b => s.onDev fun d => d.sawImage b.1 b.2
    | none => s
  let imageOk := match s.stagedImage with
    | some b => (imageCheck (s.dev.rd FW_FUSED_SVN) b.1).isNone && (s.dev.ownerOxmCheck b.1 b.2).isNone
    | none => true
  match s.stagedPolicy with
  | some b =>
    if imageOk && !bit (parsePolicy b).flags 0 then t.sawLoad oxms b (if s.dev.inForce then some (s.dev.rd POL_SEQ) else none) else t
  | none => t

/-- Every own part is staged: the unit prepares its slot and reports ARMED (R337). -/
def unitPrepare (s0 : State) (oxms : List (Fin 96 × Bytes)) (good : Bool) : State :=
  let s := s0.sawStaged oxms
  match s.stagedCheck oxms with
  | some st => s.frontFails st
  | none =>
    let r := match s.stagedImage with
      | some b => s.writeSlot b.1 b.2 good good
      | none => (.ok, s)
    if r.1 ≠ .ok then r.2.frontFails r.1
    else
      let w := s.stagedImage.isSome
      r.2.saveWith fun d => { d with front := { d.front with written := w } }.reportArmed

/-- A unit activates: TRIAL, and the restart of R321 (R339). -/
def activate (s : State) (catchUp : Bool) : State :=
  let t := s.saveWith fun d =>
    let d1 := (d.toTrial d.fw.window).wr FRONT_STATE FrontState.landed.code
    { d1 with front := { d1.front with reported := false, catchUp := catchUp, settledGot := false, policyDue := (d1.stagedPart 2).isSome } }
  t.onDev fun d => (d.post .fwTrial (.cell .device) (d.rd FW_VERSION)).pilotDown true

/-- A landed unit that is fit and has SETTLED confirms (R319, R341). -/
def settle (s : State) : State :=
  let d := s.dev
  if d.frontState = .landed && d.front.settledGot && d.front.reported && d.rd FW_STATE = 3 && d.rd FW_HEALTH_LEFT ≠ 0 && d.fit true then s.confirm
  else s

/-- A LANDED report at the head: when every position has reported before the deadline, SETTLED is written and then sent (R340). -/
def landedAt (s : State) (k : Nat) : State :=
  let t := s.onDev fun d => (d.setBit FRONT_LANDED_MAP k true).note k 4
  let d := t.dev
  if d.allIn FRONT_LANDED_MAP && !d.fw.settled && decide (d.chainTime + 2500000 < d.rd FRONT_LANDFALL + d.fw.window) then
    let u := t.saveWith fun d => { d with fw := { d.fw with settled := true } }
    (u.onDev fun d => { d.toTail .settled 0xFF 0 with front := { d.front with settledGot := true } }).settle
  else t

/-! ## Chunks (R333, R334, R336) -/

/-- Both signatures of a chunk header under the manifest's keys. -/
def chunkSigned (d : Dev) (b : Bytes) : Bool :=
  let m := d.front.manifest
  let sb := sigBlock m (64 + leAt m 0xC 4)
  let h := b.take 96
  Config.mldsa87Verify sb.mldsaKey [] h (slice b 96 4627) && Config.ecdsaVerify sb.ecdsaKey (sha384b h) (slice b 4723 96)

/-- Table 10-10 on a chunk object. -/
def chunkCheck (d : Dev) (b : Bytes) : Option Status :=
  let m := d.front.manifest
  let i := leAt b 0xC 4
  let e := oxmEntry m (leAt b 0x10 2)
  let first := leAt e 0x10 4
  let len := leAt b 0x14 4
  let want := if i + 1 = first + partChunks e then partSize e - 65536 * (partChunks e - 1) else 65536
  if leAt b 0 4 ≠ 0x4B435846 ∨ leAt b 4 2 ≠ 1 ∨ !zeroAt b 6 2 ∨ !zeroAt b 0x12 2 then some .oxmInvalid
  else if leAt b 8 4 ≠ d.rd FRONT_SEQ ∨ slice b 0x50 16 ≠ slice (sha384b (oxmSigned m)) 0 16 ∨ i ≠ d.front.next
      ∨ leAt e 0 1 ≠ 4 ∨ ¬(first ≤ i ∧ i < first + partChunks e) then some .chainMismatch
  else if len ≠ want ∨ leAt b 0x18 8 ≠ 65536 * (i - first) ∨ b.length ≠ 4819 + len then some .lengthMismatch
  else if d.rd CR_STATE = 3 then some .selftestFail
  else if !chunkSigned d b then some .authFail
  else if sha384b (b.drop 4819) ≠ slice b 0x20 48 then some .authFail
  else none

/-- A complete part of this unit is stored, or applied as an image write outside Landfall (R336). -/
def storePart (s : State) (i : Nat) (e b : Bytes) (good : Bool) : State :=
  if partKind e = 3 then
    let n := leAt e 3 1
    let golden := leAt e 4 1 = 1
    let oxm := b.take (leAt e 0x14 4)
    let image := b.drop (leAt e 0x14 4)
    let st := if s.dev.ownsPorts then s.dev.imageWriteCheck n golden image.length oxm image else some .notOwner
    let s : State := if [some .notOwner, some .componentState, some .alignment].contains st then s else s.onDev fun d => d.sawOxm oxm
    match st with
    | some st => s.saveWith fun d => d.wr FRONT_LAST_STATUS st.code
    | none => imageWriteStart s n golden image.length oxm image ⟨.fw, 0, i⟩ true
  else
    let a := s.dev.stagingNext
    let size := (b.length + 0xFFFF) / 0x10000 * 0x10000
    let t := s.homeWrite good a size b
    if !good then t.frontFails .flashWrite
    else t.onDev fun d => { d with front := { d.front with staged := d.front.staged ++ [(i, a, b.length)] } }

/-- A chunk that has passed: it is forwarded, and its part is stored when complete (R334, R336). -/
def takeChunk (s : State) (b : Bytes) (oxms : List (Fin 96 × Bytes)) (good : Bool) : State :=
  let i := leAt b 0x10 2
  let e := oxmEntry s.dev.front.manifest i
  let whole := s.dev.front.part ++ b.drop 4819
  let t := s.onDev fun d =>
    let d1 := (d.inc FRONT_CHUNKS_OK).tally 301 1
    let d2 := if d1.hasNext then d1.sendObject 1 b true else d1
    { d2 with front := { d2.front with
      next := d2.front.next + 1, fails := 0, inbox := d2.front.inbox.drop 1, part := if whole.length < partSize e then whole else [] } }
  if whole.length < partSize e then t
  else if sha384b whole ≠ slice e 0x20 48 then t.frontFails .authFail
  else
    let u := if partFor e (s.dev.rd CH_POSITION) then t.storePart i e whole good else t
    if u.dev.frontState = .receiving && u.dev.front.staged.length = u.dev.ownParts.length then u.unitPrepare oxms good else u

/-- A chunk that has failed (R334). -/
def chunkFails (s : State) (st : Status) : State :=
  let n := s.dev.front.fails + 1
  let t := s.onDev fun d => { d with front := { d.front with fails := n, inbox := if d.head then d.front.inbox else d.front.inbox.drop 1 } }
  if 4 ≤ n then t.frontFails st
  else t.onDev fun d =>
    let d1 := d.inc FRONT_CHUNKS_RETRIED
    if d1.head then d1 else d1.control 0 .nakChunk (d1.rd CH_POSITION - 1) d1.front.next

/-- Chunk objects one after another, each as long as its header says (R333). -/
def splitChunks : Nat → Bytes → List Bytes
  | 0, b => if b = [] then [] else [b]
  | k + 1, b => if b = [] then [] else b.take (4819 + leAt b 0x14 4) :: splitChunks k (b.drop (4819 + leAt b 0x14 4))

/-- A unit with no DEVICE_FW or POLICY part reports ARMED at once (R337). -/
def armIfNone (s : State) : State :=
  if s.dev.ownParts = [] then s.saveWith Dev.reportArmed else s

/-- A manifest is accepted: it goes on towards the tail, and the Front is open here. -/
def acceptManifest (s : State) (m : Bytes) (l : Nat) : State :=
  (s.saveWith fun d => (if d.hasNext then d.sendObject 1 m false else d).openFront m l).armIfNone

/-- FRONT_LAUNCH (R332). -/
def frontLaunch (s : State) (x : Desc) (manifestLen chunks bytes : Nat) : Ans × State :=
  let d := s.dev
  let m := x.src.take manifestLen
  if !d.head then (ans .roleDenied, s)
  else if x.src.length ≠ bytes then (ans .lengthMismatch, s)
  else if d.frontBusy || d.rd FW_STATE ≠ 0 then (ans .updateBusy, s)
  else
    let s : State := s.onDev fun d => d.sawOxm m
    match d.manifestCheck m with
    | some st => (ans st, s)
    | none =>
      let cs := splitChunks chunks (x.src.drop manifestLen)
      let t := s.onDev fun d => { d with front := { d.front with requester := some x.ref, inbox := cs } }
      ({ status := none }, t.acceptManifest m (d.chainTime + manifestLandfall m))

/-! ## What relay frames deliver (R310, R328) -/

/-- A transfer is complete: recovered firmware for a boot ROM that waits at the link, or an object of a Front. -/
def objectArrives (s : State) (r : Nat) (b : Bytes) (written : Bool) : State :=
  let n := leAt b 8 4
  let o := if n < b.length then leAt b (n + 8) 4 else 0
  if s.dev.phase = .romWaiting then
    if s.dev.run.sources.head? = some (4 + r) then s.recover b (n + o) o 4 written else s
  else s.onDev fun d => { d with front := { d.front with inbox := d.front.inbox ++ [b] } }

/-- One frame, in sequence: DATA joins its transfer, CONTROL for another unit goes on, RECOVER is answered with the firmware slot. -/
def deliver (r : Fin 2) (written : Bool) (s : State) (f : RFrame) : State :=
  let l := s.dev.link r
  let setRx := fun (x : Option Bytes) => s.onDev fun d => d.setLink r { d.link r with rx := x }
  if f.type = relayData then
    let b := if bit f.flags 0 then some f.payload else l.rx.map fun p => p ++ f.payload
    match b with
    | some p => if bit f.flags 1 then (setRx none).objectArrives r p written else setRx (some p)
    | none => s
  else if f.type = relayControl then
    if f.dst ≠ 0xFF ∧ f.dst ≠ s.dev.rd CH_POSITION then s.onDev fun d => d.sendOn (1 - r.val) f else s
  else if f.type = relayRecover then
    if s.dev.up then
      let image := s.imageAt slotPlace
      s.onDev fun d => d.sendObject r (image ++ s.ownerOxmAt slotPlace image) false
    else s
  else s

/-- A numbered frame arrives on a link. -/
def relayIn (s : State) (r : Fin 2) (f : RFrame) (type : Nat) (written : Bool) : State :=
  if s.dev.linkUp r && f.type = type then
    let x := s.dev.receive r f
    x.1.foldl (deliver r written) { s with dev := x.2 }
  else s

/-- A link goes DOWN; a Front whose transfer is lost fails with RELAY_TIMEOUT (R328). -/
def linkGoesDown (s : State) (r : Fin 2) : State :=
  let x := s.dev.linkDown r
  let t := { s with dev := x.2 }
  if x.1 && t.dev.frontBusy && r = 1 then t.frontFails .relayTimeout else t

end State

/-! ## Meanings: relay frames -/

/-- A DATA frame (R328). -/
def execRelayData (r : Fin 2) (f : RFrame) (written : Bool) (s : State) : Result := .next (s.relayIn r f relayData written)

/-- A CONTROL frame (R328); what its message does is the row of the message. -/
def execRelayControl (r : Fin 2) (f : RFrame) (s : State) : Result := .next (s.relayIn r f relayControl true)

/-- A RECOVER frame (R310). -/
def execRelayRecover (r : Fin 2) (f : RFrame) (s : State) : Result := .next (s.relayIn r f relayRecover true)

/-- A NAK frame: the frame that it names is sent again, or a chunk that is still kept (R328, R334). -/
def execRelayNak (r : Fin 2) (seq : BitVec 16) (chunk : Option Nat) (s : State) : Result :=
  .next (
    let d := s.dev
    if !d.linkUp r then s
    else match chunk with
      | some x => match (d.link r).sent.find? fun e => e.1 = x with
        | some e => s.onDev fun d => (d.countRx r).sendObject r e.2 true
        | none => s.onDev fun d => d.countRx r
      | none => match (d.link r).window.find? fun t => t.frame.seq = seq.toNat with
        | some t => if 8 ≤ t.sends then State.linkGoesDown { s with dev := d.countRx r } r else s.onDev fun d => (d.countRx r).sendAgain r t
        | none => s.onDev fun d => d.countRx r)

/-- A frame not acknowledged within 50 frames is sent again; after eight sends the link goes DOWN (R328). -/
def execRelayRetransmit (r : Fin 2) (s : State) : Result :=
  .next (
    let d := s.dev
    match (d.link r).window.find? fun t => decide (t.sentAt + 50 ≤ d.frame) with
    | some t => if !d.linkUp r then s else if 8 ≤ t.sends then s.linkGoesDown r else s.onDev fun d => d.sendAgain r t
    | none => s)

/-- A link changes: DOWN, TRAINING or UP with its partner's position; while no Front is open, or in a unit that has lost its numbering (DEDUCED, log entry 24), an enumeration follows, with its
result (R328, R329). -/
def execRelayLinkChange (r : Fin 2) (link : Fin 3) (peer : Byte) (position : Option (Fin 64)) (units : Fin 256) (s : State) : Result :=
  .next (
    let d := s.dev
    if !d.awake || (d.bistOf (.relay r)).isSome || (d.cst (.relay r) ≠ .active && d.phase ≠ .romWaiting) then s
    else
      let t := match link.val with
        | 2 => s.onDev fun d => if d.rd (RL_LINK r) = 2 then d else d.linkRises r peer.toNat
        | 0 => if d.rd (RL_LINK r) = 2 then s.linkGoesDown r else s.onDev fun d => d.clear (RL_LINK r)
        | k => s.onDev fun d => d.wr (RL_LINK r) k
      if t.dev.frontBusy && (t.dev.head || t.dev.rd CH_UNITS ≠ 1) then t else t.onDev fun d => (d.enumerated (position.map Fin.val) (max 1 units.val)).sendSettled)

/-! ## Meanings: the Front -/

/-- FRONT_LAUNCH (R332). -/
def execFrontLaunch (x : Desc) (s : State) : Result :=
  let manifestLen : Word := x.par 0 32
  let chunks : Word := x.par 4 32
  let bytes : BitVec 64 := x.par 8 64
  .next (s.command x 0x0502 true fun s => s.frontLaunch x manifestLen.toNat chunks.toNat bytes.toNat)

/-- FRONT_STATUS (Table 10-12). -/
def execFrontStatus (x : Desc) (s : State) : Result :=
  let pos : Byte := x.par 0 8
  act s fun d => d.command x 0x0503 (decide (pos.toNat < 64 ∨ pos.toNat = 0xFF)) fun d =>
    if x.src ≠ [] then (ans .lengthMismatch, d)
    else
      let w := if pos.toNat = 0xFF ∨ pos.toNat = d.rd CH_POSITION then d.frontWord (d.rd FRONT_STATE)
        else ((d.front.reports.find? fun e => e.1 = pos.toNat).map Prod.snd).getD 0
      ({ status := some .ok, result0 := w, result1 := d.rd FRONT_SEQ }, d)

/-- A manifest has come; `l` is the Landfall that the head has fixed (R332). -/
def execFrontManifest (l : BitVec 64) (s : State) : Result :=
  .next (
    match s.dev.front.inbox with
    | m :: rest =>
      if !s.dev.up || s.dev.head || leAt m 0 4 ≠ 0x4D4F5846 then s
      else
        let t := s.onDev fun d => { d with front := { d.front with inbox := rest } }
        if t.dev.frontBusy then t.frontFails .updateBusy
        else
          let t : State := t.onDev fun d => d.sawOxm m
          match t.dev.manifestCheck m with
          | some st => t.frontFails st
          | none => t.acceptManifest m l.toNat
    | [] => s)

/-- A chunk object is taken up (R334, R336); `good` says that HOME reads back as written, `oxms` are what the flashes hold. -/
def execFrontChunk (good : Bool) (oxms : List (Fin 96 × Bytes)) (s : State) : Result :=
  .next (
    let d := s.dev
    let kept := ((d.link1.window.map TxFrame.frame ++ d.link1.waiting).filter fun f => f.type = relayData && bit f.flags 1).length
    match d.front.inbox with
    | b :: _ =>
      if !d.up || !d.frontBusy || leAt b 0 4 = 0x4D4F5846 || decide (8 ≤ kept) then s
      else
        let st := State.chunkCheck d b
        let s : State := if st = none ∨ st = some .authFail then s.onDev fun d => d.sawVerify (some (State.chunkSigned d b)) else s
        match st with
        | some st => s.chunkFails st
        | none => s.takeChunk b oxms good
    | [] => s)

/-- The head receives an ARMED report (R337). -/
def execArmed (k : Fin 64) (s : State) : Result :=
  act s fun d => if d.up && d.head && d.frontBusy then (d.setBit FRONT_ARMED_MAP k true).note k 2 else d

/-- The head evaluates the ARMED reports (R338): COMMIT when every unit is ARMED, ABORT with LANDFALL_MISSED at L - 500,000 frames
otherwise. A single unit with LANDFALL 0 waits for its own ARMED (DEDUCED, log entry 22). -/
def execArmedEvaluation (s : State) : Result :=
  .next (
    let d := s.dev
    let late := decide (d.rd FRONT_LANDFALL ≤ d.chainTime + 500000) && manifestLandfall d.front.manifest ≠ 0
    if !d.up || !d.head || !(d.frontState = .receiving || d.frontState = .armed) then s
    else if d.allIn FRONT_ARMED_MAP then
      (s.saveWith fun d => d.wr FRONT_STATE FrontState.committed.code).onDev fun d =>
        let d1 := d.toTail .commit 0xFF 0
        match d1.front.requester with
        | some r => { d1.answerOp r { status := some .ok, result0 := d1.rd FRONT_LANDFALL, result1 := d1.rd CH_UNITS } with
            front := { d1.front with requester := none } }
        | none => d1
    else if late then s.headAborts .landfallMissed
    else s)

/-- COMMIT reaches a unit, which relays it (R338). -/
def execCommit (s : State) : Result :=
  .next (
    let d := s.dev
    if !d.up || d.head then s
    else
      let t := s.onDev fun d => d.toTail .commit 0xFF 0
      if d.frontState = .armed && decide (d.chainTime < d.rd FRONT_LANDFALL) then t.saveWith fun d => d.wr FRONT_STATE FrontState.committed.code
      else t)

/-- The first tick with chain time at least L (R339). -/
def execLandfall (s : State) : Result :=
  .next (
    let d := s.dev
    let due := d.up && decide (d.rd FRONT_LANDFALL ≤ d.chainTime)
    let missed := fun (_ : Unit) =>
      if d.head then s.headAborts .landfallMissed
      else (s.onDev fun d => (d.wr FRONT_LAST_STATUS Status.landfallMissed.code).control 0 .aborted 0 Status.landfallMissed.code).unitAborted
    if !due then s
    else match d.frontState with
      | .committed => if d.on CH_SYNCED then s.activate false else missed ()
      | .armed => if manifestLandfall d.front.manifest = 0 then s else missed ()
      | .receiving => if manifestLandfall d.front.manifest = 0 then s else missed ()
      | _ => s)

/-- The head receives a LANDED report (R340). -/
def execLanded (k : Fin 64) (s : State) : Result := .next (if s.dev.up && s.dev.head && s.dev.frontBusy then s.landedAt k else s)

/-- The head receives NOT_HEALTHY (R340). -/
def execNotHealthy (k : Fin 64) (s : State) : Result :=
  .next (if s.dev.up && s.dev.head && s.dev.frontBusy && !s.dev.fw.settled then (s.onDev fun d => d.note k 4).headAborts .healthFail else s)

/-- The head receives an ABORTED report, or the status of a failed check (R332, R334, R340). -/
def execAborted (k : Fin 64) (st : Status) (s : State) : Result :=
  .next (if s.dev.up && s.dev.head && s.dev.frontBusy && !s.dev.fw.settled then (s.onDev fun d => d.note k 7).headAborts st else s)

/-- L + HEALTH - 2,500,000 frames without every LANDED (R340). -/
def execLandedDeadline (s : State) : Result :=
  .next (
    let d := s.dev
    if d.up && d.head && (d.frontState = .committed || d.frontState = .landed) && !d.fw.settled && !d.allIn FRONT_LANDED_MAP
        && decide (d.rd FRONT_LANDFALL + d.fw.window ≤ d.chainTime + 2500000) then s.headAborts .healthFail
    else s)

/-- SETTLED reaches a unit, which relays it and, landed and fit, confirms (R341). -/
def execSettled (s : State) : Result :=
  .next (
    let d := s.dev
    if !d.up || d.head then s
    else
      let t := s.onDev fun d => d.toTail .settled 0xFF 0
      if d.frontState = .landed then (t.onDev fun d => { d with front := { d.front with settledGot := true } }).settle else t)

/-- ABORT reaches a unit, which relays it (R341, R342). -/
def execAbort (st : Status) (s : State) : Result :=
  .next (if !s.dev.up || s.dev.head then s else (s.onDev fun d => d.toTail .abort 0xFF st.code).unitAbort st.code)

/-- The head learns that a unit fell back; holding SETTLED it sends CATCH_UP (R342). -/
def execFellBack (k : Fin 64) (s : State) : Result :=
  act s fun d =>
    if d.up && d.head then
      let d1 := d.note k 6
      if d1.fw.settled then d1.toTail .catchUp k 0 else d1
    else d

/-- CATCH_UP: a unit that fell back activates its staged parts (R342). -/
def execCatchUp (good : Bool) (s : State) : Result :=
  .next (
    let d := s.dev
    if d.up && d.frontState = .fellBack && !d.front.manifest.isEmpty then
      match s.stagedImage with
      | some b =>
        let r := s.writeSlot b.1 b.2 good good
        if r.1 ≠ .ok then r.2 else (r.2.onDev fun d => { d with front := { d.front with written := true } }).activate true
      | none => s.activate true
    else s)

/-! ## Meanings: health (R319, R339, R341) -/

/-- New firmware that meets every condition confirms; in a Front it reports LANDED or NOT_HEALTHY first. `home` says that the update
record writes and reads back. -/
def execHealthConfirm (home : Bool) (s : State) : Result :=
  .next (
    let d := s.dev
    let ok := d.fit home
    if !d.up || d.rd FW_STATE ≠ 3 || d.rd FW_HEALTH_LEFT = 0 then s
    else if d.frontState = .landed && !d.front.catchUp then
      if d.front.reported then s.settle
      else if ok then
        let t := s.onDev fun d => { d with front := { d.front with reported := true } }
        if d.head then t.landedAt 0 else (t.onDev fun d => d.control 0 .landed 0 0).settle
      else if d.crypto.tests = .none then
        let t := s.onDev fun d => { d with front := { d.front with reported := true } }
        if d.head then (if d.fw.settled then t else t.headAborts .healthFail) else t.onDev fun d => d.control 0 .notHealthy 0 0
      else s
    else if ok then s.confirm else s)

/-- The health window ends without confirmation (R319, R341). -/
def execHealthWindowEnd (s : State) : Result :=
  .next (
    let d := s.dev
    if !d.up || d.rd FW_STATE ≠ 3 || d.rd FW_HEALTH_LEFT ≠ 0 then s
    else
      let t := s.onDev fun d => (d.wr FW_LAST_RESULT Status.healthFail.code).post .fwFallback (.cell .device) (d.rd FW_VERSION)
      if d.frontState = .landed then (t.onDev fun d => d.wr FRONT_LAST_STATUS Status.healthFail.code).fallBack
      else (t.saveWith fun d => d.wr FW_STATE FwState.restoring.code).onDev fun d => d.pilotDown true)

end Sys2Proof.Machine
end

