-- ==== Sys2Proof/Machine/Pair.lean ====
section
/-! DEFINITION. The active and standby pair (13_standby_takeover.md R412 to R431): ownership, HEARTBEAT, pairing, the vault, takeover and return. -/

namespace Sys2Proof.Machine

open Reg

namespace Dev

/-- The GROUP_ROLE strap reads STANDBY. -/
def standby (d : Dev) : Bool := d.run.groupRole

/-- Load a pair state; the VAULT domain is on only while the device owns the ports or is in TAKING (R433). -/
def setPairState (d : Dev) (p : PairState) : Dev :=
  let d1 := d.wr PAIR_STATE p.code
  if p = .owning || p = .taking || p = .returning then d1.askDomain 162
  else { d1 with pwr := { d1.pwr with on := d1.pwr.on.filter (· ≠ 162), queue := d1.pwr.queue.filter (· ≠ 162) } }

/-- The device owns the ports (R412). -/
def owner (d : Dev) : Bool := d.pairState = .owning || d.pairState = .returning

/-- TAKEOVER_IN is conditioned active (input 98). -/
def takeoverIn (d : Dev) : Bool := bit (d.rd (FS_IC_LEVEL 3)) 2

/-- HEARTBEAT stops while the device runs (R414): 0 escalation, 1 TAKEOVER_IN, 2 thermal shutdown. -/
def heartbeatStops (d : Dev) (cause : Nat) : Dev :=
  { d with own := { d.own with beat := false } }.post .heartbeatLost (.cell .keeper) cause

/-- Every component reads HELD; work on its flash ends with the use of the port: an image write with NOT_OWNER, and a program or erase in
progress is followed no further (R413; log entry 91). -/
def holdAll (d : Dev) : Dev :=
  (allGcs.filter d.named).foldl (fun d n =>
    let d1 := (((d.dropWrite n .notOwner).setState n .held).clear (COMP_STATUS_READY n)).discardPend n fun _ => true
    (d1.dropOp n false).setGc n { (d1.dropOp n false).gc n with stream := none, thaw := none, audit := false, poisoned := false, fails := [], pieces := [] }) d

/-- TAKEOVER_IN ends ownership (R413): the levels stay frozen until RELEASE is tri-stated. -/
def enterNotOwning (d : Dev) : Dev :=
  let o := { d.own with frozen := some (d.own.frozen.getD d.frame), ownOut := false }
  ((({ d with own := o }.setPairState .notOwning).heartbeatStops 1).holdAll)

/-- Entry into TAKING in frame T (R424 step 1). -/
def enterTaking (d : Dev) : Dev :=
  let o := { d.own with taking := some d.frame, applied := false, ownOut := d.standby, detail := 0, tail := [] }
  ({ d with own := o }.setPairState .taking).wr TK_START (lo32 d.frame)

/-- What the conditioned level of TAKEOVER_IN asks of the present pair state (Table 13-1). -/
def takeoverLevel (d : Dev) : Dev :=
  match d.pairState with
  | .owning => if !d.standby && d.takeoverIn then d.enterNotOwning else d
  | .notOwning => if !d.takeoverIn && !d.on PAIR_YIELDED then d.enterTaking else d
  | .listening => if d.takeoverIn && d.on PAIR_BOUND then d.enterTaking else d
  | _ => d

/-- Deferred transitions take effect when a freeze ends (R413). -/
def unfreeze (d : Dev) : Dev :=
  let d1 := { d with own := { d.own with frozen := none } }
  (allGcs.filter fun n => d1.state n = .released && d1.rd (COMP_STATUS_HOLD n) ≠ 0).foldl leaveReleased d1

/-- The raw sample of TAKEOVER_IN in slot 0 of an ACTIVE device in OWNING (R413). -/
def takeoverSample (d : Dev) (raw : Bool) : Dev :=
  if d.pairState ≠ .owning || d.standby then d
  else if raw then (if d.frozen then d else { d with own := { d.own with frozen := some d.frame } })
  else if d.frozen then d.unfreeze else d

/-- RELEASE[95:0] go to high impedance: no line is driven. -/
def releaseFloats (d : Dev) : Dev :=
  let d1 := (List.range 96).foldl (fun d n => d.clear (COMP_STATUS_RELEASE n)) d
  { d1 with own := { d1.own with drivesRelease := false, frozen := none } }

/-- The pair state at a start (Table 13-1, R416). -/
def startPair (d : Dev) : Dev :=
  if d.standby then ({ d with own := { d.own with drivesRelease := false, ownOut := false } }.setPairState .listening).takeoverLevel
  else if d.on PAIR_YIELDED then { d with own := { d.own with drivesRelease := false } }.setPairState .yielded
  else if d.takeoverIn then { d with own := { d.own with drivesRelease := false } }.setPairState .notOwning
  else { d with own := { d.own with drivesRelease := true } }.setPairState .owning

/-- PAIR.LAST_STATUS. -/
def pairStatus (d : Dev) (s : Status) : Dev := d.wr PAIR_LAST_STATUS s.code

/-! ## Pairing (R417, R418) -/

/-- Bytes 0x00 to 0x9F of an offer (Table 13-2). -/
def offerBody (d : Dev) (pub : Bytes) : Bytes :=
  leBytes 4 0x4F505846 ++ leBytes 2 1 ++ leBytes 1 (flag d.standby) ++ leBytes 1 0 ++ leBytes 4 deviceId ++ leBytes 4 0
    ++ slice d.serial 0 16 ++ slice pub 0 97 ++ List.replicate 31 0

/-- Step 2 of R418. -/
def offerOk (d : Dev) (o : Bytes) : Bool :=
  leAt o 0 4 = 0x4F505846 && leAt o 4 2 = 1 && decide (leAt o 6 1 ≤ 1) && leAt o 6 1 ≠ flag d.standby && zeroAt o 7 1
    && leAt o 8 4 = deviceId && zeroAt o 0xC 4 && zeroAt o 0x81 31

/-! ## The items of a checkpoint (Table 13-5) -/

/-- Registers of a function that a checkpoint carries. -/
def fnFields (f : Nat) : List Fld := [RCT_BASE f, RCT_RINGS f, DB_BASE f, FN_CFG_IDLE_FRAMES f, FN_INT_VECTOR f, FN_INT_EN f]

/-- Changes that a DIRTY mark maps by component: RELEASE, and MODE and ADDR4 while RELEASED (R422). -/
def markItems (d : Dev) : List Nat :=
  (List.range 96).map fun n =>
    d.rd (COMP_STATUS_RELEASE n) + (if d.state n = .released then 2 * d.rd (UP_STATE_MODE (n / 2) (n % 2)) + 16 * d.rd (UP_STATE_ADDR4 (n / 2) (n % 2)) else 0)

/-- Changes that set ALL: the policy, an OXM, a revocation or a security version (R422). -/
def markAll (d : Dev) : List Nat :=
  [leNat d.pol.bytes, d.rd LC_OKS_REVOKED, d.rd LC_CNT_FW_SVN, d.rd LC_CNT_POL_SVN]
    ++ (List.range 96).flatMap fun n => [leNat (((d.comp n).oxm.map Oxm.raw).getD []), leNat (((d.comp n).golden.map Oxm.raw).getD [])]

/-- Every item of Table 13-5 that the device itself holds. -/
def vaultItems (d : Dev) : List Nat :=
  [d.rd LC_CNT_FW_SVN, d.rd LC_CNT_POL_SVN, d.rd LC_OKS_REVOKED, leNat d.pol.bytes]
    ++ ((List.range 96).flatMap fun n =>
        [d.rd (COMP_OXM_FLOOR n), leNat (((d.comp n).oxm.map Oxm.raw).getD []), leNat (((d.comp n).golden.map Oxm.raw).getD []),
         flag (d.gc n).staged.isSome, d.rd (COMP_STATUS_STATE n), d.rd (COMP_STATUS_READY n), d.rd (COMP_STATUS_HOLD n),
         d.rd (COMP_STATUS_GOLDEN n), (d.recentThaws n).length, d.rd (UP_STATE_MODE (n / 2) (n % 2)), d.rd (UP_STATE_ADDR4 (n / 2) (n % 2)),
         d.rd (WB_CS_WP_VIEW (n / 2) (n % 2))])
    ++ (d.att.entries.map fun e => leNat e.2) ++ [d.rd ATT_MEAS_GEN]
    ++ ((List.range 256).flatMap fun f => (fnFields f).map d.rd)
    ++ ((List.range 960).map fun i => d.rd (KS_SLOT_OWNER (64 + i))) ++ [leNat d.settings, d.rd BARO_SEQ]

/-- The device keeps the vault: it owns the ports and is bound, so that a VAULT and a pair key exist. -/
def keepsVault (d : Dev) : Bool := d.owner && d.on PAIR_BOUND && d.on (KS_SLOT_VALID 3)

/-- At a tick VAULT.DIRTY shows whether a change awaits a record. -/
def vaultTick (d : Dev) : Dev := if d.keepsVault then d.wr VAULT_DIRTY (flag (d.vaultItems ≠ d.vault.items)) else d

/-- A mark of the mark log (Table 13-5). -/
def markBytes (type : Nat) (all : Bool) (gen offset : Nat) (map : Nat) : Bytes :=
  let b := leBytes 1 type ++ leBytes 1 (flag all) ++ leBytes 2 0 ++ leBytes 4 gen ++ leBytes 4 offset ++ leBytes 4 0 ++ leBytes 12 map
  b ++ leBytes 4 (crc32 b)

/-- A mark is programmed; a full log is erased before a CKPT mark (R421, R422). -/
def putMark (d : Dev) (ckpt : Bool) (b : Bytes) : Dev :=
  let v := d.vault
  if 2048 ≤ v.marks then
    if ckpt then { (d.emit (.vaultErase 0)).emit (.vault 0 b) with vault := { v with marks := 1, markedTo := d.frame + 1 } } else d
  else { d.emit (.vault (32 * v.marks) b) with vault := { v with marks := v.marks + 1, markedTo := d.frame + 1 } }

/-- 64 KiB blocks that hold n bytes. -/
def blocks64 (n : Nat) : Nat := (n + 0xFFFF) / 0x10000

/-- Passes of the log within the latest 24 hours, and the life they predict (R423). -/
def wear (d : Dev) : Dev :=
  let day := 43200000000
  let recent := d.vault.wraps.filter fun f => decide (d.frame < f + day)
  let life := if recent.length = 0 then 0xFFFFFFFF else (d.rd VAULT_ENDURANCE - d.rd VAULT_PASS) / recent.length
  let d1 := { d with vault := { d.vault with wraps := recent } }.wr VAULT_LIFE_DAYS (min life 0xFFFFFFFF)
  if 730 ≤ life then d1.clear VAULT_WEAR_LOW
  else
    let d2 := d1.raise VAULT_WEAR_LOW
    match d2.vault.wornAt with
    | some f => if d2.frame < f + day then d2 else { d2 with vault := { d2.vault with wornAt := some d2.frame } }.post .vaultWear (.cell .keeper) life
    | none => { d2 with vault := { d2.vault with wornAt := some d2.frame } }.post .vaultWear (.cell .keeper) life

/-- A checkpoint record is written (R419, R421); `good` says that its read-back agrees. -/
def writeRecord (d : Dev) (good : Bool) : Dev :=
  let iv := d.generate 12
  let d0 := iv.2
  let items := d.vaultItems
  let body := Config.vaultBody items
  let len := 64 + body.length + 16
  let wrap := decide (Config.vaultSize < d.vault.next + len)
  let at_ := if wrap then 0x10000 else d.vault.next
  let pass := d.rd VAULT_PASS + flag wrap
  let gen := d.rd VAULT_GEN + 1
  let head := leBytes 4 0x43565846 ++ leBytes 2 1 ++ leBytes 2 Config.vaultFormat.toNat ++ leBytes 8 gen ++ slice d.serial 0 16
    ++ leBytes 4 body.length ++ leBytes 4 pass ++ slice iv.1 0 12 ++ List.replicate 12 0
  let d1 := (List.range (blocks64 len)).foldl (fun d i => d.emit (.vaultErase (at_ + 0x10000 * i))) d0
  let d2 := d1.emit (.vault at_ (head ++ Config.gcmEnc (d.key 3).bytes iv.1 head body))
  let d3 := d2.wr VAULT_LAST_WRITE (lo32 d.frame) |>.wr VAULT_PASS pass
  let v := { d3.vault with next := at_ + 0x10000 * blocks64 len, written := true, wraps := if wrap then d.frame :: d3.vault.wraps else d3.vault.wraps }
  let d4 := { d3 with vault := v }
  if good then
    let d5 := (d4.wr VAULT_GEN gen).putMark true (markBytes 1 false (lo32 gen) at_ 0)
    ({ d5 with vault := { d5.vault with items := items, seen := d5.markItems, seenAll := d5.markAll } }.clear VAULT_DIRTY).wear
  else (d4.post .vaultWriteFail (.cell .keeper) at_).wear

/-- A record may begin: none has been written, or 5,000,000 frames have passed (R421). -/
def recordTime (d : Dev) : Bool :=
  !d.vault.written || decide (5000000 ≤ (d.frame + 2 ^ 32 - d.rd VAULT_LAST_WRITE) % 2 ^ 32)

/-- The final record has been written: the device freezes, drops OWN_OUT and stops driving the ports (R429 steps 2 and 3). -/
def beginReturn (d : Dev) : Dev :=
  { d with own := { d.own with frozen := some d.frame, outFell := some d.frame, ownOut := false } }.setPairState .returning

/-! ## Takeover (R424 to R428) -/

/-- Level of RELEASE[n] as sampled. -/
def takeLevels (d : Dev) (levels : Nat) : Dev :=
  let d1 := (List.range 96).foldl (fun d n => d.wr (COMP_STATUS_RELEASE n) (flag (bit levels n))) d
  { d1 with own := { d1.own with drivesRelease := true, applied := true, frozen := none } }

/-- RELEASE falls where it was sampled high, and the component is HELD (Table 13-7). -/
def tkHeld (d : Dev) (n : Nat) (ready : Bool) : Dev :=
  ((d.dropRelease n).setState n .held).wr (COMP_STATUS_READY n) (flag ready)

/-- The SEALED regions of a component that continues become SEALED_DEGRADED (Table 13-7). -/
def degrade (d : Dev) (n : Nat) (e : CompRec) : Dev :=
  let d1 := e.regions.zipIdx.foldl (fun d r => if r.1.cls = 0 then d.raise (REGION_DEGRADED (n / 2) (n % 2) r.2) else d) d
  if e.regions.any fun r => r.cls = 0 then (d1.setComp n { d1.comp n with refill := true }).raise SP_STATUS_REFILL else d1

/-- UP_STATE of a component that continues: MODE, ADDR4 and the view from the record, the rest as Table 03-9 gives it. -/
def tkValues (d : Dev) (n : Nat) (x : TkComp) : Dev :=
  let p := n / 2
  let c := n % 2
  ((d.resetG n).wr (UP_STATE_MODE p c) x.mode).wr (UP_STATE_ADDR4 p c) x.addr4 |>.wr (WB_CS_WP_VIEW p c) x.wpView

/-- Table 13-7 on a component under an accepted record; continued, held for the gap, or verified again. -/
def tkComp (r : TkRec) (d : Dev) (n : Nat) : Dev :=
  let high := d.on (COMP_STATUS_RELEASE n)
  let x := (r.comps.find? fun e => e.1 = n).map Prod.snd
  let oxm := (r.oxms.find? fun e => e.1 = n).map Prod.snd
  let gold := (r.goldens.find? fun e => e.1 = n).map Prod.snd
  let d0 := match oxm with
    | some b => d.setOxm n b
    | none => d
  let d1 := d0.setComp n { d0.comp n with golden := gold.map parseOxm }
  let count := fun (k : Nat) (d : Dev) => { d with own := { d.own with detail := d.own.detail + 2 ^ k } }
  match (d.gc n).entry, x with
  | some e, some y =>
    let d2 := (d1.setGolden n y.golden).setComp n { d1.comp n with thaws := List.replicate y.thaws d.frame }
    let d3 := (d2.setBit (COMP_STATUS_HOLD n) Hold.holdCmd.bit (bit y.hold Hold.holdCmd.bit)).setBit (COMP_STATUS_HOLD n) Hold.disagree.bit (bit y.hold Hold.disagree.bit)
    if high then
      if r.allMarked || oxm.isNone then count 16 (d3.tkHeld n false)
      else if e.xip || y.marked then count 8 ((d3.tkHeld n true).setBit (COMP_STATUS_HOLD n) Hold.takeover.bit true)
      else count 0 (((d3.setState n .released).tkValues n y).degrade n e)
    else match y.state with
      | .quarantined => d3.setState n .quarantined
      | .thawing => d3.thawRequest n
      | _ => d3.tkHeld n false
  | _, _ => if high then count 16 (d1.tkHeld n false) else d1.tkHeld n false

/-- The record's policy is in force, with its staged entries (R424 step 4, Table 13-5). -/
def adoptPolicy (d : Dev) (b : Bytes) (staged : List (Nat × Option CompRec)) : Dev :=
  let q := parsePolicy b
  let dg := sha384b b
  let d1 := { d with pol := { bytes := b } }.wr POL_SEQ q.seq |>.wr POL_SVN q.svn |>.wr POL_STATUS_ORIGIN q.origin
  let d2 := (List.range 6).foldl (fun d i => d.wr (POL_DIGEST i) (leAt dg (8 * i) 8)) d1
  let d3 := (List.range 48).foldl (fun d p => d.setPair p { d.pair p with record := q.pair p, staged := none }) d2
  let d4 := allGcs.foldl (fun d n =>
    let d1 := d.setGc n { d.gc n with entry := q.comp n, staged := none }
    d1.setBit (COMP_STATUS_HOLD n) Hold.noEntry.bit (q.comp n).isNone) d3
  let d5 := (List.range 48).foldl showConfig d4
  (staged.foldl (fun d e => d.stage e.1 e.2) d5).showPol

/-- The registers that a record carries: functions and key-slot owners on a standby, settings, floors, and MEAS_GEN with its entries (R305, R428;
the functions of a former owner keep running, DEDUCED: log entry 64). -/
def adoptRegisters (d : Dev) (r : TkRec) : Dev :=
  let d1 := (if d.standby then r.fns else []).foldl (fun d e => ((fnFields e.1).zip e.2).foldl (fun d x => d.wr x.1 x.2) d) d
  let d2 := (if d.standby then r.owners else []).foldl (fun d e => if 64 ≤ e.1 ∧ e.1 < 1024 then d.wr (KS_SLOT_OWNER e.1) e.2 else d) d1
  let d3 := (r.floors.zipIdx.foldl (fun d e => d.wr (COMP_OXM_FLOOR e.2) (max e.1 (d.rd (COMP_OXM_FLOOR e.2)))) d2).applySettings r.settings
  let d4 := d3.wr ATT_MEAS_GEN (r.measGen + 2 ^ 32) |>.wr VAULT_GEN r.gen |>.wr VAULT_PASS r.pass |>.wr TK_GEN r.gen
  { d4.dropSpdm with att := { d4.dropSpdm.att with entries := r.entries, takenOver := d4.standby } }

/-- Every port pair that the policy uses is started. -/
def startPairs (d : Dev) : Dev := (List.finRange 48).foldl powerPair d

/-- Every pair that the policy in force uses is ACTIVE. -/
def pairsActive (d : Dev) : Bool := (List.finRange 48).all fun p => !(gcsOf p.val).any d.named || d.cst (.pp p) = .active

end Dev

namespace State

/-- PAIR_BIND PHASE 0 (R417). -/
def pairOffer (s : State) (x : Desc) : Ans × State :=
  let d := s.dev
  if x.src ≠ [] ∨ x.dstLen < 256 then (ans .lengthMismatch, s)
  else if !d.hasIdentity then (ans .selftestFail, s)
  else
    let k := d.generate 48
    let body := d.offerBody (Config.publicKey 2 k.1)
    let sg := k.2.identitySign 1 body
    ({ status := some .ok, dst := body ++ sg.1 }, { s with dev := { sg.2 with own := { sg.2.own with offer := some k.1 } } })

/-- PAIR_BIND PHASE 1 (R417, R418). -/
def pairBind (s : State) (x : Desc) : Ans × State :=
  let d := s.dev
  let o := x.src.take 256
  let n := leAt x.src 256 4
  let chain := (x.src.drop 256).take n
  let token := x.src.drop (256 + n)
  let peer := slice o 0x10 16
  if x.src.length ≠ 256 + n + 7476 then (ans .lengthMismatch, s)
  else if s.regionState 8 ≠ 0 then (ans .otpLocked, s)
  else if !(d.lc = .test || d.lc = .production) then (ans .lifecycleDenied, s)
  else if !d.offerOk o then (ans .descInvalid, s)
  else if slice chain 4 48 ≠ slice (s.chain 0) 4 48 ∨ Config.chainSerial chain ≠ some peer then (ans .authFail, s)
  else
    let signed := Config.ecdsaVerify (Config.chainKey chain) (o.take 0xA0) (slice o 0xA0 96)
    let s : State := s.onDev fun d => d.sawVerify (some signed)
    if !signed then (ans .authFail, s)
  else
    let s : State := s.onDev fun d => d.sawToken none token
    let d := s.dev
    if (d.tokenCheck 4 0 peer 0 none token).isSome then (ans .authFail, s)
  else match d.own.offer with
    | none => (ans .authFail, s)
    | some priv =>
      let own := slice d.serial 0 16
      let ctx := if beNat own ≤ beNat peer then own ++ peer else peer ++ own
      let key := slice (kdf (Config.ecdh priv (slice o 0x20 97)) [0x46, 0x58, 0x50, 0x41, 0x49, 0x52] ctx 32) 0 32
      let v := fun (w : Nat) =>
        if 512 ≤ w ∧ w < 520 then leAt key (4 * (w - 512)) 4 else if 520 ≤ w ∧ w < 524 then leAt peer (4 * (w - 520)) 4 else 0
      let words := (List.range' 512 12).map fun w => BurnStep.word w (v w) false
      if !d.otpSupply then (ans .otpNoSupply, s)
      else ({ status := none }, s.addBurn (words ++ lockSteps 8 v true ++ [.act (.bound x.ref)]) (some x.ref))

/-- What the standby takes over into its own HOME and OTP: policy, OXMs, floors, security versions and revocations (R424). -/
def keepRecord (s : State) (r : TkRec) : State :=
  let q := parsePolicy r.policy
  let t := s.homeStore (policyPlace (s.dev.rd POL_STATUS_COPY)) 0x100000 r.policy
  let u := r.oxms.foldl (fun s e => match q.comp e.1 with
    | some c => if bit c.oxmLoc 31 then (s.storeOxm c e.2 []).2 else s
    | none => s) t
  let v := (r.goldens.foldl (fun s e => s.homeStore (goldenPlace e.1) 0x8000 e.2) u).saveFloors
  let fw := v.counter 64 4
  let pol := v.counter 68 4
  let revoke := ((List.range 8).filter fun k => bit r.revoked k && (v.word (128 + k)).low = 0).map fun k => BurnStep.word (128 + k) 0xFFFFFFFF true
  let steps := counterSteps 64 fw (max fw r.fwSvn) ++ counterSteps 68 pol (max pol r.polSvn) ++ revoke
  if steps ≠ [] ∧ v.dev.otpSupply then v.startBurn steps none else v

/-- Steps 2 to 4 of R424 at the tick of frame T + 6: the levels are taken and driven, and the record is applied. -/
def takeover (s : State) (levels : Nat) (rec : Option TkRec) (newer : Bool) (fromHome : State → State) : State :=
  let d := s.dev
  let mine := fun (w : Bytes) => decide (w = slice d.serial 0 16 ∨ w = leBytes 8 (d.rd (PAIR_PARTNER_SERIAL 0)) ++ leBytes 8 (d.rd (PAIR_PARTNER_SERIAL 1)))
  let t := s.onDev fun d => { d.takeLevels levels with started := false }
  match (if newer then none else rec.filter fun r => mine r.writer) with
  | some r =>
    let u := t.onDev fun d =>
      let d1 := (d.adoptPolicy r.policy r.staged).adoptRegisters r
      let d2 := (List.range 96).foldl (Dev.tkComp r) d1
      { d2 with own := { d2.own with tail := r.tail } }.startPairs
    u.keepRecord r
  | none =>
    let u := fromHome (t.onDev fun d => (List.range 96).foldl (fun d n => d.tkHeld n false) d)
    u.onDev fun d => { d with own := { d.own with detail := 2 ^ 24 + 2 ^ 25 * flag newer } }.startPairs

end State

/-! ## Meanings -/

/-- PAIR_BIND (R417, R418). -/
def execPairBind (x : Desc) (s : State) : Result :=
  let phase : Byte := x.par 0 8
  .next (s.burnCommand x 0x0800 (decide (phase.toNat ≤ 1)) fun s =>
    let r := if phase = 0 then s.pairOffer x else s.pairBind x
    (r.1, match r.1.status with
      | some st => r.2.onDev fun d => d.pairStatus st
      | none => r.2))

/-- VAULT_STATUS (R430): the word at 0x0000_8840, and VAULT.GEN. -/
def execVaultStatus (x : Desc) (s : State) : Result :=
  act s fun d => d.command x 0x0801 true fun d =>
    if x.src ≠ [] then (ans .lengthMismatch, d.pairStatus .lengthMismatch)
    else
      let w := d.rd PAIR_STATE + 2 ^ 3 * d.rd PAIR_BOUND + 2 ^ 4 * d.rd PAIR_ROLE + 2 ^ 5 * d.rd PAIR_YIELDED + 2 ^ 16 * d.rd PAIR_LAST_STATUS
      ({ status := some .ok, result0 := w, result1 := lo32 (d.rd VAULT_GEN) }, d.pairStatus .ok)

/-- STANDBY_RETURN (R429): the final record is written as soon as R421 allows; `good` says that it reads back. -/
def execStandbyReturn (x : Desc) (good : Bool) (s : State) : Result :=
  act s fun d => d.command x 0x0802 true fun d =>
    if x.src ≠ [] then (ans .lengthMismatch, d.pairStatus .lengthMismatch)
    else if !d.standby || d.pairState ≠ .owning then (ans .notOwner, d.pairStatus .notOwner)
    else
      let d1 := { d with own := { d.own with returning := some x.ref } }
      ({ status := none }, if d1.recordTime then (let d2 := d1.writeRecord good; if good then d2.beginReturn else d2) else d1)

/-- The owner writes a checkpoint record (R421), the final one of a STANDBY_RETURN among them (R429). -/
def execCheckpointWrite (good : Bool) (s : State) : Result :=
  act s fun d =>
    let final := d.own.returning.isSome && d.pairState = .owning
    if d.up && d.keepsVault && d.pairState = .owning && d.recordTime && (final || d.vaultItems ≠ d.vault.items) then
      let d1 := d.writeRecord good
      if final && good then d1.beginReturn else d1
    else d

/-- The owner programs a DIRTY mark with every change not yet marked, at most one mark a frame (R422). -/
def execDirtyMark (s : State) : Result :=
  act s fun d =>
    let items := d.markItems
    let all := d.markAll
    let map := (items.zipIdx.map fun e => if d.vault.seen[e.2]? = some e.1 then 0 else 2 ^ e.2).sum
    if d.up && d.keepsVault && d.vault.written && decide (d.vault.markedTo ≤ d.frame) && (map ≠ 0 || all ≠ d.vault.seenAll) then
      let d1 := d.putMark false (Dev.markBytes 2 (all ≠ d.vault.seenAll) (lo32 (d.rd VAULT_GEN)) 0 map)
      { d1 with vault := { d1.vault with seen := items, seenAll := all } }
    else d

/-- HEARTBEAT toggles in slot 0 of every frame that is a multiple of 2,500, while the device owns the ports (R414). -/
def execHeartbeatToggle (s : State) : Result :=
  act s fun d =>
    if (d.phase = .running || d.phase = .pilotDown) && d.owner && d.frame % 2500 = 0 then { d with own := { d.own with beat := !d.own.beat } } else d

/-- A former owner stops driving RELEASE at frame F + 16 (R413). -/
def execReleaseTristate (s : State) : Result :=
  act s fun d =>
    match d.own.frozen with
    | some f => if d.pairState = .notOwning && decide (f + 16 ≤ d.frame) then d.releaseFloats else d
    | none => d

/-- RETURNING ends 32 frames after OWN_OUT fell, which completes STANDBY_RETURN (R429). -/
def execReturningEnd (s : State) : Result :=
  act s fun d =>
    match d.own.outFell with
    | some f =>
      if d.pairState = .returning && decide (f + 32 ≤ d.frame) then
        let d1 := (((d.holdAll).releaseFloats).setPairState .listening).pairStatus .ok
        let d2 := match d1.own.returning with
          | some r => d1.answerOp r { status := some .ok, result0 := d1.rd VAULT_GEN }
          | none => d1
        { d2 with own := { d2.own with returning := none, outFell := none, beat := false } }.takeoverLevel
      else d
    | none => d

/-- A tail record of an accepted checkpoint enters the queue with its own fields (R425); one that finds no place is discarded and counted
(R391, R393). -/
def Dev.tailPost (d : Dev) (r : BaroRec) : Dev :=
  if d.on BARO_STATUS_FULL then (d.inc BARO_DROPPED).tally 304 1
  else if 256 ≤ d.baro.queue.length then d.discard
  else ({ d with baro := { d.baro with queue := d.baro.queue ++ [r] } }.wr BARO_QUEUE (d.baro.queue.length + 1)).tally 303 1

/-- TAKING completes when every pair in use is ACTIVE (R425): TAKEOVER and the tail records are posted. -/
def execTakingComplete (s : State) : Result :=
  act s fun d =>
    if d.up && d.pairState = .taking && d.own.applied && d.pairsActive then
      let d1 := ((d.setPairState .owning).wr TK_DONE (lo32 d.frame)).post .takeover (.cell .keeper) d.own.detail
      let d2 := d1.own.tail.foldl Dev.tailPost { d1 with own := { d1.own with taking := none, applied := false, tail := [] } }
      d2.takeoverLevel
    else d

/-- The hold reason TAKEOVER clears (R427). -/
def execTakeoverHoldClear (n : Fin 96) (s : State) : Result :=
  act s fun d =>
    if d.held n .takeover && d.cst (.pp ⟨n.val / 2, by omega⟩) = .active && d.pinsComplete n then d.clearHold n .takeover else d

end Sys2Proof.Machine
end

