-- ==== Sys2Proof/Machine/Power.lean ====
section
/-! DEFINITION. Monitors and thermal governor, calibration page and Drizzle (14_power_clock_thermal.md R432 to R451). -/

namespace Sys2Proof.Machine

open Reg

namespace Dev

/-! ## The governor (R443, R444) -/

/-- A quotient whose rounding the spec leaves open. -/
def quotient (v : Int) (n : Nat) : Int :=
  let r := (v % (n : Int)).toNat
  v / (n : Int) + (if r ≠ 0 && Config.roundsUp r n then 1 else 0)

/-- MON.TJ in whole degrees, as DETAIL0 carries it (R451). -/
def wholeTj (d : Dev) : Nat := ((quotient (signed16 (d.rd MON_TJ)) 4) % 65536).toNat

/-- The correction of the thresholds while the calibration page is not used (R448), in units of 0.25 degrees. -/
def tjMargin (d : Dev) : Int := if d.calDefault then 32 else 0

/-- GOV_TRIP in force, in units of 0.25 degrees. -/
def trip (d : Dev) : Int := 4 * (d.rd MON_CFG_GOV_TRIP : Int) - d.tjMargin

/-- MON.IMON is at or above CUR_WARN; units of 10 mA and of 0.1 A. -/
def currentHigh (d : Dev) : Bool := decide (10 * d.rd MON_CFG_CUR_WARN ≤ d.rd MON_IMON)

/-- A change of step takes effect at the tick (R443). -/
def applyStep (d : Dev) : Dev :=
  match d.mon.staged with
  | none => d
  | some x =>
    let d1 := { d with mon := { d.mon with staged := none, changed := some d.frame, cool := 0 } }.wr MON_GOV_STEP x.step |>.raise MON_EVT_STEP
    let d2 := if x.up then (d1.inc MON_STEP_UP_CNT).tally 310 1 else (d1.inc MON_STEP_DOWN_CNT).tally 311 1
    d2.post .thermalStep (.cell .mon) (x.step + 4 * flag x.up + 8 * flag x.current + 2 ^ 16 * d.wholeTj)

/-- What the governor step in effect asks of prefetch, background clocks and lanes (Table 14-5). -/
def stepEffects (d : Dev) : Dev :=
  let step := d.rd MON_GOV_STEP
  let d1 := d.wr SP_STATUS_PF_STOPPED (flag (1 ≤ step)) |>.wr CR_HOST_LANES (if step = 3 then 0x300FF else 0xFFFFF)
  (List.range 48).foldl bgFreq d1

/-- The monitors are read in slot 2 (R443, R444): MON.TJ is the highest sensor averaged over 16 frames. -/
def readMonitors (d : Dev) (sensors : List Int) (imon vcore : Nat) : Dev :=
  let h := (sensors.foldl max (sensors.headD 0) :: d.mon.hist).take 16
  let tj := quotient h.sum h.length
  let d1 := { d with mon := { d.mon with hist := h } }.wr MON_TJ (tj % 65536).toNat
  let d2 := if signed16 (d1.rd MON_TJ_MAX) < tj then d1.wr MON_TJ_MAX (tj % 65536).toNat else d1
  (d2.wr MON_IMON imon |>.wr MON_VCORE vcore).wr MON_IMON_MAX (max imon (d.rd MON_IMON_MAX))

/-- The governor in slot 2 (R443, R444): a thermal rise or the current limit is staged for the next tick. -/
def govern (d : Dev) : Dev :=
  let tj := signed16 (d.rd MON_TJ)
  let step := d.rd MON_GOV_STEP
  let m := d.mon
  let spaced := match m.changed with
    | none => true
    | some f => decide (f + 50000 ≤ d.frame)
  let limit := decide (2000 ≤ d.rd MON_IMON)
  let up := decide (d.trip ≤ tj) && decide (step < 3) && (step = 0 || spaced)
  let staged : Option StepTo :=
    if limit && decide (step < 3) then some ⟨3, true, true⟩ else if up then some ⟨step + 1, true, false⟩ else none
  let d1 : Dev := { d with mon := { m with
    staged := staged
    cool := if tj ≤ d.trip - 20 then m.cool + 1 else 0
    warn := if d.currentHigh then m.warn + 1 else 0
    hot := if 460 - d.tjMargin ≤ tj then m.hot + 1 else 0 } }
  let d2 := if 0 < step then (d1.incWrap MON_STEP_FRAMES).tally 312 1 else d1
  if limit then (d2.raise MON_EVT_CURRENT_LIMIT).post .currentLimit (.cell .mon) (d.rd MON_IMON) else d2

/-- Slot 2 of a frame. -/
def monitorStep (d : Dev) (sensors : List Int) (imon vcore : Nat) : Dev :=
  ((d.readMonitors sensors imon vcore).govern).stepEffects

/-! ## The calibration page (R447 to R449) -/

/-- Bytes held in a run of registers of 8 bytes. -/
def regBytes (d : Dev) (f : Nat → Fld) (n : Nat) : Bytes := (List.range n).flatMap fun i => leBytes 8 (d.rd (f i))

/-- A page is used (R447): MAGIC, FORMAT, CRC, every trim in its range. -/
def calPageOk (b : Bytes) : Bool :=
  leAt b 0 4 = 0x4C435846 && leAt b 4 2 = 1 && leAt b 0xFFC 4 = crc32 (b.take 0xFFC)
    && ((slice b 8 288).all fun x => decide (x.toNat < 64))
    && (List.range 8).all fun i => decide ((signed16 (leAt b (0x158 + 2 * i) 2)).natAbs ≤ 80)

/-- The page as committed: COMMIT_SEQ, bit 15 of VERSION, CRC (R449). -/
def calCommitted (b : Bytes) (seq : Nat) : Bytes :=
  let v := withBit (leAt b 6 2) 15 true
  let c := b.take 6 ++ leBytes 2 v ++ slice b 8 0x178 ++ leBytes 4 seq ++ slice b 0x184 0xE78
  c ++ leBytes 4 (crc32 c)

/-- The page that a start finds (R447, R448); CAL_SEQ is the higher of the two values (R449). -/
def takeCal (d : Dev) (b : Bytes) : Dev :=
  let d1 := (List.range 512).foldl (fun d i => d.wr (CAL_PAGE i) (leAt b (8 * i) 8)) d
  if calPageOk b then
    (d1.wr CAL_STATUS_SRC (flag (bit (leAt b 6 2) 15)) |>.wr CAL_STATUS_VERSION (leAt b 6 2)).wr CAL_SEQ (max (leAt b 0x180 4) (d.rd CAL_SEQ))
  else (d1.wr CAL_STATUS_SRC 2).clear CAL_STATUS_VERSION

/-! ## Drizzle (R439 to R442) -/

/-- Cells that Drizzle entry disables: the Guard complex, the Crypto complex and the relays, with what stands below them. -/
def drizzleCells : List Cell :=
  (Cell.guard :: Cell.guard.descendants) ++ (Cell.crypto :: Cell.crypto.descendants) ++ [.relay 0, .relay 1]

/-- Refusals of DRIZZLE_ENTER, the first that applies (R439). -/
def drizzleRefusal (d : Dev) (srcLen : Nat) : Option Status :=
  if srcLen ≠ 0 then some .lengthMismatch
  else if d.anyBusy then some .componentReleased
  else if d.rd FW_STATE ≠ 0 || d.frontBusy then some .updateBusy
  else if d.pol.load.isSome then some .policyBusy
  else none

/-- Contexts at Drizzle entry: those with a CTX_SAVE are exported, the others destroyed (R246). -/
def drizzleContexts (d : Dev) : Dev :=
  (d.crypto.ctxs.filter fun c => c.place = .internal).foldl (fun d c =>
    if c.save ≠ 0 && !(c.keyed && (d.crypto.noWrap || d.rngDead)) then d.exportTo c c.save else d.dropCtx c.handle) d

/-- The RCT cache is written back (R283). -/
def writeBack (d : Dev) : Dev :=
  d.cachedRings.foldl (fun d e => (d.writeArea e.1 e.2.1 e.2.2).setRing e.1 e.2.1 (some { e.2.2 with cached := false })) d

/-- A cell is disabled and, with nothing of it in flight, drains at once (Table 02-5). -/
def stopNow (d : Dev) (c : Cell) : Dev :=
  let d1 := (((d.beginDrain c).setCst c .off).setCellx c {}).endTask (.cell c)
  let d2 := if c = .crypto then d1.followCrypto else d1
  ((d2.clear (CELL_PENDING_ENABLE c.offset)).result c .ok).cellEvent c CELL_EVT_STOPPED false .cellStopped 0

/-- Drizzle exit enables a cell again: it was on, or an ENABLE was latched (R441, R468). -/
def comesBack (d : Dev) (c : Cell) : Bool := d.cst c = .starting || d.cst c = .active || d.on (CELL_PENDING_ENABLE c.offset)

/-- Step 6 of entry: the complexes and relays go OFF, the retention domain keeps the rooted nodes of SP_NODE[0], and every other
domain switches off (R174, R439). -/
def drizzleOff (d : Dev) : Dev :=
  let live := drizzleCells.filter fun c => d.canEnable c && d.cst c ≠ .off
  let back := drizzleCells.filter fun c => d.canEnable c && d.comesBack c
  let d1 := (d.linkDown 0).2
  let d2 := if d.rd (RL_LINK 0) = 0 then d else d1
  let d3 := if d2.rd (RL_LINK 1) = 0 then d2 else (d2.linkDown 1).2
  let d4 := live.reverse.foldl stopNow d3
  let d5 := d4.setSnow { d4.snow with
    frames := [], pend := [], nodes := d4.snow.nodes.filter fun x => x.rooted && x.bank = 0, noPrefetch := [] }
  let d6 : Dev := { d5 with
    gcs := d5.gcs.map fun (e : Nat × Gc) => (e.1, { e.2 with stream := none, audit := false, op := none })
    pwr := { d5.pwr with on := [], queue := [] }
    driz := { wake := none, wakeAt := 0, cells := back } }
  (List.range 164).foldl showDomain d6

/-- Every ACTIVE function gets its sleep hint, or wakes (R283). -/
def hintAll (d : Dev) (sleep : Bool) : Dev :=
  ((List.range 256).filter fun f => d.rd (FN_STATE_STATE f) = 2).foldl (fun d f =>
    if sleep then
      let e := d.hint f true
      e.setFn f { e.fn f with confirm := none, scanAt := d.frame }
    else d.wakeFn f) d

/-- Entry into Drizzle (R439); `good` is the outcome of the checkpoint record, when one is written. -/
def drizzleEnter (d : Dev) (good : Bool) : Dev :=
  let d1 := d.bist.foldl (fun d r => d.bistIncomplete r false) d
  let d2 := if d1.on PAIR_BOUND && d1.ownsPorts && d1.on VAULT_DIRTY then d1.writeRecord good else d1
  let d3 := (((d2.drizzleContexts).writeBack).drizzleOff).hintAll true
  let d4 := if d3.run.perst then { d3 with run := { d3.run with linkWidth := 1, linkGen := 1 } } else d3
  ((d4.wr DRZ_STATE 2).post .drizzleEnter (.cell .mon) 0)

/-- The firmware enables a cell's own logic, alone; it submits a refused ENABLE again (R56, R468, R469). -/
def fwStart (d : Dev) (c : Cell) : Dev :=
  let own := ((c.startCost.filter fun _ => d.cst c = .off && !d.bound (.cell c)).map fun n => (c, n)).toList
  match d.submitAll own with
  | none => { ((d.tally 263 1).result c .frameBudget) with resubmit := d.resubmit.filter (· ≠ c) ++ [c] }
  | some d1 =>
    let e := d1.enableOne c
    (e.2.setCellx c { e.2.cellx c with enabling := (d.cellx c).enabling }).result c e.1

/-- Exit from Drizzle (R441): the domains and cells come back, functions wake, and the start tick is due. -/
def drizzleExit (d : Dev) (cause : Nat) : Dev :=
  let n := d.frame - (d.driz.wakeAt + 1)
  let d1 := [161, 163].foldl askDomain (d.wr DRZ_STATE 0 |>.wr DRZ_EXIT_FRAMES n)
  let d2 := if d1.ownsPorts || d1.pairState = .taking then d1.askDomain 162 else d1
  let d3 := ((d.driz.cells.foldl fwStart d2).hintAll false).linkTrained
  let d4 := (allGcs.filter fun n => d3.named n && d3.state n = .held).foldl (fun d n => d.clear (COMP_STATUS_READY n)) d3
  { d4 with started := false, driz := {} }.post .drizzleExit (.cell .mon) (cause + 256 * min n (2 ^ 24 - 1))

/-! ## Thermal shutdown (R445) -/

/-- RELEASE[95:0] fall, driven low where the device drives them (R412), and the block shuts down. -/
def thermalShutdown (d : Dev) : Dev :=
  let d1 := (List.range 96).foldl dropRelease d
  let d2 := { d1 with own := { d1.own with frozen := none } }.post .thermalShutdown (.cell .mon) d.wholeTj
  let d3 := if d2.own.beat || d2.owner then d2.heartbeatStops 2 else d2
  { d3 with phase := .shutdown, mon := { d3.mon with shutAt := some d3.frame } }

end Dev

/-! ## Meanings -/

/-- The step falls after 250,000 frames at or below GOV_TRIP - 5, while no current condition holds (R443). -/
def execGovernorStepDown (s : State) : Result :=
  act s fun d =>
    if d.awake && decide (250000 ≤ d.mon.cool) && !d.currentHigh && d.mon.staged.isNone && decide (0 < d.rd MON_GOV_STEP) then
      { d with mon := { d.mon with staged := some ⟨d.rd MON_GOV_STEP - 1, false, false⟩, cool := 0 } }
    else d

/-- Eight consecutive frames at or above CUR_WARN raise the step by one (R444). -/
def execCurrentWarn (s : State) : Result :=
  act s fun d =>
    if d.awake && decide (8 ≤ d.mon.warn) then
      let step := d.rd MON_GOV_STEP
      let staged := match d.mon.staged with
        | some x => some (if x.up then { x with current := true } else ⟨step + 1, true, true⟩)
        | none => if step < 3 then some ⟨step + 1, true, true⟩ else none
      ({ d with mon := { d.mon with warn := 0, staged := staged } }.raise MON_EVT_CURRENT_WARN).tally 313 1
    else d

/-- 115 degrees at two consecutive evaluations (R445). -/
def execThermalShutdown (s : State) : Result :=
  act s fun d => if d.awake && d.phase ≠ .shutdown && decide (2 ≤ d.mon.hot) then d.thermalShutdown else d

/-- 2,500 frames later every domain switches off and the always-on domain but for the Keeper halts (R445). -/
def execThermalShutdownHalt (s : State) : Result :=
  act s fun d =>
    match d.mon.shutAt with
    | some f =>
      if d.phase = .shutdown && decide (f + 2500 ≤ d.frame) then
        (List.range 164).foldl Dev.showDomain { d with phase := .halted, pwr := { d.pwr with on := [], queue := [] } }
      else d
    | none => d

/-- A commit of the staged calibration page (R449). -/
def calCommit (s : State) (written : Bool) : State :=
  let d := s.dev
  let b := d.regBytes CAL_STAGE 512
  let token := (List.range 1869).flatMap fun i => leBytes 4 (d.rd (CAL_TOKEN i))
  let seq := d.rd CAL_SEQ + 1
  let outcome := fun (st : Status) (s : State) => s.onDev fun d => d.wr CAL_STATUS_LAST_STATUS st.code
  if !Dev.calPageOk b then outcome .descInvalid s
  else
    let s : State := if d.open_ then s else s.onDev fun d => d.sawToken none token
    if !d.open_ && (d.tokenCheck 5 0 (slice (sha384b b) 0 16) seq none token).isSome then outcome .authFail s
  else
    let t := (s.saveWith fun d => d.wr CAL_SEQ seq).homeWrite written 0x1200000 0x10000 (Dev.calCommitted b seq)
    outcome (if written then .ok else .flashWrite) t

/-- CAL_CTL.COMMIT is written; `written` is the read-back of the page (R449). -/
def execCalCommit (written : Bool) (s : State) : Result :=
  .next (if s.dev.up && !s.dev.on CAL_STATUS_BUSY then calCommit s written else s)

/-- DRIZZLE_ENTER (R439): once nothing else is in flight. -/
def execDrizzleEnter (x : Desc) (good : Bool) (s : State) : Result :=
  act s fun d =>
    if (d.drizzleRefusal x.src.length).isNone && !(d.ops.isEmpty && d.cpls.isEmpty) then d
    else d.command x 0x0708 true fun d =>
      match d.drizzleRefusal x.src.length with
      | some st => (ans st, d)
      | none => (ans .ok, d.drizzleEnter good)

/-- The device leaves Drizzle after a wake event (R441). -/
def execDrizzleExit (s : State) : Result :=
  act s fun d =>
    match d.driz.wake with
    | some cause => if d.up && d.rd DRZ_STATE = 2 && decide (d.driz.wakeAt < d.frame) then d.drizzleExit cause else d
    | none => d

end Sys2Proof.Machine
end

