-- ==== Sys2Proof/Machine/Inputs.lean ====
section
/-! DEFINITION. Conditioned inputs and what they do (02_frames_cells_map.md R46 to R50, Table 02-2; 06 R187, R189; 11 R373; 13 R412,
R413), the hard timer of the watchdog (12 R384, R385) and the operating clock (R390). -/

namespace Sys2Proof.Machine

open Reg

namespace Dev

/-- Conditioned level of input k, active when true. -/
def icLevel (d : Dev) (k : Nat) : Bool := bit (d.rd (FS_IC_LEVEL (k / 32))) (k % 32)

/-- CHATTER is latched for input k. -/
def icChatter (d : Dev) (k : Nat) : Bool := bit (d.rd (FS_IC_CHATTER (k / 32))) (k % 32)

/-- Active level of a pin: low for RESET_REQ_N and TAMPER_N, high for TAKEOVER_IN. -/
def pinActive (pins : BitVec 99) (k : Nat) : Bool := pins.getLsbD k == decide (k = 98)

/-- One input is sampled in slot 0 (R46 to R49): its run against the conditioned level, its changes in the window of 4,096 frames, its
frames of one level, and its frames of active conditioned level. -/
def sampleInput (d : Dev) (k : Nat) (raw : Bool) : Dev :=
  let x := d.input k
  let changes := if d.frame % 4096 = 0 then 0 else x.changes
  d.setInput k {
    raw := raw
    run := if raw = d.icLevel k then 0 else x.run + 1
    changes := if raw = x.raw then changes else changes + 1
    steady := if raw = x.raw then x.steady + 1 else 1
    active := if d.icLevel k then x.active + 1 else 0 }

/-- Every input is sampled (R46), TAKEOVER_IN also for the freeze (R413). -/
def sampleInputs (d : Dev) (pins : BitVec 99) : Dev :=
  if !d.conditions then d
  else ((List.range 99).foldl (fun d k => d.sampleInput k (pinActive pins k)) d).takeoverSample (pinActive pins 98)

/-! ## Responses -/

/-- The conditioned level of RESET_REQ_N[n] (R187, Table 06-1). -/
def resetReq (d : Dev) (n : Nat) (active : Bool) : Dev :=
  if active then ((d.inc (COMP_CNT_RESET_REQ_CNT n)).tally 266 1).setHold n .resetReq else d.clearHold n .resetReq

end Dev

/-- A latch of TAMPER_N[m] (R373): a Squall, and the key store cleared or the device zeroised. Its records enter the queue in ascending
CODE (R391). -/
def tamper (s : State) (m : Nat) : State :=
  let d1 := (((s.dev.setBit LC_TAMPER_LATCHED m true).inc LC_TAMPER_COUNT).clearCrypto (some CR_ALARM_TAMPER) true).post .tamper (.cell .lc) m
  let t : State :=
    if bit (d1.rd LC_CONFIG_TAMPER_ZEROISE) m then ({ s with dev := d1 }.zeroise 1 none).burnAhead
    else { s with dev := ((d1.zeroiseSlots fun _ => true).closeSecret 0).post .zeroised (.cell .lc) 1 }
  t.onDev Dev.bistCleared

/-- The response of an input to a change of its conditioned level (Table 02-2). -/
def inputResponse (s : State) (k : Nat) (active : Bool) : State :=
  if k < 96 then s.onDev fun d => d.resetReq k active
  else if k < 98 then (if active then tamper s (k - 96) else s)
  else s.onDev Dev.takeoverLevel

/-- The conditioned level changes: STUCK clears when it goes inactive (R49). -/
def setLevel (s : State) (k : Nat) (active : Bool) : State :=
  let t := s.onDev fun d =>
    let d1 := (d.setBit (FS_IC_LEVEL (k / 32)) (k % 32) active).setInput k { d.input k with run := 0, active := 0 }
    if active then d1 else d1.setBit (FS_IC_STUCK (k / 32)) (k % 32) false
  inputResponse t k active

/-- CHATTER is due: more than 64 changes in the window (R47). -/
def Dev.chatterDue (d : Dev) (k : Nat) : Bool := decide (64 < (d.input k).changes) && !d.icChatter k

/-- CHATTER latches: the input is treated as inactive, a tamper input as one assertion (Table 02-2). -/
def chatter (s : State) (k : Nat) : State :=
  let was := s.dev.icLevel k
  let t := s.onDev fun d => (d.setBit (FS_IC_CHATTER (k / 32)) (k % 32) true).post .inputChatter (.cell .fs) k
  if 96 ≤ k ∧ k < 98 then (if was then t else setLevel t k true)
  else if was then setLevel t k false else t

namespace Dev

/-- A write of 1 to a CHATTER bit (R48): it clears after 500,000 frames of one raw level, and debounce restarts. -/
def chatterClear (d : Dev) (k : Nat) : Dev :=
  if d.icChatter k && decide (500000 ≤ (d.input k).steady) then
    (d.setBit (FS_IC_CHATTER (k / 32)) (k % 32) false).setInput k { d.input k with run := 0, changes := 0 }
  else d

/-- The hard timer ends (R384, R385): a Pilot reset, or on escalation a device reset, at which HEARTBEAT stops. -/
def hardTimer (d : Dev) : Dev :=
  match d.wdt.trapEnd with
  | some (f, esc) =>
    if decide (d.frame < f) || d.rd WDT_STATE ≠ 2 then d
    else if esc then
      let d1 := { d with wdt := { d.wdt with trapEnd := none } }
      let d2 := if d1.owner then d1.heartbeatStops 0 else d1
      let d3 := if d2.on PAIR_BOUND && !d2.standby then d2.raise PAIR_YIELDED else d2
      { d3 with run := { d3.run with resetDue := some d3.frame } }
    else d.pilotDown false
  | none => d

end Dev

/-- The operating clock advances (R390); at a new hour the update record is written. -/
def operatingSecond (s : State) : State :=
  let d := { s.dev with baro := { s.dev.baro with ticks := 0 } }
  if d.rd BARO_OP_SECONDS < 3599 then { s with dev := d.inc BARO_OP_SECONDS }
  else
    let t : State := { s with dev := (d.clear BARO_OP_SECONDS).inc BARO_OP_HOURS }
    if d.up then t.save else t

/-! ## Meanings -/

/-- DEBOUNCE consecutive samples differ from the conditioned level (R46); CHATTER in the same frame wins (R50). -/
def execInputLevelChange (k : Fin 99) (s : State) : Result :=
  .next (
    let d := s.dev
    if d.conditions && !d.icChatter k && !d.chatterDue k && decide (d.rd (FS_IC_CFG_DEBOUNCE k) ≤ (d.input k).run) && (d.input k).run ≠ 0 then
      setLevel s k (!d.icLevel k)
    else s)

/-- The 65th change in a window (R47). -/
def execInputChatter (k : Fin 99) (s : State) : Result := .next (if s.dev.conditions && s.dev.chatterDue k then chatter s k else s)

/-- An input active for STUCK_LIMIT thousand frames (R49). -/
def execInputStuck (k : Fin 99) (s : State) : Result :=
  act s fun d =>
    let l := d.rd (FS_IC_CFG_STUCK_LIMIT k)
    if d.conditions && d.icLevel k && l ≠ 0 && decide (1000 * l ≤ (d.input k).active) && !bit (d.rd (FS_IC_STUCK (k.val / 32))) (k.val % 32) then
      (d.setBit (FS_IC_STUCK (k.val / 32)) (k.val % 32) true).post .inputStuck (.cell .fs) k
    else d

/-- A write of 1 to a bit of FS.IC_CHATTER (R48). -/
def execIcChatterClear (k : Fin 99) (s : State) : Result := act s fun d => if d.conditions then d.chatterClear k else d

/-- The hard timer of the watchdog (R384, R385). -/
def execWdtHardTimer (s : State) : Result := act s fun d => if d.awake then d.hardTimer else d

/-- The operating clock, every 500,000 frames (R390). -/
def execOpSecondsAdvance (s : State) : Result :=
  .next (if s.dev.phase ≠ .off && decide (500000 ≤ s.dev.baro.ticks) then operatingSecond s else s)

end Sys2Proof.Machine
end

