-- ==== Sys2Proof/Machine/Start.lean ====
section
/-! DEFINITION. Resets of the whole device, the boot ROM, and the start of the firmware (00_scope.md R4, R13; 02 R468; 04 R123, R140; 09
R292; 10 R307 to R312, R318, R323, R339, R343; 11 R353, R356, R357, R368; 12 R386, R390, R392, R394; 13 R412, R418, R424; 15 R455 to R460). -/

namespace Sys2Proof.Machine

open Reg

namespace Dev

/-- What a reset of the whole device leaves: the fields whose Reset column does not list its letter, the Barograph queue and its
limits unless the supply was lost (R391), raw levels of inputs, what HOME, OTP and VAULT hold, straps, and the level of PERST_N (R13). -/
def fresh (d : Dev) (power : Bool) : Dev :=
  let k := if power then Kind.p else Kind.d
  let e := Dev.blank (d.regs.filter fun e => !(kindsAt e.1).contains k)
  let x := if power then { e with inputs := [], baro := {} } else
    { e with inputs := d.inputs.map fun (i : Nat × Inp) => (i.1, { raw := i.2.raw }), baro := d.baro }
  { x with
    frameHigh := if power then 0 else d.frameHigh
    otpx := { pump := d.otpx.pump, weakSeen := if power then [] else d.otpx.weakSeen, zeroiseDue := d.otpx.zeroiseDue }
    vault := { next := d.vault.next, written := d.vault.written, marks := d.vault.marks }
    front := { d.front with requester := none, inbox := [], part := [], reported := false }
    run := { profile := d.run.profile, bootOrder := d.run.bootOrder, groupRole := d.run.groupRole, perst := d.run.perst,
             linkWidth := d.run.linkWidth, linkGen := d.run.linkGen }
    free := d.free
    out := d.out }

/-- The supplies of the OTP controller (R354). -/
def otpSupplies (d : Dev) (vqps pump : Bool) : Dev :=
  { d.wr OTP_STATUS_VQPS_OK (flag vqps) with otpx := { d.otpx with pump := pump } }

/-- Straps and bank senses are latched (R458). -/
def latchStraps (d : Dev) (x : Straps) : Dev :=
  let d1 : Dev := { d with run := { d.run with
    profile := x.profile, bootOrder := x.bootOrder, groupRole := x.standby, perst := x.perst } }
  (List.range 48).foldl (fun d p => d.wr (PP_CFG_BANK_18 p) (flag (x.bank18.getLsbD p))) ((d1.wr PAIR_ROLE (flag x.standby)).linkTrained)

/-- The device does not start (R307). -/
def noStart (d : Dev) (st : Status) : Dev := ({ d with phase := .noStart }.wr REC_STATE 5).wr REC_LAST_STATUS st.code

/-- The profile and the JTAG level are fixed (R4, R370); the cells have their states from the reset, the digest
unit OFF with the Crypto complex that it follows (R468; DEDUCED, log entry 79). -/
def fixState (d : Dev) (fused : Option Bool) : Dev :=
  let legacy := if d.open_ then d.run.profile else fused.getD false
  (d.wr FS_PROFILE (flag legacy)).wr DBG_STATE_LEVEL (if d.open_ then 2 else 0)

end Dev

namespace State

/-! ## The boot ROM (R307) -/

/-- An incomplete life-cycle burn is completed, or LC_REPAIR is entered for want of a supply (R368, R369). -/
def completeLc (s : State) (k : Nat) : State :=
  let t := (s.latchOtp).onDev fun d => { d with phase := .lcRepair }
  if t.dev.otpSupply then t.startBurn (t.lcSteps k ++ [.act .lcRepaired]) none
  else t.onDev fun d => d.raise LC_STATE_REPAIR

/-- The boot ROM completes the repair path of region 0 (R357). -/
def repairRegion0 (s : State) : State :=
  let steps := s.repairWords.filter fun x => match x with
    | .word w _ _ => decide (w < 64)
    | .act _ => false
  if steps = [] ∨ !s.dev.otpSupply then s else s.startBurn steps none

/-- The first resident loader copy that verifies (R307 step 4). -/
def loader (s : State) : Option Bytes :=
  let l0 := s.homeRead 0 0x80000
  let l1 := s.homeRead 0x80000 0x80000
  if Config.loaderVerify l0 then some l0 else if Config.loaderVerify l1 then some l1 else none

/-- The boot ROM runs (R307, R356, R368); `power` tells a power-on reset from a device reset. -/
def boot (s : State) (x : BootIn) (power : Bool) : State :=
  let t := s.onDev fun d => (d.otpSupplies x.vqps x.pump).readMonitors x.mon.sensors x.mon.imon x.mon.vcore
  match t.integrityFail with
  | some w => (t.onDev fun d => ({ d with phase := .integrityFail }.raise OTP_STATUS_INTEGRITY_FAIL).wr OTP_LAST_WEAK_WORD w).showOtp
  | none =>
    match t.lcDecode with
    | some (k, true) => t.completeLc k
    | _ =>
      let u := ((t.latchOtp).onDev fun d => d.fixState t.fusedProfile).repairRegion0
      if !x.test0 then u.onDev fun d => d.noStart .selftestFail
      else match u.loader with
        | none => u.onDev fun d => d.noStart .authFail
        | some b =>
          let v := u.onDev fun d => { d with att := { d.att with loader := sha384b b }, run := { d.run with fresh := some power } }
          v.tryBoot v.bootSources

/-- A pulse that a loss of power or a device reset cuts leaves what the bit then reads open (R354, R355, R460). -/
def cutPulse (s : State) : State :=
  match s.dev.otpx.burns with
  | b :: _ => match b.pulse with
    | some (w, i) =>
      let r := Dev.drawBytes 1 s.dev
      let v := (r.1.headD 0).toNat
      { s with dev := r.2 }.setWord w ((s.word w).burn i (bit v 0) (bit v 1) (bit v 2))
    | none => s
  | [] => s

/-- A device reset (R13): burns end with the pulse in progress (R355), and the boot ROM starts again. -/
def deviceReset (s : State) (x : BootIn) : State := (s.cutPulse.onDev fun d => (d.cutBurns).fresh false).boot x false

/-! ## The resident loader (R318) -/

/-- A Front in progress that had not activated goes to ABORTED (R343). -/
def frontLost (s : State) : State :=
  match s.dev.frontState with
  | .receiving | .armed | .committed =>
    s.saveWith fun d => { d.wr FRONT_STATE FrontState.aborted.code with
      front := { d.front with staged := [], written := false, manifest := [], inbox := [], part := [] } }
  | _ => s

/-- RESTORING: the retreat image starts and is copied over the slot, which ends it (R318); `good` is the read-back. -/
def restore (s : State) (good : Bool) : Option Nat × State :=
  if !s.imagePasses retreatPlace then (none, s.saveWith fun d => d.wr FW_STATE FwState.restoring.code)
  else
    let t := s.saveWith fun d => d.wr FW_STATE FwState.restoring.code
    if good then (some retreatPlace, (t.homeCopy retreatPlace slotPlace slotSize).saveWith fun d => d.wr FW_STATE FwState.idle.code)
    else (some retreatPlace, (t.homeWrite false slotPlace slotSize (t.homeRead retreatPlace slotSize)).saveWith fun d =>
      d.wr FW_LAST_RESULT Status.flashWrite.code)

/-- A trial that has used its starts, or whose slot fails, falls back; a landed unit then has fallen back (R318, R341). -/
def trialFails (s : State) : State :=
  let t := match s.dev.front.policyCopy with
    | some c => s.homeErase (policyPlace c) 0x100000
    | none => s
  t.saveWith fun d =>
    let d1 := d.wr FW_LAST_RESULT Status.healthFail.code
    if d.frontState = .landed then
      { (d1.wr FRONT_STATE FrontState.fellBack.code).toHead .fellBack 0 fun d => d.note 0 6 with
        front := { d1.front with policyCopy := none, policyDue := false } }
    else d1

/-- Table 10-4: the place of the image that starts, none when the device is to be reset. -/
def loaderAction (s : State) (good : Bool) : Option Nat × State :=
  let slot := s.imagePasses slotPlace
  match FwState.ofCode (s.dev.rd FW_STATE) with
  | .idle => if slot then (some slotPlace, s.frontLost) else if s.imagePasses retreatPlace then s.frontLost.restore good else (none, s)
  | .preparing =>
    (some slotPlace, (s.saveWith fun d => (d.wr FW_STATE FwState.idle.code).wr FW_LAST_RESULT Status.flashWrite.code).frontLost)
  | .writing => s.frontLost.restore good
  | .trial =>
    let n := s.dev.rd FW_TRIAL_STARTS
    let t := s.saveWith fun d => d.add FW_TRIAL_STARTS 1
    if n < 2 ∧ slot then (some slotPlace, t.onDev fun d => d.wr FW_HEALTH_LEFT d.fw.window)
    else t.trialFails.restore good
  | .restoring => s.restore good

/-- The image starts (R308, R318): its version, security version and digest. -/
def startImage (s : State) (a : Nat) : State :=
  let b := s.imageAt a
  s.onDev fun d =>
    let d1 := d.wr FW_VERSION (leAt b 0xC 4) |>.wr FW_SVN (leAt b 0x10 1)
    let d2 := if d.fw.owed then d1 else d1.wr FW_SOURCE (flag (a = retreatPlace))
    { d2 with fw := { d2.fw with commit := bit (leAt b 6 2) 0 }, att := { d2.att with firmware := sha384b b } }

/-! ## What the firmware does at every start -/

/-- Sequencer and signature-engine microcode of an image (Table 10-3). -/
def microcode (b : Bytes) : Bytes := slice b (leAt b 0x14 4) (leAt b 0x18 4) ++ slice b (leAt b 0x1C 4) (leAt b 0x20 4)

/-- The microcode is loaded, and the signature engine, when it is ACTIVE, runs tests 7 to 9 (R323, R243). -/
def loadMicrocode (s : State) (a : Nat) (x : PilotIn) : State :=
  let u := microcode (s.imageAt a)
  s.onDev fun d =>
    if !x.ucode then { d.post .ucodeLoadFail (.cell .device) (d.rd FW_VERSION) with fw := { d.fw with ucodeOk := false } }
    else
      let v := (Config.ucodeVersion u).toNat
      let d1 : Dev := { d with att := { d.att with microcode := sha384b u }, fw := { d.fw with ucodeOk := true, ucode := v } }
      if d1.cst .se = .active then ((d1.wr SE_UCODE v).wr SE_STATE 1).kat 0x380 x.failed.toNat else d1

/-- Repairs of the array and an advance of the firmware security version that was left over (R320, R357). -/
def startRepairs (s : State) : State :=
  let steps := s.repairSteps
  if steps = [] then s.commitSvn
  else if s.dev.otpSupply then (s.startBurn (steps ++ [.act .repaired]) none).commitSvn
  else s.onDev fun d => { d.raise OTP_STATUS_REPAIR_WAIT with otpx := { d.otpx with retryAt := d.frame } }

/-- An image from a recovery source is checked for its owner OXM at its first start (R312); whether the slot was erased. -/
def owedCheck (s : State) (a : Nat) : Bool × State :=
  if !s.dev.fw.owed then (false, s)
  else
    let b := s.imageAt a
    let t := s.onDev fun d => { d with fw := { d.fw with owed := false } }
    if (s.dev.ownerOxmCheck b (s.ownerOxmAt a b)).isSome && !s.dev.open_ then
      (true, (t.homeErase slotPlace slotSize).onDev fun d => { d with run := { d.run with resetDue := some d.frame } })
    else (false, t)

/-- Thaws that a Pilot reset interrupted begin again at pass 0 (R198). -/
def restartThaws (s : State) : State :=
  s.onDev fun d => (allGcs.filter fun n => (d.gc n).thaw.isSome).foldl (fun d n => d.toPass n 0) d

/-- The identity keys (R292), unless the device secret is closed, zeroised or blank. -/
def identityKeys (s : State) : State :=
  s.onDev fun d =>
    let secret := d.fuseBytes 448 8
    if d.on LC_STATE_ZEROISED then { d.wr ATT_ID_STATE 2 with otpx := { d.otpx with secretClosed := true } }
    else if d.otpx.secretClosed || secret.all (· = 0) then d
    else
      let k := fun (i n : Nat) => kdf secret (Config.identityLabel i) [] n
      ((d.fillSlot 1 (k 1 48) 2 0x10 3).fillSlot 2 (k 2 32) 4 0x10 3).wr ATT_ID_STATE 1

/-- The pair key and the partner's SERIAL over the secret path (R353, R418). -/
def pairKey (s : State) : State :=
  s.onDev fun d =>
    if !d.on PAIR_BOUND then d
    else
      let w := d.fuseBytes 520 4
      ((d.fillSlot 3 (d.fuseBytes 512 8) 0 4 3).wr (PAIR_PARTNER_SERIAL 0) (leAt w 0 8)).wr (PAIR_PARTNER_SERIAL 1) (leAt w 8 8)

/-! ## The Barograph at a start (R392, R394) -/

/-- The write point, the corrupt records below it, and SEQ of the latest. -/
def baroScan (s : State) : State :=
  let area := s.home.filter fun e => decide (0x1210000 ≤ e.1 ∧ e.1 < 0x1310000)
  let wp := area.foldl (fun m e => max m ((e.1 - 0x1210000) / 64 + 1)) 0
  let good := fun (i : Nat) => let b := s.homeRead (baroAddr i) 64; leAt b 0x3C 4 = crc32 (b.take 60)
  let seq := match (List.range wp).reverse.find? fun i => good i with
    | some i => leNat (s.homeRead (baroAddr i + 0x18) 4) + (wp - 1 - i)
    | none => wp
  let first := s.homeRead (baroAddr 0) 64
  let cleared := if 0 < wp ∧ good 0 ∧ leAt first 0 2 = Ev.baroCleared.code then leAt first 0x20 4 else 0
  s.onDev fun d =>
    d.wr BARO_STATUS_WRITE_POINT wp |>.wr BARO_SEQ seq |>.wr BARO_CORRUPT (countUpTo wp fun i => !good i)
      |>.wr BARO_STATUS_FULL (flag (decide (16384 ≤ wp))) |>.wr BARO_CLEAR_SEQ (max cleared (d.rd BARO_CLEAR_SEQ))

/-- Steps 2 to 4 of a clear (R394); `wp` is the previous write point, `good` the read-back of record 0. -/
def baroErase (s : State) (wp : Nat) (good : Bool) : State :=
  let b := s.dev.baro
  let r : BaroRec := ⟨Ev.baroCleared.code, 0, Cell.baro.offset, b.hours, b.seconds, b.cycles, b.frame, 1, wp, leBytes 4 (s.dev.rd BARO_CLEAR_SEQ)⟩
  let t := (s.homeErase 0x1210000 0x100000).onDev fun d =>
    let q := d.baro.queue.zipIdx.map fun e => { e.1 with seq := e.2 + 2 }
    let d1 := ((({ d with baro := { d.baro with queue := q } }.wr BARO_STATUS_WRITE_POINT 1).wr BARO_SEQ 1).clear BARO_STATUS_FULL).clear BARO_CORRUPT
    ((d1.tally 303 1).tally 318 16).tally 317 1
  let u := if good then t.homeProgram (baroAddr 0) r.encode
    else
      let x := (t.dev.inc BARO_CORRUPT).drawBytes 64
      { t with dev := x.2 }.homeProgram (baroAddr 0) x.1
  u.saveWith fun d => { d with fw := { d.fw with clearPending := false } }

/-- A clear that a reset interrupted is finished. -/
def resumeClear (s : State) (good : Bool) : State :=
  if s.dev.fw.clearPending then s.baroErase (s.dev.rd BARO_STATUS_WRITE_POINT) good else s

/-- The authorisation of BARO_CLEAR (R394). -/
def clearRefusal (s : State) (src : Bytes) : Option Status :=
  let d := s.dev
  if d.open_ then (if src = [] then none else some .lengthMismatch)
  else match d.tokenCheck 3 0 (List.replicate 16 0) (d.rd BARO_CLEAR_SEQ + 1) none src with
    | some st => some st
    | none => if d.rd BARO_CLEAR_SEQ = 0xFFFFFFFF then some .authFail else none

/-- BARO_CLEAR (R394). -/
def baroClear (s : State) (x : Desc) (good : Bool) : Ans × State :=
  let s : State := if s.dev.open_ then s else s.onDev fun d => d.sawToken none x.src
  match s.clearRefusal x.src with
  | some st => (ans st, s)
  | none =>
    let t := s.saveWith fun d =>
      { d.wr BARO_CLEAR_SEQ (min (d.rd BARO_CLEAR_SEQ + 1) 0xFFFFFFFF) with fw := { d.fw with clearPending := true } }
    (ans .ok, t.baroErase (s.dev.rd BARO_STATUS_WRITE_POINT) good)

/-! ## SVN floors and the policy at a start (R123, R140, R193) -/

/-- The floors of HOME; without a copy that passes every floor is lost (R193). -/
def loadFloors (s : State) : State :=
  match s.goodCopy 0x1320000 96, s.goodCopy 0x1328000 96 with
  | some b, _ => s.onDev fun d => (List.range 96).foldl (fun d n => d.wr (COMP_OXM_FLOOR n) (leAt b n 1)) d
  | none, some b => s.onDev fun d => (List.range 96).foldl (fun d n => d.wr (COMP_OXM_FLOOR n) (leAt b n 1)) d
  | none, none => s.onDev fun d => (List.range 96).foldl (fun d n =>
      ((d.clear (COMP_OXM_FLOOR n)).raise (COMP_OXM_FLOOR_LOST n)).post .compFloorLost (.comp n) 0) d

/-- Copy k of the policy as HOME holds it. -/
def policyCopy (s : State) (k : Nat) : Bytes :=
  let n := leNat (s.homeRead (policyPlace k + 8) 4)
  if n ≤ 0x100000 then s.homeRead (policyPlace k) n else []

/-- The newest copy that passes checks 1 to 7, copy A on a tie (R123). -/
def newestPolicy (s : State) : Option (Nat × Bytes) :=
  let ok := fun (k : Nat) => (s.policyCheck7 (s.policyCopy k) none).isNone
  let seq := fun (k : Nat) => (parsePolicy (s.policyCopy k)).seq
  if ok 0 && !(ok 1 && decide (seq 0 < seq 1)) then some (0, s.policyCopy 0)
  else if ok 1 then some (1, s.policyCopy 1) else none

/-- The verifications of both copies (R123, R224). -/
def sawCopies (s : State) : State := (s.sawPolicy (s.policyCopy 0)).sawPolicy (s.policyCopy 1)

/-- The swaps of a stored policy begin (R136), after the burn of its COMMIT_SVN when that is owed and possible (R124). -/
def beginSwaps (s : State) (k : Nat) (b : Bytes) : State :=
  let q := parsePolicy b
  let v := s.counter 68 4
  let burn := bit q.flags 0 && decide (v < q.svn) && s.dev.otpSupply
  let t := s.onDev fun d =>
    { d with pol := { d.pol with load := some b, copy := k, stored := !burn, todo := if d.pol.swapping = b then d.pol.todo else allGcs, swapping := [] } }.showPol
  if burn then t.startBurn (State.counterSteps 68 v q.svn ++ [.act .policySvn]) none else t

/-- The policy that HOME holds is loaded (R123). -/
def startLoad (s : State) : State :=
  match s.newestPolicy with
  | some (k, b) => s.sawCopies.beginSwaps k b
  | none => s.sawCopies.onDev fun d => d.post .policyNone (.cell .device) 0

/-- A landed unit writes its staged policy to the copy not in use (R339). -/
def writeStaged (s : State) (good : Bool) : State :=
  match s.dev.front.policyDue, s.stagedPolicy with
  | true, some b =>
    let k := if s.dev.inForce then 1 - s.dev.rd POL_STATUS_COPY else 0
    let t := s.homeWrite good (policyPlace k) 0x100000 b
    t.onDev fun d =>
      { (if good then d else d.wr FRONT_LAST_STATUS Status.flashWrite.code) with front := { d.front with policyCopy := some k, policyDue := false } }
  | _, _ => s

/-- After a Pilot reset the swaps of a newer copy are resumed; otherwise a load that was interrupted ends (R140). -/
def resumeLoad (s : State) : State :=
  let digest := (List.range 6).flatMap fun i => leBytes 8 (s.dev.rd (POL_DIGEST i))
  match s.newestPolicy with
  | some (k, b) =>
    if sha384b b = digest then s.sawCopies.onDev endLoad else s.sawCopies.beginSwaps k b
  | none => s.sawCopies.onDev endLoad
where
  /-- A load that nothing resumes ends with a free status (log entry 20). -/
  endLoad (d : Dev) : Dev :=
    let d1 := { d with pol := { d.pol with todo := [], swapping := [], requester := none } }.showPol
    match d.pol.requester with
    | some r => { d1 with free := d.free + 1 }.answerOp r (ans (statusOf (Config.interrupted d.free).toNat))
    | none => d1

/-! ## The firmware's start -/

/-- What only the first start after a reset of the device does (R123, R193, R221, R244, R390, R412, R447, R468). -/
def firstStart (s : State) (power : Bool) : State :=
  let cal := s.homeRead 0x1200000 4096
  let t := ((s.onDev fun d => d.takeCal cal).loadFloors).pairKey
  let u := t.onDev fun d =>
    let d1 := { d with crypto := { d.crypto with tests := .powerUp } }.newWrapKey
    let d2 := d1.startPair
    let d3 := ((d2.fwStart .guard).fwEnable .sp).fwEnable .crypto
    let d4 := [Cell.i3c 0, Cell.i3c 1, Cell.relay 0, Cell.relay 1].foldl fwEnable d3
    d4.post .powerOn (.cell .device) (flag !power)
  u.startLoad
where
  fwEnable (d : Dev) (c : Cell) : Dev := d.fwEnable c

/-- What a restart of the firmware alone takes up again (R140, R198, R343). -/
def restart (s : State) : State :=
  s.restartThaws.resumeLoad

/-- The firmware takes over from the loader. -/
def firmwareStart (s : State) (a : Nat) (x : PilotIn) : State :=
  let t := (s.startImage a).onDev fun d => { d with phase := .running }.wdtBoot
  let u := (((t.loadMicrocode a x).loadSettings).baroScan).resumeClear x.cleared
  let v := (u.startRepairs).owedCheck a
  if v.1 then v.2
  else
    let w := ((v.2.identityKeys).writeStaged x.stored).onDev fun d =>
      { d with front := { d.front with resend := d.fw.settled, reported := false } }.sendSettled
    let y := match w.dev.run.fresh with
      | some power => w.firstStart power
      | none => w.restart
    (y.onDev fun d => { d with run := { d.run with fresh := none } }).save

/-- At a power-on start the operating clock comes from the update record and POWER_CYCLES increments (R390). -/
def loadClock (s : State) (r : Option Bytes) : State :=
  let v := fun (i : Nat) => (match r with
    | some b => (unpackFields recordWidths b)[i]?
    | none => none).getD 0
  s.onDev fun d => (d.wr BARO_OP_HOURS (v 10)).wr BARO_POWER_CYCLES (min (v 11 + 1) (2 ^ 32 - 1)) |>.clear BARO_OP_SECONDS

/-- A Pilot start (R318): the update record is read, Table 10-4 chooses an image, and its firmware starts. -/
def pilotStart (s : State) (x : PilotIn) : State :=
  let r := s.storedRecord
  let t := s.onDev fun d => d.takeRecord r
  let u := if t.dev.run.fresh = some true then t.loadClock r else t
  match u.loaderAction x.restored with
  | (some a, v) => v.firmwareStart a x
  | (none, v) => v.onDev fun d => { d with run := { d.run with resetDue := some d.frame } }

end State

/-! ## Meanings -/

/-- PWR_GOOD rises after a qualifying low (R307, R458, R460): a power-on reset. -/
def execPowerOnReset (straps : Straps) (x : BootIn) (s : State) : Result :=
  .next (if s.dev.phase = .off then (s.onDev fun d => (d.fresh true).latchStraps straps).boot x true else s)

/-- PWR_GOOD is low for so many nanoseconds (R460): below 1 us nothing, from 3 us every output floats and the device is in reset;
between them the spec gives no effect. -/
def execPwrGoodQualifyingLow (ns : Nat) (s : State) : Result :=
  if ns < 1000 then .next s
  else if ns < 3000 then .fault .powerGoodGlitch
  else .next (s.cutPulse.onDev fun d =>
    let d1 := (d.cutBurns).releaseFloats
    { d1 with
      phase := .off
      otpx := { d1.otpx with burns := [] }
      own := {}
      dbg := {}
      pwr := {} })

/-- A device reset: by command from PF0, or one that is due after an escalation, a transition, a cell RESET of the device cell or a
failed start (R13, R62, R367, R385). -/
def execDeviceReset (x : Option Desc) (b : BootIn) (s : State) : Result :=
  .next (match x with
    | some y =>
      let r := s.dev.takeUp y 0x0709 true
      let t : State := { s with dev := r.2 }
      if !r.1 then t
      else if y.src ≠ [] then t.onDev fun d => d.enterOp y 0x0709 (ans .lengthMismatch)
      else t.deviceReset b
    | none =>
      match s.dev.run.resetDue with
      | some f => if s.dev.awake && decide (f ≤ s.dev.frame) then s.deviceReset b else s
      | none => s)

/-- A Pilot start (R318). -/
def execPilotStart (x : PilotIn) (s : State) : Result :=
  .next (if s.dev.phase = .pilotDown && s.dev.run.resetDue.isNone then s.pilotStart x else s)

/-- BARO_CLEAR (R394); `good` is the read-back of record 0. -/
def execBaroClear (x : Desc) (good : Bool) (s : State) : Result :=
  .next (s.command x 0x0701 true fun s => s.baroClear x good)

/-- The tick of frame T + 6 of a takeover (R424): RELEASE is sampled and driven, and the record that its tag has proved, or none, is
applied; `newer` says that the newest one bears a later BODY_FORMAT. -/
def execTakeoverReleaseSample (levels : BitVec 96) (rec : Option TkRec) (newer : Bool) (s : State) : Result :=
  .next (match s.dev.own.taking with
    | some f =>
      if s.dev.up && s.dev.pairState = .taking && !s.dev.own.applied && decide (f + 6 ≤ s.dev.frame) then
        s.takeover levels.toNat rec newer State.startLoad
      else s
    | none => s)

end Sys2Proof.Machine
end

