-- ==== Sys2Proof/Machine/Resets.lean ====
section
/-! DEFINITION. What ends or resets the work of a cell: the end of a start sequence and of a drain, CELL_CTL RESET, and the runs of
logic BIST (02_frames_cells_map.md R53 to R63; 05 R156; 12 R403 to R407). -/

namespace Sys2Proof.Machine

open Reg

namespace Dev

/-! ## Work in flight -/

/-- An operation is carried out by the cell's engine, or by one inside it. -/
def worksOn (c : Cell) (o : Op) : Bool := cryptoOp o.opcode && (c = .crypto || c = engineOf o.opcode)

/-- A cell has work in flight that a drain completes first (Table 02-5). -/
def busyWork (d : Dev) (c : Cell) : Bool :=
  d.ops.any (worksOn c) ||
    (match c with
      | .lane j => d.crypto.lanes.any fun e => e.1 = j.val
      | .pp p => (gcsOf p).any fun n => !(d.pendOf n).isEmpty
      | .dn p => (gcsOf p).any fun n => (d.gc n).op.isSome
      | .sp => !d.snow.pend.isEmpty
      | .spBank b => d.snow.pend.any fun e => (d.frameOf e.gc e.granule).any fun f => f.bank = b.val
      | .i3c k => (d.mbx k).busy
      | .relay r => !(d.link r).window.isEmpty || !(d.link r).waiting.isEmpty
      | _ => false)

/-- The operations of an engine are aborted: each ends with a free status, for the spec gives none (log entry 20), and the contexts they
worked on are lost (R227 gives the like for a clear). -/
def cutOps (d : Dev) (p : Op → Bool) : Dev :=
  let cut := d.ops.filter p
  let d1 := cut.foldl (fun d o =>
    let st := statusOf (Config.interrupted d.free).toNat
    { d with
      free := d.free + 1
      ops := d.ops.map fun y =>
        if y.ref = o.ref then { y with status := some st, verdict := 0, result0 := 0, result1 := 0, dst := [], ctx := 0, left := 0, work := 0 }
        else y }) d
  let lost := fun (h : Nat) => h ≠ 0 && cut.any fun o => o.ctx = h
  ({ d1 with crypto := { d1.crypto with
      ctxs := d1.crypto.ctxs.filter fun x => !lost x.handle
      deferred := d1.crypto.deferred.filter fun y => !cut.any fun o => o.ref = y.desc.ref
      lanes := d1.crypto.lanes.filter fun e => !lost e.2 } }.showCtx).showLanes.showEngines

/-- The command of a mailbox runs on under the firmware without its MBX_CPL, and the mailbox is free. -/
def dropMailbox (d : Dev) (k : Fin 2) : Dev :=
  let g := fun (r : OpRef) => if r.port = .i3c k && !OpRef.orphaned r then { r with index := r.index + 2 ^ 20 } else r
  let d1 := d.setMbx k { d.mbx k with busy := false, appended := [] }
  { d1 with
    ops := d1.ops.map fun (o : Op) => { o with ref := g o.ref }
    tasks := d1.tasks.map fun (t : Task) => (match t.of with
      | .op r => { t with of := .op (g r) }
      | _ => t) }

/-- The work of a cell is aborted (Table 02-5, R59). -/
def abortWork (d : Dev) (c : Cell) : Dev :=
  let d1 := if d.ops.any (worksOn c) then d.cutOps (worksOn c) else d
  match c with
  | .lane j => { d1 with crypto := { d1.crypto with lanes := d1.crypto.lanes.filter fun e => e.1 ≠ j.val } }.showLanes
  | .pp p => (gcsOf p).foldl (fun d n => d.discardPend n fun _ => true) d1
  | .up p => (gcsOf p).foldl (fun d n => d.setGc n { d.gc n with lastOpc := 0, contOpc := 0, lastGranule := none }) d1
  | .dn p => ((gcsOf p).foldl (fun d n => d.dropOp n true) d1).setPair p { d1.pair p with sweep := none, zqNext := none }
  | .i3c k => d1.dropMailbox k
  | .cnt => match d1.cnt.snapshot with
    | some r => { d1 with cnt := { d1.cnt with snapshot := none }, free := d1.free + 1 }.answerOp r
        (ans (statusOf (Config.interrupted d1.free).toNat))
    | none => d1
  | _ => d1

/-- What only a reset of the cell itself takes away: Snowpack's frames and nodes (R156), the disagreements of a pair with the hold they
made (R142). -/
def lostByReset (d : Dev) (c : Cell) : Dev :=
  match c with
  | .sp => d.loseSnow (fun _ => true) fun _ => true
  | .spBank _ => d.lostWith c
  | .spNode _ => d.lostWith c
  | .pp p => (gcsOf p).foldl (fun d n => d.clearHold n .disagree) ((d.setPair p { d.pair p with disagree := 0 }).clear (WB_STATUS_HOLD p))
  | _ => d

/-- The reset of a cell's logic: its work is aborted and its C fields are loaded. -/
def resetLogic (d : Dev) (c : Cell) : Dev := ((d.abortWork c).lostByReset c).loadC c

/-! ## Local initialisation (R57) -/

/-- What is staged for a pair shows again (Table 04-11). -/
def showStaged (d : Dev) (p : Nat) : Dev :=
  ((gcsOf p).foldl (fun d n => d.setBit (WB_STATUS_STAGED p) (n % 2) (d.gc n).staged.isSome) d).wr (WB_STATUS_PAIR_STAGED p)
    (flag (d.pair p).staged.isSome)

/-- The local initialisation of a cell: the firmware writes the registers of a pair from the Guard Policy again (R109, R144), Snowpack
shows its contents, the signature engine gets its microcode (R243). -/
def localInit (d : Dev) (c : Cell) : Dev :=
  match c with
  | .sp => d.showPins
  | .spBank _ => d.showSnow
  | .spNode _ => d.showSnow
  | .se => d.engineInit .se
  | c => match c.pair? with
    | some p => (d.showConfig p).showStaged p
    | none => d

/-- The firmware task of a start sequence (R469). -/
def startTask (d : Dev) (c : Cell) (x : StartIn) : Dev :=
  match c with
  | .dn p => d.dnStart p x
  | .se => if d.fw.ucodeOk then d.kat 0x380 x.kat else d
  | _ => d

/-- A start sequence may end: its own domain is on, its parent's own logic runs, and so does the firmware where it has a task in it, or
is what starts; such a task has come to its last slice (R40, R57, R63, R469). -/
def startDone (d : Dev) (c : Cell) : Bool :=
  d.conditions && d.cst c = .starting && !(d.cellx c).ownUp && !(d.cellx c).waitParent && d.powered c
    && (match c.upper with
      | some p => d.ownActive p
      | none => true)
    && (d.up || (c.startCost.isNone && c ≠ .pilot)) && (c.startCost.isNone || d.bound (.cell c)) && d.sliced (.cell c)

/-! ## RESET (Table 02-5, R62, R156) -/

/-- The start sequence of a cell begins again, without the domain going off; it waits while the own logic above it is not up (R63). -/
def restartCell (d : Dev) (c : Cell) : Dev :=
  let x := d.cellx c
  let wait := match c.upper with
    | some p => !d.ownActive p
    | none => false
  let d1 := (d.setCst c .starting).setCellx c { since := d.frame, waitParent := wait, enabling := x.enabling && !x.ownUp }
  if c = .crypto then d1.followCrypto else d1

/-- The cells below a group whose start waits for its own logic. -/
def waitBelow (d : Dev) (c : Cell) : Dev :=
  c.descendants.foldl (fun d y =>
    if y.upper = some c && d.cst y = .starting then d.setCellx y { d.cellx y with waitParent := true } else d) d

end Dev

namespace State

/-- A relay cell that stops takes its link down (R328). -/
def dropLink (s : State) (c : Cell) : State :=
  match c with
  | .relay r => if s.dev.rd (RL_LINK r) = 0 then s else s.linkGoesDown r
  | _ => s

/-- A cell enters OFF; the contexts inside the Crypto complex go with its power (DEDUCED from R246, log entry 26). -/
def goOff (s : State) (c : Cell) : State :=
  (s.dropLink c).onDev fun d =>
    let d1 := if c = .crypto then
        { d with crypto := { d.crypto with ctxs := d.crypto.ctxs.filter fun (x : Ctx) => x.place = Place.exported, lanes := [] } }.showCtx.showLanes
      else d
    d1.enterOff c

/-- RESET applied to one cell by its state (Table 02-5). -/
def resetCell (s : State) (c : Cell) : State :=
  match s.dev.cst c with
  | .off => s.onDev fun d => (((match c with | .pp _ => d.lostByReset c | _ => d)).loadC c).result c .ok
  | .starting => s.onDev fun d => ((d.resetLogic c).restartCell c).result c .pending
  | .active => (s.dropLink c).onDev fun d => ((d.resetLogic c).restartCell c).result c .pending
  | .draining => (s.onDev fun d => (d.resetLogic c).result c .ok).goOff c

/-- RESET of a cell or group: every descendant, then its own logic (R62). The runs of BIST that it aborts end after it (R406, R407). -/
def resetTree (s : State) (c : Cell) : State :=
  let t := (c.descendants ++ [c]).foldl resetCell s
  t.onDev fun d => ((if d.cst c = .starting then d.waitBelow c else d)).bistAbortUnder c

end State

/-- RESET as CELL_CTL takes it. Of the device cell it is a device reset, due at once; of the Pilot complex it takes the firmware with
it (R13, R55, R62, R413). -/
def State.resetCommand (s : State) (c : Cell) : State :=
  let d := s.dev
  if !d.conditions then s
  else if d.refusedTree c then s.onDev fun d => d.result c .notOwner
  else if !c.capR then s.onDev fun d => d.result c .notSupported
  else if c = .device then s.onDev fun d => { d with run := { d.run with resetDue := some d.frame } }
  else if d.guardedNow c then s.onDev fun d => d.result c .componentReleased
  else
    let t := s.resetTree c
    if c = .pilot && d.phase = .running then t.onDev fun d => d.pilotDown false else t

namespace Dev

/-! ## BIST (R403 to R407) -/

/-- A run on a relay port holds its link in TRAINING (Table 12-5). -/
def bistLink (d : Dev) (c : Cell) : Dev :=
  match c with
  | .relay r => if (d.bistOf c).isSome && d.rd (RL_LINK r) ≠ 1 then ((d.wr (RL_LINK r) 1).linkLost r).2 else d
  | _ => d

/-- A write of CELL_BIST.RUN as a driver makes it (R403, R413). -/
def runCommand (d : Dev) (c : Cell) : Dev :=
  if !d.conditions then d else if d.refusedPort c then d.result c .notOwner else (d.bistRun c).bistLink c

/-- The reset that the BIST controller makes after a FAIL: C fields and local initialisation of the tested logic (R406). -/
def bistReset (d : Dev) (c : Cell) : Dev := (d.resetLogic c).localInit c

/-- A run ends with its signature compared (R405, R406). -/
def bistEnd (d : Dev) (r : BistRun) (misr : DWord) : Dev :=
  if misr = Config.misrSignature r.cell.offset then d.bistEnds r 1
  else
    let d1 := (((d.wr BIST_MISR_LAST misr.toNat).bistReset r.cell).bistEnds r 2).post .bistFail (.cell r.cell) r.frames
    if r.cell.inCrypto then d1.squall CR_ALARM_BIST else d1

end Dev

/-! ## Meanings -/

/-- A STARTING cell completes its start sequence (R57, R61, R63, R469). -/
def execStartSequenceComplete (c : Cell) (x : StartIn) (s : State) : Result :=
  act s fun d => if d.startDone c then ((d.localInit c).startTask c x).cellUp c else d

/-- A drain completes: OFF, STOPPED, and a latched enable is taken (Table 02-5, R62). -/
def execDrainComplete (c : Cell) (s : State) : Result :=
  .next (
    if s.dev.cst c = .draining && s.dev.belowOff c && !s.dev.busyWork c then
      (s.onDev fun d => (d.settleResult c).cellEvent c CELL_EVT_STOPPED false .cellStopped 0).goOff c
    else s)

/-- A drain at its limit of 5,000 frames is forced: the work in flight is aborted (R59). -/
def execDrainLimit (c : Cell) (s : State) : Result :=
  .next (
    let n := s.dev.frame - (s.dev.cellx c).since
    if s.dev.cst c = .draining && s.dev.belowOff c && decide (5000 ≤ n) then
      (s.onDev fun d =>
        let d1 := ((d.abortWork c).raise (CELL_FAULT c.offset)).cellEvent c CELL_EVT_STOPPED false .cellStopped 0
        let d2 := d1.cellEvent c CELL_EVT_DRAIN_FORCED true .cellDrainForced n
        d2.post .cellDrainForced (.cell c) n).goOff c
    else s)

/-- RESET written to CELL_CTL (R53 to R55, R62). -/
def execCellReset (c : Cell) (s : State) : Result := .next (s.resetCommand c)

/-- A write of CELL_BIST.RUN (R403). -/
def execBistRun (c : Cell) (s : State) : Result := act s fun d => d.runCommand c

/-- A run ends with PASS or FAIL when its MISR is compared (R405, R406). -/
def execBistEnd (c : Cell) (misr : DWord) (s : State) : Result :=
  act s fun d =>
    match d.bistOf c with
    | some r => if r.waiting || r.frames = 0 then d else d.bistEnd r misr
    | none => d

end Sys2Proof.Machine
end

