-- ==== Sys2Proof/Machine/Frame.lean ====
section
/-! DEFINITION. The frame tick and the fixed duties of its slots (02_frames_cells_map.md R34 to R44, Table 02-1; 05 R155, R166; 12 R389,
R390, R400, R405; 14 R440). -/

namespace Sys2Proof.Machine

open Reg

namespace Dev

/-- The device is in Drizzle. -/
def inDrizzle (d : Dev) : Bool := d.rd DRZ_STATE = 2

/-! ## Slots 0 to 2 -/

/-- An overrun is counted and shown (R41). -/
def overrun (d : Dev) (slot : Nat) : Dev :=
  ((d.raise FS_STATUS_OVERRUN).wr FS_STATUS_OVR_SLOT slot |>.inc FS_OVR_CNT).tally 261 1

/-- The record of an overrun, one per home slot and window (R43). -/
def overrunRecord (d : Dev) (slot : Nat) : Dev := d.postLimited (0x10000 + slot) .frameOverrun (.cell .fs) slot

/-- Pilot slices that still run at the tick make the frame that ends one overrun, and late ring-engine work another (R41, R42; one count a
frame for the slices, DEDUCED: log entry 27). -/
def overruns (d : Dev) (late : List (Fin 4 × Fin 12)) (ring : Option (Fin 6)) : Dev :=
  let slots := late.map fun e => 7 + e.2.val
  let d1 := { d with late := late.map fun e => e.1.val }
  let d2 := match slots.getLast? with
    | some k => slots.foldl overrunRecord (d1.overrun k)
    | none => d1
  match ring with
  | some k => { (d2.overrun (19 + k.val)).overrunRecord (19 + k.val) with skipScan := true }
  | none => d2

/-- The Barograph takes its timestamp in slot 0 (R389, R390); the operating clock counts frames. -/
def latchTime (d : Dev) : Dev :=
  { d with baro := { d.baro with
      hours := d.rd BARO_OP_HOURS
      seconds := d.rd BARO_OP_SECONDS
      cycles := d.rd BARO_POWER_CYCLES
      frame := lo32 d.frame
      ticks := d.baro.ticks + 1 } }

/-- A count of frames that runs down to zero. -/
def countDown (d : Dev) (f : Fld) : Dev := d.wr f (d.rd f - 1)

/-- The firmware submits its refused ENABLEs again (R469). -/
def resubmitAll (d : Dev) : Dev := d.resubmit.foldl fwEnable { d with resubmit := [] }

/-- Cells with a firmware task in their start sequence (R469). -/
def taskCells : List Cell := (List.finRange 48).map Cell.dn ++ [.se]

/-- A start sequence that no ENABLE has bound a task for, one that a RESET or a Pilot reset began again, has its task submitted until it is
admitted (R469; DEDUCED, log entry 38). -/
def submitStart (d : Dev) (c : Cell) : Dev :=
  match c.startCost with
  | some n =>
    if d.cst c = .starting && !(d.cellx c).ownUp && !d.bound (.cell c) then
      let r := d.submit (.cell c) n (Config.startTotal c.offset)
      if r.1 then r.2.setCellx c { r.2.cellx c with since := r.2.frame } else r.2
    else d
  | none => d

/-- What the firmware does at a tick: refused ENABLEs, the measurement entries, what the vault has to hold, and the windows that count
frames (R290, R319, R371, R421, R469). -/
def firmwareTick (d : Dev) : Dev :=
  let d1 := if d.inDrizzle then d else taskCells.foldl submitStart (d.endWork).resubmitAll
  let d2 := ((d1.measTick).measAnswers).vaultTick
  if d2.rd FW_STATE = FwState.trial.code then d2.countDown FW_HEALTH_LEFT else d2

/-- Slots 0 to 2 wherever the device has power: the staged governor step, FRAME_CNT, the timestamp, the supplies and the monitors (R44, R354,
R389, R434, R443). -/
def tickCore (d : Dev) (x : TickIn) : Dev :=
  let d1 := ((d.wr FS_FRAME_CNT (d.frame + 1)).tally 260 1).applyStep
  let d2 := (d1.latchTime).otpSupplies x.vqps x.pump
  { d2 with pwr := { d2.pwr with closed := 0 } }.monitorStep x.mon.sensors x.mon.imon x.mon.vcore

/-! ## Slots 27 to 29 -/

/-- A PC entry as the slot-27 test finds it (Table 05-7). -/
def showEntry27 (d : Dev) (n e : Nat) : Dev :=
  let p := n / 2
  let c := n % 2
  match d.pendAt n e with
  | some x =>
    let held := fun (i : Nat) => match d.frameOf n x.granule with
      | some f => (List.range 16).all fun k => f.bytes.any fun b => b.1 = 16 * i + k
      | none => false
    let path := match partOf x.parts x.granule with
      | some q => (d.leafExpect n q x.granule).isSome
      | none => false
    d.raise (PC_VALID p c e) |>.wr (PC_ACTION p c e) x.action |>.wr (PC_PATH_OK p c e) (flag path)
      |>.wr (PC_LINES p c e) (countUpTo 128 held) |>.wr (PC_AGE p c e) (min (d.frame - x.born) 4095) |>.wr (PC_GRANULE p c e) x.granule
  | none =>
    if d.on (PC_VALID p c e) then
      d.clear (PC_VALID p c e) |>.clear (PC_ACTION p c e) |>.clear (PC_PATH_OK p c e) |>.clear (PC_LINES p c e)
        |>.clear (PC_AGE p c e) |>.clear (PC_GRANULE p c e)
    else d

/-- The ages of open entries advance, and the registers of each entry take their snapshot (R166, Table 05-7). -/
def ageEntries (d : Dev) : Dev :=
  allGcs.foldl (fun d n =>
    let d1 := if (d.pendOf n).isEmpty then d else d.showPend n
    (List.range 32).foldl (fun d e => d.showEntry27 n e) d1) d

/-- What the scrub finds in one line (R155). -/
def scrubFound (d : Dev) : EccFound → Dev
  | .corrected => ((d.raise SP_EVT_ECC_CE).inc ECC_CE_CNT).tally 275 1
  | .frame n g line index => if (d.frameOf n g).isSome then (d.frameUe n g line).noteUe index false else d
  | .node n part lvl j number =>
    let hit := fun (y : Node) => y.gc = n && y.part = part && y.level = lvl && y.index = j
    if d.snow.nodes.any hit then (d.setSnow { d.snow with nodes := d.snow.nodes.filter fun y => !hit y }).noteUe number true
    else d

/-- The scrub of eight lines in the Lull (R155); a pass takes 57,344 frames. -/
def scrub (d : Dev) (found : List EccFound) : Dev :=
  if d.cst .sp ≠ .active || (d.bistOf .sp).isSome then d
  else
    let d1 := (found.take 8).foldl scrubFound d
    if d1.snow.scrub = 57343 then { d1 with snow := { d1.snow with scrub := 0 } }.incWrap SP_STATUS_SCRUB_PASSES
    else { d1 with snow := { d1.snow with scrub := d1.snow.scrub + 1 } }

/-- The slices of BIST runs: none runs in a frame that begins with a late Pilot slice, and a run that waits uses frames of its BUDGET (R405, Table
12-5). -/
def bistSlices (d : Dev) : Dev :=
  if !d.late.isEmpty then d
  else
    let d1 := d.tally 315 (d.bist.filter fun r => !r.waiting).length
    { d1 with bist := d.bist.map fun (r : BistRun) => { r with frames := r.frames + 1, waiting := r.waiting && d.engineBusy r.cell } }.showBist

/-- COMP_THAW.COUNT follows the thaws begun in the last hour (Table 06-8). -/
def showThaws (d : Dev) : Dev :=
  allGcs.foldl (fun d n => if (d.comp n).thaws = [] then d else d.wr (COMP_THAW_COUNT n) (min (d.recentThaws n).length 3)) d

/-- The slots of a frame outside Drizzle. -/
def slots (d : Dev) (x : TickIn) : Dev :=
  let d1 := ((d.showThaws).laneTick).hostSlots x.scans x.strays
  let d2 := ((d1.cntUpdate).chainTick).ageEntries
  (d2.scrub x.ecc).bistSlices

/-- The slots of a frame in Drizzle, where lanes, counters, Snowpack and BIST have no power (R439, R440). -/
def drizzleSlots (d : Dev) : Dev :=
  let fs := (List.range 256).filter fun f => d.rd (FN_STATE_STATE f) = 1 && d.fnLive f
  let d1 := fs.foldl (fun d f => let e := d.fnFrame f; if e.rd (FN_STATE_STATE f) = 2 then e.hint f true else e) { d with hostUse := {} }
  (d1.chainTick).tally 319 1

/-- The rest of a frame, once the device has started. -/
def tickRest (d : Dev) (x : TickIn) : Dev :=
  let d1 := (d.sampleInputs x.pins).overruns x.late x.ringLate
  let d2 := if d1.dbg.challenge.isSome then d1.countDown DBG_CHALLENGE_LEFT else d1
  let d3 := if d2.up then d2.firmwareTick else d2
  { (if d3.inDrizzle then d3.drizzleSlots else d3.slots x) with skipScan := false }

end Dev

/-! ## Meanings -/

/-- A frame tick with the duties of its slots (R34); none without power, or after a thermal shutdown has halted the device (R445, R460). -/
def execFrameTick (x : TickIn) (s : State) : Result :=
  act s fun d =>
    if !d.awake then d
    else
      let d1 := d.tickCore x
      if d1.conditions then d1.tickRest x else d1

/-- A 32-bit read of the low word of FS.FRAME_CNT latches the high word (R45). -/
def execFrameCntLowRead (port : Port) (s : State) : Result :=
  act s fun d =>
    if d.conditions then { d with frameHigh := d.frame / 2 ^ 32 }.emit (.regData port 4 (lo32 d.frame)) else d

end Sys2Proof.Machine
end

