-- ==== Sys2Proof/Machine/Access.lean ====
section
/-! DEFINITION. Accesses to registers: PF0 BAR0 and the VF blocks, the I3C window with its mailboxes, and the TAP (00_scope.md R11, R12;
02 R51, R52, R65, R68 to R70; 07 R227; 08 R284 to R286; 10 R346; 11 R356, R369, R370; 12 R380). -/

namespace Sys2Proof.Machine

open Reg

/-! ## Addresses -/

/-- Where a BAR access of a function lands: PF0's BAR0, or the function block of a VF (R68, R69). -/
def barAddr (f a : Nat) : Nat := if f = 0 then a else fnBase f + a % 0x4000

/-- An aligned access of 4 or 8 bytes (R70). -/
def aligned (a size : Nat) : Bool := (size = 4 || size = 8) && a % size = 0

/-- The fields that begin in the 64-bit register at an address, with their lowest bits. -/
def fieldsAt (a : Nat) : List (Nat × Row) := (List.range 64).filterMap fun k => (rowAt (8 * a + k)).map fun r => (k, r)

/-- The function whose block holds an address. -/
def fnAt (a : Nat) : Option Nat :=
  if 0x90000 ≤ a ∧ a < 0x94000 then some 0 else if 0x10000000 ≤ a then some ((a - 0x10000000) / 0x4000) else none

/-- An address in the Crypto range that no header and no table defines (R227, R285). -/
def cryptoHole (a : Nat) : Bool :=
  decide (0x40000 ≤ a ∧ a < 0x80000) && (cellAt a).isNone && (fieldsAt (a / 8 * 8)).isEmpty

/-- KS.KEY_IN. -/
def keyIn (a : Nat) : Bool := decide (0x48080 ≤ a ∧ a < 0x480C0)

/-- The recovery registers (Table 10-14). -/
def recAddr (a : Nat) : Bool := decide (0xE00 ≤ a ∧ a < 0xE20) || decide (0x6000 ≤ a ∧ a < 0x7000)

/-- The watchdog's registers beyond its header (Table 12-6). -/
def wdtAddr (a : Nat) : Bool := decide (0x23040 ≤ a ∧ a < 0x24000)

/-- The registers of the OTP controller and the life cycle (R356, R369). -/
def otpAddr (a : Nat) : Bool := decide (0x20000 ≤ a ∧ a < 0x22000)

namespace Dev

/-! ## Reads -/

/-- The fields of a register as they are held; WO and KW fields read zero (Table 00-6), and so does what no table defines (R12, R68). -/
def heldWord (d : Dev) (a : Nat) : Nat :=
  (fieldsAt a).foldl (fun v e => if e.2.acc = .wo || e.2.acc = .kw then v else v + 2 ^ e.1 * d.rd ⟨8 * a + e.1, e.2.width⟩) 0

/-- A header register: identification, summary bits, links and START_FRAMES are computed (Table 02-4). -/
def headerWord (d : Dev) (c : Cell) (a : Nat) : Nat :=
  let v := d.heldWord a
  match a % 64 with
  | 0 => d.cellId c
  | 8 => 0x100
  | 16 => v + d.anyBits c
  | 32 => c.firstChild + 2 ^ 32 * c.nextSibling
  | 48 => (if c.capW then v else v / 4 * 4 + 1) + 2 ^ 16 * (Config.startFrames c.offset).toNat
  | _ => v

/-- The 64-bit register at an address (R51, R68, R88, R346, R376). -/
def readWord (d : Dev) (a : Nat) : Nat :=
  match cellAt a with
  | some c => d.headerWord c a
  | none =>
    let v := d.heldWord a
    if recAddr a && !d.recovering then 0
    else if 0x1000000 ≤ a ∧ a < 0x1300000 ∧ 0x5000 ≤ a % 0x10000 ∧ a % 0x10000 < 0x5400 then
      let n := 2 * ((a - 0x1000000) / 0x10000) + (a % 0x10000 - 0x5000) / 0x200
      leNat ((List.range 8).map fun i => d.sfdpByte n (a % 0x200 + i))
    else if a = 0x21040 then withBit v 3 d.approved
    else match fnAt a with
      | some _ => if a % 0x4000 = 8 then withBit v 5 (d.rd DRZ_STATE ≠ 0) else v
      | none => v

/-- The value that a read of 4 or 8 bytes returns. -/
def readValue (d : Dev) (a size : Nat) : Nat :=
  if size = 8 then d.readWord a
  else if a = 0x10044 then d.frameHigh
  else bits (d.readWord (a / 8 * 8)) (8 * (a % 8)) 32

/-- A read and what it does (R45, R65, R227); `window` tells an access through the I3C window (R285). -/
def readAccess (d : Dev) (window : Bool) (a size : Nat) : Nat × Dev :=
  match d.offCell a with
  | some c => (0, d.offAccess c)
  | none =>
    if cryptoHole a then (0, if window then d else d.busError false)
    else if keyIn a && size = 4 then (0, d.busError false)
    else if a = 0x10040 && size = 4 then (lo32 d.frame, { d with frameHigh := d.frame / 2 ^ 32 })
    else (d.readValue a size, d)

/-! ## Writes -/

/-- What an RW field holds after a write, none when the write is ignored: MODE (Table 02-4), HOLD_MIN (R188), DEBOUNCE (Table 02-7),
IDLE_FRAMES, RCT and doorbell bases (Table 08-2), GOV_TRIP and CUR_WARN (Table 14-7), HEALTH_FRAMES (Table 10-13), CNT_SEL (R399). -/
def taken (d : Dev) (a k v source : Nat) : Option Nat :=
  match cellAt a with
  | some c => if a % 64 = 48 && k = 0 && (v = 3 || !c.capW) then none else some v
  | none =>
    if 0x1000 ≤ a ∧ a < 0x2800 then (if v = 0 then none else some v)
    else if 0x10100 ≤ a ∧ a < 0x10290 then (if k % 32 = 0 ∧ v = 0 then none else some v)
    else if a = 0xC18 then (if 500000 ≤ v ∧ v ≤ 150000000 then some v else none)
    else if a = 0x27050 then
      (if k = 0 then some (max 80 (min 100 v)) else if 120 ≤ v ∧ v ≤ 180 then some v else none)
    else if 0x25100 ≤ a ∧ a < 0x25300 then (if source < 320 then some v else none)
    else match fnAt a with
      | some f =>
        let o := a % 0x4000
        if o = 0x18 then some (max 1000 v)
        else if (o = 0x40 ∨ o = 0x48 ∨ o = 0x80) ∧ d.rd (FN_STATE_STATE f) ≠ 0 then none
        else some v
      | none => some v

/-- Fields that only the firmware writes: the watchdog's window and tasks (R381, R383). -/
def firmwareField (a : Nat) : Bool := a = 0x23040 || a = 0x23068

/-- A write acts on one field by its access type (Table 00-6); `mask` marks the bits of the register that are written. IC_CHATTER has its
own rule (R48). -/
def writeField (fw : Bool) (a mask data : Nat) (d : Dev) (e : Nat × Row) : Dev :=
  let f : Fld := ⟨8 * a + e.1, e.2.width⟩
  let full := 2 ^ e.2.width - 1
  let m := mask / 2 ^ e.1 % 2 ^ e.2.width
  let v := data / 2 ^ e.1 % 2 ^ e.2.width
  let new := (d.rd f &&& (full ^^^ m)) ||| (v &&& m)
  if m = 0 then d
  else if fw && firmwareField a then d.wr f new
  else match e.2.acc with
    | .ro => d
    | .rw =>
      match d.taken a e.1 new (bits ((d.heldWord a &&& ((2 ^ 64 - 1) ^^^ mask)) ||| (data &&& mask)) 0 9) with
      | some w => d.wr f w
      | none => d
    | .w1c => if 0x10320 ≤ a ∧ a < 0x10330 then d else d.wr f (d.rd f &&& (full ^^^ (v &&& m)))
    | .wo => if 0x6000 ≤ a ∧ a < 0x7000 then d.wr f new else d
    | .kw => d.wr f new

/-- MODE of CELL_PWR has been written: a request for the domain, or its end (R433). -/
def modeWritten (d : Dev) (c : Cell) : Dev :=
  if !c.capW then d
  else if d.rd (CELL_PWR_MODE c.offset) = 1 then (if d.cst c = .off then d.askDomains c else d)
  else if d.cst c = .off then d.releaseDomains c else d

/-- Writes of 1 to bits of FS.IC_CHATTER (R48); a register holds two words. -/
def chatterWrite (d : Dev) (a mask data : Nat) : Dev :=
  (List.range 64).foldl (fun d i =>
    let k := 8 * (a - 0x10320) + i
    if bit mask i && bit data i && decide (k < 99) then d.chatterClear k else d) d

/-- A key of the watchdog (R382). -/
def serviceWrite (d : Dev) (v : Nat) : Dev :=
  if v = 0x4D3C then d.wdtArm else if v = 0xB2C3 then d.wdtService else if d.wdtTrap then d else d.wdtKeySeq

/-- The triggers of a function block: FN_CTL, RING_CTL, MSI-X masks, FN_KICK (Table 08-2, R279). -/
def fnTrigger (d : Dev) (f o mask data : Nat) : Dev :=
  if o = 0x10 then
    (if !bit mask 0 then d else match data % 4 with
      | 1 => d.fnEnable f
      | 2 => d.fnDisable f
      | _ => d)
  else if o = 0x50 then (if bit mask 0 then d.ringCtl f (data % 2 ^ 16) (data / 2 ^ 16 % 8) else d)
  else if o = 0x1000 then (if bit mask 0 then d.kick f else d)
  else if 0x2000 ≤ o ∧ o < 0x3000 ∧ o % 16 = 8 ∧ bit mask 32 = true ∧ bit data 32 = false then d.msixUnmask f ((o - 0x2000) / 16)
  else d

end Dev

namespace State

/-- A command written to CELL_CTL (Table 02-4). -/
def cellCommand (s : State) (c : Cell) (cmd : Nat) : State :=
  match cmd with
  | 0 => s
  | 1 => s.onDev fun d => d.enableCommand c false
  | 2 => s.onDev fun d => d.disableCommand c
  | 3 => s.resetCommand c
  | _ => s.onDev fun d => d.unknownCommand c

/-- REC_CTL (Table 10-14). -/
def recTrigger (s : State) (mask data : Nat) (good : Bool) : State :=
  let on := fun i => bit mask i && bit data i
  let s1 := if on 0 then s.onDev Dev.recStart else s
  let s2 := if on 1 then s1.onDev fun d => d.recPush (data / 2 ^ 16 % 2 ^ 13) else s1
  let s3 := if on 2 then s2.recFinish good else s2
  if on 3 then s3.onDev Dev.recAbort else s3

/-- What a write to a register triggers beside its fields. -/
def trigger (s : State) (fw : Bool) (a mask data : Nat) (good : Bool) : State :=
  match cellAt a with
  | some c =>
    (match a % 64 with
      | 24 => if bit mask 0 then s.cellCommand c (data % 8) else s
      | 48 => s.onDev fun d => d.modeWritten c
      | 56 => if bit mask 0 && bit data 0 then s.onDev fun d => d.runCommand c else s
      | _ => s)
  | none =>
    if a = 0xE18 then s.recTrigger mask data good
    else if a = 0x20080 then (if bit mask 0 && bit data 0 && s.dev.phase = .lcRepair then lcRepair s else s)
    else if a = 0x23058 then (if fw && bit mask 0 then s.onDev fun d => d.serviceWrite (data % 2 ^ 16) else s)
    else if a = 0x23060 then (if fw && bit mask 0 then s.onDev fun d => d.wdtCheckin (data % 32) else s)
    else if a = 0x27078 then
      (if bit mask 0 && bit data 0 && s.dev.up && !s.dev.on CAL_STATUS_BUSY then calCommit s good else s)
    else if a = 0x48050 then (if bit mask 35 && bit data 35 then s.onDev Dev.keyLoad else s)
    else if 0x10320 ≤ a ∧ a < 0x10330 then s.onDev fun d => d.chatterWrite a mask data
    else match fnAt a with
      | some f => s.onDev fun d => d.fnTrigger f (a % 0x4000) mask data
      | none => s

/-- An aligned write of 4 or 8 bytes (R11, R65, R227, R346, R380); `good` is the read-back of what it makes the firmware write in HOME. -/
def writeAccess (s : State) (window fw : Bool) (a size v : Nat) (good : Bool) : State :=
  match s.dev.offCell a with
  | some c => s.onDev fun d => d.offAccess c
  | none =>
    if cryptoHole a then (if window then s else s.onDev fun d => d.busError false)
    else if keyIn a && size = 4 then s.onDev fun d => d.busError false
    else if recAddr a && !s.dev.recovering then s
    else if wdtAddr a && !fw then s
    else
      let w := a / 8 * 8
      let mask := if size = 8 then 2 ^ 64 - 1 else 2 ^ (8 * (a % 8)) * (2 ^ 32 - 1)
      let data := (if size = 8 then v else 2 ^ (8 * (a % 8)) * v) % 2 ^ 64
      (s.onDev fun d => (fieldsAt w).foldl (Dev.writeField fw w mask data) d).trigger fw w mask data good

end State

/-! ## The I3C window (R284 to R286) -/

namespace Dev

/-- An I3C target answers: its cell is ACTIVE, or the device has not come to its firmware, and no run of BIST is on it (R309, R356, R369,
Table 12-5). -/
def windowUp (d : Dev) (k : Fin 2) : Bool :=
  d.awake && (d.bistOf (.i3c k)).isNone
    && (d.cst (.i3c k) = .active || d.phase = .romWaiting || d.phase = .noStart || d.phase = .integrityFail || d.phase = .lcRepair)

/-- An address of the mailbox. -/
def mbxAddr (a : Nat) : Bool :=
  decide (0x80000000 ≤ a ∧ a < 0x80000008) || decide (0x80000040 ≤ a ∧ a < 0x80000080) || decide (0x80000080 ≤ a ∧ a < 0x800000A0)
    || decide (0x80010000 ≤ a ∧ a < 0x80020000)

/-- STATUS of a window access: 0 OK, 1 ALIGN, 2 NO_ACCESS, 3 BUSY (R284, R285, R356, R369). -/
def windowStatus (d : Dev) (k : Fin 2) (a size : Nat) (write : Bool) : Nat :=
  if !aligned a size then 1
  else if d.phase = .integrityFail then (if !write && otpAddr a then 0 else 2)
  else if d.phase = .lcRepair then (if otpAddr a then 0 else 2)
  else if mbxAddr a then (if write && (d.mbx k).busy then 3 else 0)
  else if 0x4000000 ≤ a ∨ (0x90000 ≤ a ∧ a < 0x94000) then 2
  else 0

/-- Replace bytes of a buffer. -/
def patch (b : Bytes) (at_ : Nat) (x : Bytes) : Bytes := slice b 0 at_ ++ x ++ b.drop (at_ + x.length)

/-- A read of the mailbox (R286). -/
def mbxRead (d : Dev) (k a size : Nat) : Nat :=
  let m := d.mbx k
  if a < 0x80000008 then bits (8 * flag m.busy + 2 ^ 32 * Mbx.taken m) (8 * (a % 8)) (8 * size)
  else if a < 0x80000080 then leAt m.desc (a - 0x80000040) size
  else if a < 0x800000A0 then leAt m.cpl (a - 0x80000080) size
  else leAt m.data (a - 0x80010000) size

/-- A write to the mailbox (R286). -/
def mbxWrite (d : Dev) (k a size v : Nat) : Dev :=
  let m := d.mbx k
  if a < 0x80000008 then
    if a % 8 ≠ 0 then d
    else
      let d1 := if bit v 2 then d.mbxAbort k else d
      let d2 := if bit v 1 then d1.mbxAppend k else d1
      if bit v 0 then d2.mbxGo k else d2
  else if a < 0x80000080 then d.setMbx k { m with desc := patch m.desc (a - 0x80000040) (leBytes size v) }
  else if a < 0x800000A0 then d
  else d.setMbx k { m with data := patch m.data (a - 0x80010000) (leBytes size v) }

/-- STATUS of the latest write transfer. -/
def windowDone (d : Dev) (k : Fin 2) (st : Nat) : Dev := (d.setMbx k { d.mbx k with lastStatus := st }).tally 302 1

/-- A window read (R284, R285): data and STATUS; the data of a read that fails are open, and are free (log entry 3). -/
def windowRead (d : Dev) (k : Fin 2) (whole : Bool) (a size : Nat) : Dev :=
  if !d.windowUp k then d
  else
    let st := if whole then d.windowStatus k a size false else 4
    let r := if st ≠ 0 then (let x := d.drawBytes size; (x.1, x.2))
      else if mbxAddr a then (leBytes size (d.mbxRead k a size), d)
      else (let x := d.readAccess true a size; (leBytes size x.1, x.2))
    (r.2.emit (.i3c k (r.1 ++ leBytes 1 st))).tally 302 1

end Dev

namespace State

/-- One word written through the window, with its STATUS. In LC_REPAIR only OTP.REPAIR_CTL takes a write among the OTP registers (R369). -/
def windowPut (s : State) (k : Fin 2) (a size v : Nat) (good : Bool) : Nat × State :=
  let st := s.dev.windowStatus k a size true
  (st,
    if st ≠ 0 then s
    else if Dev.mbxAddr a then s.onDev fun d => d.mbxWrite k a size v
    else if s.dev.phase = .lcRepair && decide (a < 0x21000) && decide (a / 8 * 8 ≠ 0x20080) then s
    else s.writeAccess true false a size v good)

/-- The words of a block one after another; STATUS is the first that is not OK (DEDUCED, log entry 28). -/
def windowBlock (s : State) (k : Fin 2) (good : Bool) : Nat → List Word → Nat × State
  | _, [] => (0, s)
  | a, w :: r =>
    let x := s.windowPut k a 4 w.toNat good
    let y := windowBlock x.2 k good (a + 4) r
    (if x.1 ≠ 0 then x.1 else y.1, y.2)

/-- A write transfer: of the bytes of Table 08-10, or cut short or over-long, which writes nothing (R284). -/
def windowWrite (s : State) (k : Fin 2) (whole : Bool) (f : State → Nat × State) : State :=
  if !s.dev.windowUp k then s
  else
    let x := if whole then f s else (4, s)
    x.2.onDev fun d => d.windowDone k x.1

end State

/-! ## The TAP (R370, Table 11-6) -/

namespace Dev

/-- Level at which an instruction of the TAP is available: 0 Closed, 1 Diagnostic, 2 Full. -/
def jtagLevel : Jtag → Nat
  | .bypass | .idcode | .sample => 0
  | .readReg _ => 1
  | _ => 2

/-- A register as JTAG reads it, without the key store (Table 11-6). -/
def jtagReg (d : Dev) (a : Nat) : Nat := if 0x48000 ≤ a ∧ a < 0x4C000 then 0 else d.readWord (a / 8 * 8)

/-- Bits that the spec does not lay out, the boundary register and memories among them, are free. -/
def jtagFree (d : Dev) : Dev :=
  let r := d.draw
  r.2.emit (.tdo r.1.toNat)

/-- An instruction of the TAP; EXTEST drives the pins until another instruction takes its place. -/
def jtag (d : Dev) (i : Jtag) : Dev :=
  if d.rd DBG_STATE_LEVEL < jtagLevel i then d
  else
    let d1 := { d with dbg := { d.dbg with extest := none } }
    match i with
    | .bypass => d1.emit (.tdo 0)
    | .idcode => d1.emit (.tdo Config.idcode.toNat)
    | .sample => d1.jtagFree
    | .extest v => { d1 with dbg := { d1.dbg with extest := some v.toNat } }
    | .readReg a => d1.emit (.tdo (d1.jtagReg a.toNat))
    | .halt => if d1.phase = .running then { d1 with dbg := { d1.dbg with halted := true } } else d1
    | .resume => { d1 with dbg := { d1.dbg with halted := false } }
    | .step => d1
    | .memory => d1.jtagFree
    | .scan => d1.jtagFree

end Dev

/-! ## Meanings -/

/-- A write to a register by PF0, a VF or the firmware (R11, R70); writes through the I3C window have rows of their own. -/
def execRegisterWrite (port : Port) (a : BitVec 26) (wide : Bool) (v : DWord) (good : Bool) (s : State) : Result :=
  let size := if wide then 8 else 4
  .next (match port with
    | .fn f =>
      if !(s.dev.conditions && s.dev.fnLive f) then s
      else if !(s.dev.fn f).mse then s.onDev fun d => d.emit (.unsupported (.fn f))
      else if aligned a.toNat size then s.writeAccess false false (barAddr f a.toNat) size v.toNat good
      else s
    | .fw => if s.dev.up && aligned a.toNat size then s.writeAccess false true a.toNat size v.toNat good else s
    | .i3c _ => s)

/-- A BAR access that is not an aligned access of 4 or 8 bytes completes with Unsupported Request; in the Crypto range it is a crypto bus
error (R70, R227). -/
def execUnsupportedAccess (f : Fin 256) (a : BitVec 26) (s : State) : Result :=
  act s fun d =>
    if !(d.conditions && d.fnLive f) then d
    else
      let d1 := d.emit (.unsupported (.fn f))
      if !(d.fn f).mse then d1
      else if f = 0 && decide (0x40000 ≤ a.toNat ∧ a.toNat < 0x80000) then d1.busError false else d1

/-- WRITE32 (Table 08-10); `whole` says that the transfer has the bytes of the table. -/
def execWrite32 (k : Fin 2) (whole : Bool) (a v : Word) (good : Bool) (s : State) : Result :=
  .next (s.windowWrite k whole fun s => s.windowPut k a.toNat 4 v.toNat good)

/-- WRITE64. -/
def execWrite64 (k : Fin 2) (whole : Bool) (a : Word) (v : DWord) (good : Bool) (s : State) : Result :=
  .next (s.windowWrite k whole fun s => s.windowPut k a.toNat 8 v.toNat good)

/-- READ32. -/
def execRead32 (k : Fin 2) (whole : Bool) (a : Word) (s : State) : Result := act s fun d => d.windowRead k whole a.toNat 4

/-- READ64. -/
def execRead64 (k : Fin 2) (whole : Bool) (a : Word) (s : State) : Result := act s fun d => d.windowRead k whole a.toNat 8

/-- WRITE_BLOCK of 1 to 64 words. -/
def execWriteBlock (k : Fin 2) (whole : Bool) (a : Word) (ws : List Word) (good : Bool) (s : State) : Result :=
  .next (s.windowWrite k (whole && decide (1 ≤ ws.length ∧ ws.length ≤ 64)) fun s => s.windowBlock k good a.toNat ws)

/-- STATUS of the latest write transfer. -/
def execWindowStatus (k : Fin 2) (s : State) : Result :=
  act s fun d => if d.windowUp k then (d.emit (.i3c k (leBytes 1 (d.mbx k).lastStatus))).tally 302 1 else d

/-- An instruction shifted in through the TAP (R370). -/
def execJtagInstruction (j : Jtag) (s : State) : Result := act s fun d => if d.awake then d.jtag j else d

end Sys2Proof.Machine
end

