-- ==== Sys2Proof/Machine/Dispatch.lean ====
section
/-! DEFINITION. What each command does: one arm per command, each a call of its meaning. -/

namespace Sys2Proof.Machine

def exec (i : Instr) (s : State) : Host.Outcome State Fault Refusal :=
  match i with
  | .powerOnReset straps x => Sys2Proof.Machine.execPowerOnReset straps x s
  | .pwrGoodQualifyingLow ns => Sys2Proof.Machine.execPwrGoodQualifyingLow ns s
  | .deviceReset x b => Sys2Proof.Machine.execDeviceReset x b s
  | .pilotReset => Sys2Proof.Machine.execPilotReset s
  | .pilotStart x => Sys2Proof.Machine.execPilotStart x s
  | .frameTick x => Sys2Proof.Machine.execFrameTick x s
  | .inputLevelChange k => Sys2Proof.Machine.execInputLevelChange k s
  | .inputChatter k => Sys2Proof.Machine.execInputChatter k s
  | .inputStuck k => Sys2Proof.Machine.execInputStuck k s
  | .icChatterClear k => Sys2Proof.Machine.execIcChatterClear k s
  | .frameCntLowRead port => Sys2Proof.Machine.execFrameCntLowRead port s
  | .registerWrite port a wide v good => Sys2Proof.Machine.execRegisterWrite port a wide v good s
  | .unsupportedAccess f a => Sys2Proof.Machine.execUnsupportedAccess f a s
  | .cryptoBusError parity => Sys2Proof.Machine.execCryptoBusError parity s
  | .offAccess port a size write => Sys2Proof.Machine.execOffAccess port a size write s
  | .pilotTaskSubmit id cost total => Sys2Proof.Machine.execPilotTaskSubmit id cost total s
  | .enable c firmware => Sys2Proof.Machine.execEnable c firmware s
  | .disable c => Sys2Proof.Machine.execDisable c s
  | .cellReset c => Sys2Proof.Machine.execCellReset c s
  | .cellCmdUnsupported c => Sys2Proof.Machine.execCellCmdUnsupported c s
  | .domainSwitchClose => Sys2Proof.Machine.execDomainSwitchClose s
  | .startSequenceComplete c x => Sys2Proof.Machine.execStartSequenceComplete c x s
  | .startFail c => Sys2Proof.Machine.execStartFail c s
  | .drainComplete c => Sys2Proof.Machine.execDrainComplete c s
  | .drainLimit c => Sys2Proof.Machine.execDrainLimit c s
  | .dqsRetrain p c pass => Sys2Proof.Machine.execDqsRetrain p c pass s
  | .zqRecalibration p code idle => Sys2Proof.Machine.execZqRecalibration p code idle s
  | .bistRun c => Sys2Proof.Machine.execBistRun c s
  | .bistEnd c misr => Sys2Proof.Machine.execBistEnd c misr s
  | .bistBudgetExpiry c => Sys2Proof.Machine.execBistBudgetExpiry c s
  | .read t a flash ecc => Sys2Proof.Machine.execRead t a flash ecc s
  | .fourByteRead t a flash ecc => Sys2Proof.Machine.execFourByteRead t a flash ecc s
  | .fastRead t a flash ecc => Sys2Proof.Machine.execFastRead t a flash ecc s
  | .fourByteFastRead t a flash ecc => Sys2Proof.Machine.execFourByteFastRead t a flash ecc s
  | .quadOutputRead t a flash ecc => Sys2Proof.Machine.execQuadOutputRead t a flash ecc s
  | .fourByteQuadOutputRead t a flash ecc => Sys2Proof.Machine.execFourByteQuadOutputRead t a flash ecc s
  | .quadIoRead t a m flash ecc => Sys2Proof.Machine.execQuadIoRead t a m flash ecc s
  | .fourByteQuadIoRead t a m flash ecc => Sys2Proof.Machine.execFourByteQuadIoRead t a m flash ecc s
  | .dtrQuadIoRead t a m flash ecc => Sys2Proof.Machine.execDtrQuadIoRead t a m flash ecc s
  | .octalDtrRead t a m flash ecc => Sys2Proof.Machine.execOctalDtrRead t a m flash ecc s
  | .continuousRead t a m flash ecc => Sys2Proof.Machine.execContinuousRead t a m flash ecc s
  | .pageProgram t a data => Sys2Proof.Machine.execPageProgram t a data s
  | .fourBytePageProgram t a data => Sys2Proof.Machine.execFourBytePageProgram t a data s
  | .quadInputPageProgram t a data => Sys2Proof.Machine.execQuadInputPageProgram t a data s
  | .fourByteQuadInputPageProgram t a data => Sys2Proof.Machine.execFourByteQuadInputPageProgram t a data s
  | .quadIoPageProgram t a data => Sys2Proof.Machine.execQuadIoPageProgram t a data s
  | .fourByteQuadIoPageProgram t a data => Sys2Proof.Machine.execFourByteQuadIoPageProgram t a data s
  | .erase4Kib t a => Sys2Proof.Machine.execErase4Kib t a s
  | .fourByteErase4Kib t a => Sys2Proof.Machine.execFourByteErase4Kib t a s
  | .erase32Kib t a => Sys2Proof.Machine.execErase32Kib t a s
  | .fourByteErase32Kib t a => Sys2Proof.Machine.execFourByteErase32Kib t a s
  | .erase64Kib t a => Sys2Proof.Machine.execErase64Kib t a s
  | .fourByteErase64Kib t a => Sys2Proof.Machine.execFourByteErase64Kib t a s
  | .chipErase t => Sys2Proof.Machine.execChipErase t s
  | .chipEraseC7 t => Sys2Proof.Machine.execChipEraseC7 t s
  | .readStatusRegister t len => Sys2Proof.Machine.execReadStatusRegister t len s
  | .readFlagStatusRegister t len => Sys2Proof.Machine.execReadFlagStatusRegister t len s
  | .clearFlagStatusRegister t => Sys2Proof.Machine.execClearFlagStatusRegister t s
  | .writeEnable t => Sys2Proof.Machine.execWriteEnable t s
  | .writeDisable t => Sys2Proof.Machine.execWriteDisable t s
  | .readId t len => Sys2Proof.Machine.execReadId t len s
  | .readSfdp t a len => Sys2Proof.Machine.execReadSfdp t a len s
  | .setBurstWithWrap t data => Sys2Proof.Machine.execSetBurstWithWrap t data s
  | .resetEnable t => Sys2Proof.Machine.execResetEnable t s
  | .reset t => Sys2Proof.Machine.execReset t s
  | .enter4ByteAddressMode t => Sys2Proof.Machine.execEnter4ByteAddressMode t s
  | .exit4ByteAddressMode t => Sys2Proof.Machine.execExit4ByteAddressMode t s
  | .writeStatusRegister t a data => Sys2Proof.Machine.execWriteStatusRegister t a data s
  | .writeVolatileConfigurationRegister t a data => Sys2Proof.Machine.execWriteVolatileConfigurationRegister t a data s
  | .writeStatusRegister2 t data => Sys2Proof.Machine.execWriteStatusRegister2 t data s
  | .writeNonvolatileConfigRegister t a data => Sys2Proof.Machine.execWriteNonvolatileConfigRegister t a data s
  | .programSecurityRegisters t a data => Sys2Proof.Machine.execProgramSecurityRegisters t a data s
  | .eraseSecurityRegisters t a => Sys2Proof.Machine.execEraseSecurityRegisters t a s
  | .modeSwitch t a data => Sys2Proof.Machine.execModeSwitch t a data s
  | .unsupportedOpcode t opc => Sys2Proof.Machine.execUnsupportedOpcode t opc s
  | .downstreamOpComplete n failed => Sys2Proof.Machine.execDownstreamOpComplete n failed s
  | .dnTimeout n => Sys2Proof.Machine.execDnTimeout n s
  | .completionFetch n e b => Sys2Proof.Machine.execCompletionFetch n e b s
  | .checkResult n e => Sys2Proof.Machine.execCheckResult n e s
  | .horizonExpiry n e => Sys2Proof.Machine.execHorizonExpiry n e s
  | .containmentReleaseFall n csHigh => Sys2Proof.Machine.execContainmentReleaseFall n csHigh s
  | .containedThawRequest n => Sys2Proof.Machine.execContainedThawRequest n s
  | .verifyStreamRead n b => Sys2Proof.Machine.execVerifyStreamRead n b s
  | .pinFetch n b => Sys2Proof.Machine.execPinFetch n b s
  | .refetch n g b => Sys2Proof.Machine.execRefetch n g b s
  | .prefetchComplete n g b => Sys2Proof.Machine.execPrefetchComplete n g b s
  | .goldenAudit n => Sys2Proof.Machine.execGoldenAudit n s
  | .startTick oxms => Sys2Proof.Machine.execStartTick oxms s
  | .componentRelease n => Sys2Proof.Machine.execComponentRelease n s
  | .minHoldExpiry n => Sys2Proof.Machine.execMinHoldExpiry n s
  | .thawPassEnd n units erase64 flash stored => Sys2Proof.Machine.execThawPassEnd n units erase64 flash stored s
  | .revocationExamination => Sys2Proof.Machine.execRevocationExamination s
  | .compHold x => Sys2Proof.Machine.execCompHold x s
  | .compRelease x => Sys2Proof.Machine.execCompRelease x s
  | .compReverify x flash => Sys2Proof.Machine.execCompReverify x flash s
  | .compThaw x => Sys2Proof.Machine.execCompThaw x s
  | .compImageWrite x oxm => Sys2Proof.Machine.execCompImageWrite x oxm s
  | .imageWriteComplete n erase64 units sectors flash => Sys2Proof.Machine.execImageWriteComplete n erase64 units sectors flash s
  | .compSvnCommit x => Sys2Proof.Machine.execCompSvnCommit x s
  | .compForceRelease x => Sys2Proof.Machine.execCompForceRelease x s
  | .policyLoad x oxms => Sys2Proof.Machine.execPolicyLoad x oxms s
  | .policyRead x => Sys2Proof.Machine.execPolicyRead x s
  | .policyStore good => Sys2Proof.Machine.execPolicyStore good s
  | .policySwap n flash => Sys2Proof.Machine.execPolicySwap n flash s
  | .disagreeHold p => Sys2Proof.Machine.execDisagreeHold p s
  | .digest x expect => Sys2Proof.Machine.execDigest x expect s
  | .digestInit x => Sys2Proof.Machine.execDigestInit x s
  | .digestUpdate x => Sys2Proof.Machine.execDigestUpdate x s
  | .digestFinal x expect => Sys2Proof.Machine.execDigestFinal x expect s
  | .ctxExport x => Sys2Proof.Machine.execCtxExport x s
  | .ctxImport x => Sys2Proof.Machine.execCtxImport x s
  | .ctxDestroy x => Sys2Proof.Machine.execCtxDestroy x s
  | .contextAutoImport h record => Sys2Proof.Machine.execContextAutoImport h record s
  | .noContextTimeout h => Sys2Proof.Machine.execNoContextTimeout h s
  | .kdf x => Sys2Proof.Machine.execKdf x s
  | .ksGenerate x pairwise => Sys2Proof.Machine.execKsGenerate x pairwise s
  | .ksUnwrap x => Sys2Proof.Machine.execKsUnwrap x s
  | .ksWrap x => Sys2Proof.Machine.execKsWrap x s
  | .ksErase x => Sys2Proof.Machine.execKsErase x s
  | .ksAssign x => Sys2Proof.Machine.execKsAssign x s
  | .keyLoad => Sys2Proof.Machine.execKeyLoad s
  | .aesGcmEnc x => Sys2Proof.Machine.execAesGcmEnc x s
  | .aesGcmDec x => Sys2Proof.Machine.execAesGcmDec x s
  | .sigSign x => Sys2Proof.Machine.execSigSign x s
  | .sigVerify x pk sig => Sys2Proof.Machine.execSigVerify x pk sig s
  | .rngGet x => Sys2Proof.Machine.execRngGet x s
  | .cryptoSelftest x failed => Sys2Proof.Machine.execCryptoSelftest x failed s
  | .operationComplete r => Sys2Proof.Machine.execOperationComplete r s
  | .squallSelftestDone failed => Sys2Proof.Machine.execSquallSelftestDone failed s
  | .clockVoltageExcursion kind => Sys2Proof.Machine.execClockVoltageExcursion kind s
  | .rngHealthFail apt => Sys2Proof.Machine.execRngHealthFail apt s
  | .drbgReseed => Sys2Proof.Machine.execDrbgReseed s
  | .functionEnable f => Sys2Proof.Machine.execFunctionEnable f s
  | .functionDisable f => Sys2Proof.Machine.execFunctionDisable f s
  | .ringEnable f entry line failAddr => Sys2Proof.Machine.execRingEnable f entry line failAddr s
  | .ringDisable f => Sys2Proof.Machine.execRingDisable f s
  | .ringDrainComplete f r => Sys2Proof.Machine.execRingDrainComplete f r s
  | .fnKick f => Sys2Proof.Machine.execFnKick f s
  | .functionDrowsy x => Sys2Proof.Machine.execFunctionDrowsy x s
  | .drowsyScan f dbSeq => Sys2Proof.Machine.execDrowsyScan f dbSeq s
  | .flr f => Sys2Proof.Machine.execFlr f s
  | .busMasterEnableChange f bme mse msix mask => Sys2Proof.Machine.execBusMasterEnableChange f bme mse msix mask s
  | .msixUnmask f v => Sys2Proof.Machine.execMsixUnmask f v s
  | .hostMemory f what addr => Sys2Proof.Machine.execHostMemory f what addr s
  | .perstNAssert => Sys2Proof.Machine.execPerstNAssert s
  | .perstNRelease => Sys2Proof.Machine.execPerstNRelease s
  | .nop x => Sys2Proof.Machine.execNop x s
  | .write32 k whole a v good => Sys2Proof.Machine.execWrite32 k whole a v good s
  | .write64 k whole a v good => Sys2Proof.Machine.execWrite64 k whole a v good s
  | .read32 k whole a => Sys2Proof.Machine.execRead32 k whole a s
  | .read64 k whole a => Sys2Proof.Machine.execRead64 k whole a s
  | .writeBlock k whole a ws good => Sys2Proof.Machine.execWriteBlock k whole a ws good s
  | .windowStatus k => Sys2Proof.Machine.execWindowStatus k s
  | .mbxAppend k => Sys2Proof.Machine.execMbxAppend k s
  | .mbxGo k => Sys2Proof.Machine.execMbxGo k s
  | .mbxAbort k => Sys2Proof.Machine.execMbxAbort k s
  | .mctpMessage e type length inSequence => Sys2Proof.Machine.execMctpMessage e type length inSequence s
  | .setEndpointId e eid => Sys2Proof.Machine.execSetEndpointId e eid s
  | .getVersion e sess h => Sys2Proof.Machine.execGetVersion e sess h s
  | .getCapabilities e sess h transfer => Sys2Proof.Machine.execGetCapabilities e sess h transfer s
  | .negotiateAlgorithms e sess h offers => Sys2Proof.Machine.execNegotiateAlgorithms e sess h offers s
  | .getDigests e sess h late => Sys2Proof.Machine.execGetDigests e sess h late s
  | .getCertificate e sess h slot offset len late => Sys2Proof.Machine.execGetCertificate e sess h slot offset len late s
  | .challenge e sess h slot type late => Sys2Proof.Machine.execChallenge e sess h slot type late s
  | .getMeasurements e sess h index signed late nonce => Sys2Proof.Machine.execGetMeasurements e sess h index signed late nonce s
  | .keyExchange e sess h type late => Sys2Proof.Machine.execKeyExchange e sess h type late s
  | .finish e sess h verified late => Sys2Proof.Machine.execFinish e sess h verified late s
  | .endSession e sess h => Sys2Proof.Machine.execEndSession e sess h s
  | .respondIfReady e sess h ready => Sys2Proof.Machine.execRespondIfReady e sess h ready s
  | .chunkSend e sess h handle seq last large size data => Sys2Proof.Machine.execChunkSend e sess h handle seq last large size data s
  | .chunkGet e sess h handle seq => Sys2Proof.Machine.execChunkGet e sess h handle seq s
  | .unsupportedRequest e sess h => Sys2Proof.Machine.execUnsupportedRequest e sess h s
  | .sessionTimeout e id => Sys2Proof.Machine.execSessionTimeout e id s
  | .chunkTimeout e => Sys2Proof.Machine.execChunkTimeout e s
  | .measReport x => Sys2Proof.Machine.execMeasReport x s
  | .measRead x => Sys2Proof.Machine.execMeasRead x s
  | .certChainRead x => Sys2Proof.Machine.execCertChainRead x s
  | .fwUpdate x copied written => Sys2Proof.Machine.execFwUpdate x copied written s
  | .fwStatus x => Sys2Proof.Machine.execFwStatus x s
  | .healthConfirm home => Sys2Proof.Machine.execHealthConfirm home s
  | .healthWindowEnd => Sys2Proof.Machine.execHealthWindowEnd s
  | .settingsSave => Sys2Proof.Machine.execSettingsSave s
  | .recStart => Sys2Proof.Machine.execRecStart s
  | .recPush len => Sys2Proof.Machine.execRecPush len s
  | .recFinish written => Sys2Proof.Machine.execRecFinish written s
  | .recAbort => Sys2Proof.Machine.execRecAbort s
  | .recoverySourceTimeout => Sys2Proof.Machine.execRecoverySourceTimeout s
  | .bootSourceRetry => Sys2Proof.Machine.execBootSourceRetry s
  | .relayData r f written => Sys2Proof.Machine.execRelayData r f written s
  | .relayAck r ack => Sys2Proof.Machine.execRelayAck r ack s
  | .relayNak r seq chunk => Sys2Proof.Machine.execRelayNak r seq chunk s
  | .relayTime r t1 t2 t3 t4 err => Sys2Proof.Machine.execRelayTime r t1 t2 t3 t4 err s
  | .relayControl r f => Sys2Proof.Machine.execRelayControl r f s
  | .relayRecover r f => Sys2Proof.Machine.execRelayRecover r f s
  | .relayRetransmit r => Sys2Proof.Machine.execRelayRetransmit r s
  | .relayLinkChange r link peer position units => Sys2Proof.Machine.execRelayLinkChange r link peer position units s
  | .timeExchange => Sys2Proof.Machine.execTimeExchange s
  | .frontLaunch x => Sys2Proof.Machine.execFrontLaunch x s
  | .frontStatus x => Sys2Proof.Machine.execFrontStatus x s
  | .frontManifest l => Sys2Proof.Machine.execFrontManifest l s
  | .frontChunk good oxms => Sys2Proof.Machine.execFrontChunk good oxms s
  | .armed k => Sys2Proof.Machine.execArmed k s
  | .armedEvaluation => Sys2Proof.Machine.execArmedEvaluation s
  | .commit => Sys2Proof.Machine.execCommit s
  | .landfall => Sys2Proof.Machine.execLandfall s
  | .landed k => Sys2Proof.Machine.execLanded k s
  | .notHealthy k => Sys2Proof.Machine.execNotHealthy k s
  | .aborted k st => Sys2Proof.Machine.execAborted k st s
  | .landedDeadline => Sys2Proof.Machine.execLandedDeadline s
  | .settled => Sys2Proof.Machine.execSettled s
  | .abort st => Sys2Proof.Machine.execAbort st s
  | .fellBack k => Sys2Proof.Machine.execFellBack k s
  | .catchUp good => Sys2Proof.Machine.execCatchUp good s
  | .otpRead x => Sys2Proof.Machine.execOtpRead x s
  | .otpProgram x => Sys2Proof.Machine.execOtpProgram x s
  | .otpReburn x => Sys2Proof.Machine.execOtpReburn x s
  | .otpLock x => Sys2Proof.Machine.execOtpLock x s
  | .keyRevoke x => Sys2Proof.Machine.execKeyRevoke x s
  | .lcTransition x => Sys2Proof.Machine.execLcTransition x s
  | .debugChallenge x => Sys2Proof.Machine.execDebugChallenge x s
  | .debugResponse x => Sys2Proof.Machine.execDebugResponse x s
  | .challengeExpiry => Sys2Proof.Machine.execChallengeExpiry s
  | .zeroise x => Sys2Proof.Machine.execZeroise x s
  | .otpRecheck hi lo => Sys2Proof.Machine.execOtpRecheck hi lo s
  | .repairRetry => Sys2Proof.Machine.execRepairRetry s
  | .lcRepairRetry => Sys2Proof.Machine.execLcRepairRetry s
  | .repairCtlGo => Sys2Proof.Machine.execRepairCtlGo s
  | .wdtArm => Sys2Proof.Machine.execWdtArm s
  | .wdtService => Sys2Proof.Machine.execWdtService s
  | .wdtCheckin t => Sys2Proof.Machine.execWdtCheckin t s
  | .wdtWindowClose => Sys2Proof.Machine.execWdtWindowClose s
  | .wdtHardTimer => Sys2Proof.Machine.execWdtHardTimer s
  | .barographWrite good => Sys2Proof.Machine.execBarographWrite good s
  | .baroRead x => Sys2Proof.Machine.execBaroRead x s
  | .baroClear x good => Sys2Proof.Machine.execBaroClear x good s
  | .opSecondsAdvance => Sys2Proof.Machine.execOpSecondsAdvance s
  | .cntConfig x => Sys2Proof.Machine.execCntConfig x s
  | .cntSnapshot x => Sys2Proof.Machine.execCntSnapshot x s
  | .snapshotTake => Sys2Proof.Machine.execSnapshotTake s
  | .pairBind x => Sys2Proof.Machine.execPairBind x s
  | .vaultStatus x => Sys2Proof.Machine.execVaultStatus x s
  | .standbyReturn x good => Sys2Proof.Machine.execStandbyReturn x good s
  | .checkpointWrite good => Sys2Proof.Machine.execCheckpointWrite good s
  | .dirtyMark => Sys2Proof.Machine.execDirtyMark s
  | .heartbeatToggle => Sys2Proof.Machine.execHeartbeatToggle s
  | .releaseTristate => Sys2Proof.Machine.execReleaseTristate s
  | .returningEnd => Sys2Proof.Machine.execReturningEnd s
  | .takeoverReleaseSample levels rec newer => Sys2Proof.Machine.execTakeoverReleaseSample levels rec newer s
  | .takingComplete => Sys2Proof.Machine.execTakingComplete s
  | .takeoverHoldClear n => Sys2Proof.Machine.execTakeoverHoldClear n s
  | .drizzleEnter x good => Sys2Proof.Machine.execDrizzleEnter x good s
  | .drizzleExit => Sys2Proof.Machine.execDrizzleExit s
  | .governorStepDown => Sys2Proof.Machine.execGovernorStepDown s
  | .currentWarn => Sys2Proof.Machine.execCurrentWarn s
  | .thermalShutdown => Sys2Proof.Machine.execThermalShutdown s
  | .calCommit written => Sys2Proof.Machine.execCalCommit written s
  | .jtagInstruction j => Sys2Proof.Machine.execJtagInstruction j s
  | .relayBadCrc r seq => Sys2Proof.Machine.execRelayBadCrc r seq s
  | .entropyStartUpTestDone => Sys2Proof.Machine.execEntropyStartUpTestDone s
  | .powerUpTestsDone failed => Sys2Proof.Machine.execPowerUpTestsDone failed s
  | .thermalShutdownHalt => Sys2Proof.Machine.execThermalShutdownHalt s
  | .vfEnableChange en n => Sys2Proof.Machine.execVfEnableChange en n s
  | .otpPulseEnd nrm hi lo => Sys2Proof.Machine.execOtpPulseEnd nrm hi lo s

end Sys2Proof.Machine
end

