-- ==== Sys2Proof/Safety.lean ====
section
/-! DEFINITION. What counts as a safe run, and the invariants in whose terms claims speak. -/

namespace Sys2Proof.Machine

open Reg

/-- The block goes on: the step answers a next state. -/
def Goes (s : State) : Prop := ∃ t, step s = .next t

/-- A run of n steps meets no fault and no refusal. -/
def SafeFor : Nat → State → Prop
  | 0, _ => True
  | n + 1, s => ∃ t, step s = .next t ∧ SafeFor n t

/-- A command has its effect: it answers a next state of which P holds. -/
def Completes (c : Instr) (s : State) (P : State → Prop) : Prop := ∃ t, exec c s = .next t ∧ P t

/-- A descriptor is taken up under an opcode: its issuer presents it and may issue it, none of the refusals of R269, R274 and R275 applies, and nothing
makes it wait. -/
abbrev Taken (x : Desc) (o : Nat) (s : State) : Prop := (s.dev.takeUp x o true).1 = true

/-- The device as the body of a command that has been taken up finds it. -/
def found (x : Desc) (o : Nat) (s : State) : Dev := (s.dev.takeUp x o true).2

/-- The operation of a descriptor has been entered, with this answer or with none yet (R273). -/
abbrev Answered (x : Desc) (o : Nat) (st : Option Status) (t : State) : Prop :=
  ∃ p ∈ t.dev.ops, p.ref = x.ref ∧ p.opcode = o ∧ p.tag = x.tag ∧ p.status = st

/-- The operation of a descriptor has been entered, and this holds of it. -/
abbrev Gives (x : Desc) (o : Nat) (t : State) (P : Op → Prop) : Prop := ∃ p ∈ t.dev.ops, p.ref = x.ref ∧ p.opcode = o ∧ p.tag = x.tag ∧ P p

/-- A component command is taken up on a component 0 to 95 while the device owns the ports (R202, R413). -/
abbrev CompTaken (x : Desc) (o : Nat) (s : State) : Prop := Taken x o s ∧ x.comp < 96 ∧ (found x o s).ownsPorts = true

/-- A component command answers a status and changes no component. -/
def CompRefused (x : Desc) (o : Nat) (st : Status) (s t : State) : Prop :=
  Answered x o (some st) t ∧ t.dev.comps = (found x o s).comps ∧ t.dev.gcs = (found x o s).gcs ∧ t.home = s.home ∧ t.otp = s.otp

/-- A command of the Crypto complex is taken up, and the complex is not in ERROR (R244). -/
abbrev CryptoTaken (x : Desc) (o : Nat) (s : State) : Prop := Taken x o s ∧ (found x o s).rd CR_STATE ≠ 3

/-- An upstream port takes a command by its opcode: it responds (R76), continuous read is not armed (R81), the extension byte matches
(R78), it is no mode switch (R77), the command is listed for the present mode (R82), engine B does not differ (R141), and no
background read is ended (R101). -/
abbrev UpReady (d : Dev) (t : UpTx) (opc : Nat) (modes : List Nat) : Prop :=
  d.awake = true ∧ d.ownsPorts = true ∧ d.on (COMP_STATUS_RELEASE t.gc) = true ∧ d.on (UP_STATE_CONT (t.gc / 2) (t.gc % 2)) = false
    ∧ (5 ≤ d.upMode t.gc → d.extOk t.gc (BitVec.ofNat 8 opc) t.ext = true)
    ∧ (d.switchArmed t.gc && opc = d.rd (UP_CFG_MODE_SW_OPC (t.gc / 2) (t.gc % 2))) = false
    ∧ d.upMode t.gc ∈ modes ∧ t.decB = none ∧ t.bgBusy = false

/-- Addresses of a chip select that all lie in regions served as OPEN, with nothing poisoned and WIP 0 (R129, R201). -/
def OpenServed (d : Dev) (n : Nat) (addrs : List Nat) : Prop :=
  (d.gc n).poisoned = false ∧ d.on (UP_STATE_WIP (n / 2) (n % 2)) = false
    ∧ ∃ e, (d.gc n).entry = some e ∧ ∀ a ∈ addrs, (e.region a).isSome = true ∧ d.classAt n a = 2

/-- Some word among the steps of a burn has a bit left to pulse (R355, R358). -/
def unburned (s : State) (l : List BurnStep) : Bool := l.any fun b => match b with
  | .word w v st => decide (s.missingBits w v st ≠ 0)
  | .act _ => false

/-- One burn is under way, in a pulse, for this requester. -/
def Burning (r : Option OpRef) (t : State) : Prop := ∃ b, t.dev.otpx.burns = [b] ∧ b.requester = r ∧ b.pulse.isSome = true

/-- HOME is in its canonical form: addresses rise, and no byte is listed that reads as an erased one does. -/
def HomeCanonical (s : State) : Prop := SMap.wf (fun _ => (0xFF : Byte)) s.home = true

/-- Every OTP bit that read 1 at the normal level still does (R354). -/
def OtpRises (s t : State) : Prop := ∀ w i, bit (s.word w).normal i = true → bit (t.word w).normal i = true

/-- What reads 1 at a stricter reference level reads 1 at the others (R351). -/
def OtpOrdered (s : State) : Prop :=
  ∀ w i, (bit (s.word w).high i = true → bit (s.word w).normal i = true) ∧ (bit (s.word w).normal i = true → bit (s.word w).low i = true)

end Sys2Proof.Machine
end

