-- ==== Sys2Proof/WellFormed.lean ====
section
/-! DEFINITION. Well-formed commands: what the outside can bring. Each check says that a number fits the field or bus it arrives on, or that a
string of bytes has the length of what carries it; a meaning is total all the same. -/

namespace Sys2Proof.Machine

/-- The host names a ring of 256 and an SQ index of 16 bits (R260, Table 08-7). -/
def OpRef.wf (r : OpRef) : Bool := decide (r.ring < 256 ∧ r.index < 65536)

/-- What a requester issues: an address of 64 bits whose read fails, lists of at most 256 entries of 32-bit length once they are not too
long (R268, R269). -/
def Desc.wf (x : Desc) : Bool :=
  x.ref.wf && x.failAddr.all (fun a => decide (a < 2 ^ 64)) && decide (x.gather.length ≤ 257 ∧ x.scatter.length ≤ 257)
    && decide (x.src.length ≤ 256 * (2 ^ 32 - 1))

/-- A ring, and where one is named an SQ index (R275). -/
def HostRead.wf : HostRead → Bool
  | .fetch r => decide (r < 256)
  | .data r i => decide (r < 256 ∧ i < 65536)

/-- A training reads each of 64 taps once (R106); tests 7 to 9 are bits of Table 07-9. -/
def StartIn.wf (x : StartIn) : Bool :=
  x.taps0.all (fun t => decide (t < 64)) && x.taps1.all (fun t => decide (t < 64)) && decide (x.kat < 1024)

/-- The fields of Table 10-8: a payload of at most 1,004 bytes. -/
def RFrame.wf (f : RFrame) : Bool :=
  decide (f.type < 256 ∧ f.flags < 256 ∧ f.seq < 65536 ∧ f.ack < 65536)
    && decide (f.src < 256 ∧ f.dst < 256 ∧ f.xfer < 65536 ∧ f.payload.length ≤ 1004)

/-- Eight thermal sensors, and readings that fit MON.IMON and MON.VCORE (R443, R444). -/
def Monitors.wf (m : Monitors) : Bool := decide (m.sensors.length = 8 ∧ m.imon < 65536 ∧ m.vcore < 65536)

/-- What the boot ROM reads of the monitors. -/
def BootIn.wf (x : BootIn) : Bool := x.mon.wf

/-- A granule of a 256 MiB space, a line of its frame, and one of 12,288 frames (R151, R155). -/
def EccHit.wf (x : EccHit) : Bool := decide (x.granule < 131072 ∧ x.line < 128 ∧ x.index < 12288)

/-- A group line is scanned once (R264, R265). -/
def Scan.wf (x : Scan) : Bool := decide (x.lines.map Prod.fst).Nodup

/-- A frame brings readings that fit, one scan of a function, and what a scrub of eight lines can find (R155, R265). -/
def TickIn.wf (x : TickIn) : Bool :=
  x.mon.wf && x.scans.all Scan.wf && decide (x.scans.map fun s => s.f).Nodup && decide (x.ecc.length ≤ 8)
    && x.strays.all Desc.wf

end Sys2Proof.Machine

namespace Sys2Proof

open Machine


namespace Instr

/-- The command is well formed: each of its operands is one that the outside can bring. -/
def wf : Instr → Bool
  | .powerOnReset _ x => x.wf
  | .pwrGoodQualifyingLow _ => true
  | .deviceReset x b => x.all Desc.wf && b.wf
  | .pilotReset => true
  | .pilotStart _ => true
  | .frameTick x => x.wf
  | .inputLevelChange _ => true
  | .inputChatter _ => true
  | .inputStuck _ => true
  | .icChatterClear _ => true
  | .frameCntLowRead _ => true
  | .registerWrite _ _ _ _ _ => true
  | .unsupportedAccess _ _ => true
  | .cryptoBusError _ => true
  | .offAccess _ a size _ => decide (a < 2 ^ 26) && decide (size = 4 ∨ size = 8)
  | .pilotTaskSubmit _ _ _ => true
  | .enable _ _ => true
  | .disable _ => true
  | .cellReset _ => true
  | .cellCmdUnsupported _ => true
  | .domainSwitchClose => true
  | .startSequenceComplete _ x => x.wf
  | .startFail _ => true
  | .drainComplete _ => true
  | .drainLimit _ => true
  | .dqsRetrain _ _ _ => true
  | .zqRecalibration _ _ _ => true
  | .bistRun _ => true
  | .bistEnd _ _ => true
  | .bistBudgetExpiry _ => true
  | .read _ _ _ ecc => ecc.all EccHit.wf
  | .fourByteRead _ _ _ ecc => ecc.all EccHit.wf
  | .fastRead _ _ _ ecc => ecc.all EccHit.wf
  | .fourByteFastRead _ _ _ ecc => ecc.all EccHit.wf
  | .quadOutputRead _ _ _ ecc => ecc.all EccHit.wf
  | .fourByteQuadOutputRead _ _ _ ecc => ecc.all EccHit.wf
  | .quadIoRead _ _ _ _ ecc => ecc.all EccHit.wf
  | .fourByteQuadIoRead _ _ _ _ ecc => ecc.all EccHit.wf
  | .dtrQuadIoRead _ _ _ _ ecc => ecc.all EccHit.wf
  | .octalDtrRead _ _ _ _ ecc => ecc.all EccHit.wf
  | .continuousRead _ _ _ _ ecc => ecc.all EccHit.wf
  | .pageProgram _ _ _ => true
  | .fourBytePageProgram _ _ _ => true
  | .quadInputPageProgram _ _ _ => true
  | .fourByteQuadInputPageProgram _ _ _ => true
  | .quadIoPageProgram _ _ _ => true
  | .fourByteQuadIoPageProgram _ _ _ => true
  | .erase4Kib _ _ => true
  | .fourByteErase4Kib _ _ => true
  | .erase32Kib _ _ => true
  | .fourByteErase32Kib _ _ => true
  | .erase64Kib _ _ => true
  | .fourByteErase64Kib _ _ => true
  | .chipErase _ => true
  | .chipEraseC7 _ => true
  | .readStatusRegister _ _ => true
  | .readFlagStatusRegister _ _ => true
  | .clearFlagStatusRegister _ => true
  | .writeEnable _ => true
  | .writeDisable _ => true
  | .readId _ _ => true
  | .readSfdp _ _ _ => true
  | .setBurstWithWrap _ _ => true
  | .resetEnable _ => true
  | .reset _ => true
  | .enter4ByteAddressMode _ => true
  | .exit4ByteAddressMode _ => true
  | .writeStatusRegister _ _ _ => true
  | .writeVolatileConfigurationRegister _ _ _ => true
  | .writeStatusRegister2 _ _ => true
  | .writeNonvolatileConfigRegister _ _ _ => true
  | .programSecurityRegisters _ _ _ => true
  | .eraseSecurityRegisters _ _ => true
  | .modeSwitch _ _ _ => true
  | .unsupportedOpcode _ _ => true
  | .downstreamOpComplete _ _ => true
  | .dnTimeout _ => true
  | .completionFetch _ _ b => decide (b.length ≤ 2048)
  | .checkResult _ _ => true
  | .horizonExpiry _ _ => true
  | .containmentReleaseFall _ _ => true
  | .containedThawRequest _ => true
  | .verifyStreamRead _ b => decide (b.length ≤ 2048)
  | .pinFetch _ b => decide (b.length ≤ 2048)
  | .refetch _ _ b => decide (b.length ≤ 2048)
  | .prefetchComplete _ _ b => decide (b.length ≤ 2048)
  | .goldenAudit _ => true
  | .startTick _ => true
  | .componentRelease _ => true
  | .minHoldExpiry _ => true
  | .thawPassEnd _ _ _ _ _ => true
  | .revocationExamination => true
  | .compHold x => x.wf
  | .compRelease x => x.wf
  | .compReverify x _ => x.wf
  | .compThaw x => x.wf
  | .compImageWrite x oxm => x.wf && decide (oxm.length < 2 ^ 32)
  | .imageWriteComplete _ _ _ _ _ => true
  | .compSvnCommit x => x.wf
  | .compForceRelease x => x.wf
  | .policyLoad x _ => x.wf
  | .policyRead x => x.wf
  | .policyStore _ => true
  | .policySwap _ _ => true
  | .disagreeHold _ => true
  | .digest x expect => x.wf && decide (expect.length < 128)
  | .digestInit x => x.wf
  | .digestUpdate x => x.wf
  | .digestFinal x expect => x.wf && decide (expect.length < 128)
  | .ctxExport x => x.wf
  | .ctxImport x => x.wf
  | .ctxDestroy x => x.wf
  | .contextAutoImport _ record => decide (record.length = 512)
  | .noContextTimeout _ => true
  | .kdf x => x.wf
  | .ksGenerate x _ => x.wf
  | .ksUnwrap x => x.wf
  | .ksWrap x => x.wf
  | .ksErase x => x.wf
  | .ksAssign x => x.wf
  | .keyLoad => true
  | .aesGcmEnc x => x.wf
  | .aesGcmDec x => x.wf
  | .sigSign x => x.wf
  | .sigVerify x pk sig => x.wf && decide (pk.length < 65536) && decide (sig.length < 2 ^ 32)
  | .rngGet x => x.wf
  | .cryptoSelftest x _ => x.wf
  | .operationComplete r => r.wf
  | .squallSelftestDone _ => true
  | .clockVoltageExcursion _ => true
  | .rngHealthFail _ => true
  | .drbgReseed => true
  | .functionEnable _ => true
  | .functionDisable _ => true
  | .ringEnable _ _ _ _ => true
  | .ringDisable _ => true
  | .ringDrainComplete _ _ => true
  | .fnKick _ => true
  | .functionDrowsy x => x.wf
  | .drowsyScan _ _ => true
  | .flr _ => true
  | .busMasterEnableChange _ _ _ _ _ => true
  | .msixUnmask _ _ => true
  | .hostMemory _ what _ => what.wf
  | .perstNAssert => true
  | .perstNRelease => true
  | .nop x => x.wf
  | .write32 _ _ _ _ _ => true
  | .write64 _ _ _ _ _ => true
  | .read32 _ _ _ => true
  | .read64 _ _ _ => true
  | .writeBlock _ _ _ _ _ => true
  | .windowStatus _ => true
  | .mbxAppend _ => true
  | .mbxGo _ => true
  | .mbxAbort _ => true
  | .mctpMessage _ _ length _ => decide (0 < length)
  | .setEndpointId _ _ => true
  | .getVersion _ _ _ => true
  | .getCapabilities _ _ _ _ => true
  | .negotiateAlgorithms _ _ _ _ => true
  | .getDigests _ _ _ _ => true
  | .getCertificate _ _ _ _ _ _ _ => true
  | .challenge _ _ _ _ _ _ => true
  | .getMeasurements _ _ _ _ _ _ nonce => decide (nonce.length = 0 ∨ nonce.length = 32)
  | .keyExchange _ _ _ _ _ => true
  | .finish _ _ _ _ _ => true
  | .endSession _ _ _ => true
  | .respondIfReady _ _ _ _ => true
  | .chunkSend _ _ _ _ _ _ _ _ _ => true
  | .chunkGet _ _ _ _ _ => true
  | .unsupportedRequest _ _ _ => true
  | .sessionTimeout _ _ => true
  | .chunkTimeout _ => true
  | .measReport x => x.wf
  | .measRead x => x.wf
  | .certChainRead x => x.wf
  | .fwUpdate x _ _ => x.wf
  | .fwStatus x => x.wf
  | .healthConfirm _ => true
  | .healthWindowEnd => true
  | .settingsSave => true
  | .recStart => true
  | .recPush _ => true
  | .recFinish _ => true
  | .recAbort => true
  | .recoverySourceTimeout => true
  | .bootSourceRetry => true
  | .relayData _ f _ => f.wf
  | .relayAck _ _ => true
  | .relayNak _ _ _ => true
  | .relayTime _ _ _ _ _ _ => true
  | .relayControl _ f => f.wf
  | .relayRecover _ f => f.wf
  | .relayRetransmit _ => true
  | .relayLinkChange _ _ _ _ _ => true
  | .timeExchange => true
  | .frontLaunch x => x.wf
  | .frontStatus x => x.wf
  | .frontManifest _ => true
  | .frontChunk _ _ => true
  | .armed _ => true
  | .armedEvaluation => true
  | .commit => true
  | .landfall => true
  | .landed _ => true
  | .notHealthy _ => true
  | .aborted _ _ => true
  | .landedDeadline => true
  | .settled => true
  | .abort _ => true
  | .fellBack _ => true
  | .catchUp _ => true
  | .otpRead x => x.wf
  | .otpProgram x => x.wf
  | .otpReburn x => x.wf
  | .otpLock x => x.wf
  | .keyRevoke x => x.wf
  | .lcTransition x => x.wf
  | .debugChallenge x => x.wf
  | .debugResponse x => x.wf
  | .challengeExpiry => true
  | .zeroise x => x.wf
  | .otpRecheck _ _ => true
  | .repairRetry => true
  | .lcRepairRetry => true
  | .repairCtlGo => true
  | .wdtArm => true
  | .wdtService => true
  | .wdtCheckin _ => true
  | .wdtWindowClose => true
  | .wdtHardTimer => true
  | .barographWrite _ => true
  | .baroRead x => x.wf
  | .baroClear x _ => x.wf
  | .opSecondsAdvance => true
  | .cntConfig x => x.wf
  | .cntSnapshot x => x.wf
  | .snapshotTake => true
  | .pairBind x => x.wf
  | .vaultStatus x => x.wf
  | .standbyReturn x _ => x.wf
  | .checkpointWrite _ => true
  | .dirtyMark => true
  | .heartbeatToggle => true
  | .releaseTristate => true
  | .returningEnd => true
  | .takeoverReleaseSample _ _ _ => true
  | .takingComplete => true
  | .takeoverHoldClear _ => true
  | .drizzleEnter x _ => x.wf
  | .drizzleExit => true
  | .governorStepDown => true
  | .currentWarn => true
  | .thermalShutdown => true
  | .calCommit _ => true
  | .jtagInstruction _ => true
  | .relayBadCrc _ _ => true
  | .entropyStartUpTestDone => true
  | .powerUpTestsDone _ => true
  | .thermalShutdownHalt => true
  | .vfEnableChange _ _ => true
  | .otpPulseEnd _ _ _ => true

/-- The descriptor that a command brings: those that a requester issues (Table 08-8). -/
def desc : Instr → Option Desc
  | .powerOnReset _ _ => none
  | .pwrGoodQualifyingLow _ => none
  | .deviceReset x _ => x
  | .pilotReset => none
  | .pilotStart _ => none
  | .frameTick _ => none
  | .inputLevelChange _ => none
  | .inputChatter _ => none
  | .inputStuck _ => none
  | .icChatterClear _ => none
  | .frameCntLowRead _ => none
  | .registerWrite _ _ _ _ _ => none
  | .unsupportedAccess _ _ => none
  | .cryptoBusError _ => none
  | .offAccess _ _ _ _ => none
  | .pilotTaskSubmit _ _ _ => none
  | .enable _ _ => none
  | .disable _ => none
  | .cellReset _ => none
  | .cellCmdUnsupported _ => none
  | .domainSwitchClose => none
  | .startSequenceComplete _ _ => none
  | .startFail _ => none
  | .drainComplete _ => none
  | .drainLimit _ => none
  | .dqsRetrain _ _ _ => none
  | .zqRecalibration _ _ _ => none
  | .bistRun _ => none
  | .bistEnd _ _ => none
  | .bistBudgetExpiry _ => none
  | .read _ _ _ _ => none
  | .fourByteRead _ _ _ _ => none
  | .fastRead _ _ _ _ => none
  | .fourByteFastRead _ _ _ _ => none
  | .quadOutputRead _ _ _ _ => none
  | .fourByteQuadOutputRead _ _ _ _ => none
  | .quadIoRead _ _ _ _ _ => none
  | .fourByteQuadIoRead _ _ _ _ _ => none
  | .dtrQuadIoRead _ _ _ _ _ => none
  | .octalDtrRead _ _ _ _ _ => none
  | .continuousRead _ _ _ _ _ => none
  | .pageProgram _ _ _ => none
  | .fourBytePageProgram _ _ _ => none
  | .quadInputPageProgram _ _ _ => none
  | .fourByteQuadInputPageProgram _ _ _ => none
  | .quadIoPageProgram _ _ _ => none
  | .fourByteQuadIoPageProgram _ _ _ => none
  | .erase4Kib _ _ => none
  | .fourByteErase4Kib _ _ => none
  | .erase32Kib _ _ => none
  | .fourByteErase32Kib _ _ => none
  | .erase64Kib _ _ => none
  | .fourByteErase64Kib _ _ => none
  | .chipErase _ => none
  | .chipEraseC7 _ => none
  | .readStatusRegister _ _ => none
  | .readFlagStatusRegister _ _ => none
  | .clearFlagStatusRegister _ => none
  | .writeEnable _ => none
  | .writeDisable _ => none
  | .readId _ _ => none
  | .readSfdp _ _ _ => none
  | .setBurstWithWrap _ _ => none
  | .resetEnable _ => none
  | .reset _ => none
  | .enter4ByteAddressMode _ => none
  | .exit4ByteAddressMode _ => none
  | .writeStatusRegister _ _ _ => none
  | .writeVolatileConfigurationRegister _ _ _ => none
  | .writeStatusRegister2 _ _ => none
  | .writeNonvolatileConfigRegister _ _ _ => none
  | .programSecurityRegisters _ _ _ => none
  | .eraseSecurityRegisters _ _ => none
  | .modeSwitch _ _ _ => none
  | .unsupportedOpcode _ _ => none
  | .downstreamOpComplete _ _ => none
  | .dnTimeout _ => none
  | .completionFetch _ _ _ => none
  | .checkResult _ _ => none
  | .horizonExpiry _ _ => none
  | .containmentReleaseFall _ _ => none
  | .containedThawRequest _ => none
  | .verifyStreamRead _ _ => none
  | .pinFetch _ _ => none
  | .refetch _ _ _ => none
  | .prefetchComplete _ _ _ => none
  | .goldenAudit _ => none
  | .startTick _ => none
  | .componentRelease _ => none
  | .minHoldExpiry _ => none
  | .thawPassEnd _ _ _ _ _ => none
  | .revocationExamination => none
  | .compHold x => some x
  | .compRelease x => some x
  | .compReverify x _ => some x
  | .compThaw x => some x
  | .compImageWrite x _ => some x
  | .imageWriteComplete _ _ _ _ _ => none
  | .compSvnCommit x => some x
  | .compForceRelease x => some x
  | .policyLoad x _ => some x
  | .policyRead x => some x
  | .policyStore _ => none
  | .policySwap _ _ => none
  | .disagreeHold _ => none
  | .digest x _ => some x
  | .digestInit x => some x
  | .digestUpdate x => some x
  | .digestFinal x _ => some x
  | .ctxExport x => some x
  | .ctxImport x => some x
  | .ctxDestroy x => some x
  | .contextAutoImport _ _ => none
  | .noContextTimeout _ => none
  | .kdf x => some x
  | .ksGenerate x _ => some x
  | .ksUnwrap x => some x
  | .ksWrap x => some x
  | .ksErase x => some x
  | .ksAssign x => some x
  | .keyLoad => none
  | .aesGcmEnc x => some x
  | .aesGcmDec x => some x
  | .sigSign x => some x
  | .sigVerify x _ _ => some x
  | .rngGet x => some x
  | .cryptoSelftest x _ => some x
  | .operationComplete _ => none
  | .squallSelftestDone _ => none
  | .clockVoltageExcursion _ => none
  | .rngHealthFail _ => none
  | .drbgReseed => none
  | .functionEnable _ => none
  | .functionDisable _ => none
  | .ringEnable _ _ _ _ => none
  | .ringDisable _ => none
  | .ringDrainComplete _ _ => none
  | .fnKick _ => none
  | .functionDrowsy _ => none
  | .drowsyScan _ _ => none
  | .flr _ => none
  | .busMasterEnableChange _ _ _ _ _ => none
  | .msixUnmask _ _ => none
  | .hostMemory _ _ _ => none
  | .perstNAssert => none
  | .perstNRelease => none
  | .nop x => some x
  | .write32 _ _ _ _ _ => none
  | .write64 _ _ _ _ _ => none
  | .read32 _ _ _ => none
  | .read64 _ _ _ => none
  | .writeBlock _ _ _ _ _ => none
  | .windowStatus _ => none
  | .mbxAppend _ => none
  | .mbxGo _ => none
  | .mbxAbort _ => none
  | .mctpMessage _ _ _ _ => none
  | .setEndpointId _ _ => none
  | .getVersion _ _ _ => none
  | .getCapabilities _ _ _ _ => none
  | .negotiateAlgorithms _ _ _ _ => none
  | .getDigests _ _ _ _ => none
  | .getCertificate _ _ _ _ _ _ _ => none
  | .challenge _ _ _ _ _ _ => none
  | .getMeasurements _ _ _ _ _ _ _ => none
  | .keyExchange _ _ _ _ _ => none
  | .finish _ _ _ _ _ => none
  | .endSession _ _ _ => none
  | .respondIfReady _ _ _ _ => none
  | .chunkSend _ _ _ _ _ _ _ _ _ => none
  | .chunkGet _ _ _ _ _ => none
  | .unsupportedRequest _ _ _ => none
  | .sessionTimeout _ _ => none
  | .chunkTimeout _ => none
  | .measReport x => some x
  | .measRead x => some x
  | .certChainRead x => some x
  | .fwUpdate x _ _ => some x
  | .fwStatus x => some x
  | .healthConfirm _ => none
  | .healthWindowEnd => none
  | .settingsSave => none
  | .recStart => none
  | .recPush _ => none
  | .recFinish _ => none
  | .recAbort => none
  | .recoverySourceTimeout => none
  | .bootSourceRetry => none
  | .relayData _ _ _ => none
  | .relayAck _ _ => none
  | .relayNak _ _ _ => none
  | .relayTime _ _ _ _ _ _ => none
  | .relayControl _ _ => none
  | .relayRecover _ _ => none
  | .relayRetransmit _ => none
  | .relayLinkChange _ _ _ _ _ => none
  | .timeExchange => none
  | .frontLaunch x => some x
  | .frontStatus x => some x
  | .frontManifest _ => none
  | .frontChunk _ _ => none
  | .armed _ => none
  | .armedEvaluation => none
  | .commit => none
  | .landfall => none
  | .landed _ => none
  | .notHealthy _ => none
  | .aborted _ _ => none
  | .landedDeadline => none
  | .settled => none
  | .abort _ => none
  | .fellBack _ => none
  | .catchUp _ => none
  | .otpRead x => some x
  | .otpProgram x => some x
  | .otpReburn x => some x
  | .otpLock x => some x
  | .keyRevoke x => some x
  | .lcTransition x => some x
  | .debugChallenge x => some x
  | .debugResponse x => some x
  | .challengeExpiry => none
  | .zeroise x => some x
  | .otpRecheck _ _ => none
  | .repairRetry => none
  | .lcRepairRetry => none
  | .repairCtlGo => none
  | .wdtArm => none
  | .wdtService => none
  | .wdtCheckin _ => none
  | .wdtWindowClose => none
  | .wdtHardTimer => none
  | .barographWrite _ => none
  | .baroRead x => some x
  | .baroClear x _ => some x
  | .opSecondsAdvance => none
  | .cntConfig x => some x
  | .cntSnapshot x => some x
  | .snapshotTake => none
  | .pairBind x => some x
  | .vaultStatus x => some x
  | .standbyReturn x _ => some x
  | .checkpointWrite _ => none
  | .dirtyMark => none
  | .heartbeatToggle => none
  | .releaseTristate => none
  | .returningEnd => none
  | .takeoverReleaseSample _ _ _ => none
  | .takingComplete => none
  | .takeoverHoldClear _ => none
  | .drizzleEnter x _ => some x
  | .drizzleExit => none
  | .governorStepDown => none
  | .currentWarn => none
  | .thermalShutdown => none
  | .calCommit _ => none
  | .jtagInstruction _ => none
  | .relayBadCrc _ _ => none
  | .entropyStartUpTestDone => none
  | .powerUpTestsDone _ => none
  | .thermalShutdownHalt => none
  | .vfEnableChange _ _ => none
  | .otpPulseEnd _ _ _ => none

end Instr

end Sys2Proof
end

