-- ==== Sys2Proof/Certificates/Slice0/Obligations.lean ====
section
/-! DEFINITION. The statements for the provers, in the order of the chapters: what each command does where it has its effect, what it
leaves alone, and what no command does. -/

open Sys2Proof Sys2Proof.Machine Sys2Proof.Machine.Reg Sys2Proof.Machine.Dev

/-- With a command at the front of the queue, a step is that command run with the queue's rest. -/
def Obligations.StepRunsFront : Prop :=
  ∀ (c : Instr) (rest : List Instr) (s : State), step { s with pending := c :: rest } = exec c { s with pending := rest }

/-- No command touches the commands that wait behind it. -/
def Obligations.ExecKeepsQueue : Prop := ∀ (c : Instr) (s t : State), exec c s = .next t → t.pending = s.pending

/-- Every step keeps HOME in its canonical form (the erased byte 0xFF is the model's choice, log entry 5). -/
def Obligations.HomeStaysCanonical : Prop := ∀ s t : State, HomeCanonical s → step s = .next t → HomeCanonical t

/-- No step clears an OTP bit, and the reference levels stay ordered (log entry 18 for the re-read). -/
def Obligations.OtpNeverFalls : Prop := ∀ s t : State, OtpOrdered s → step s = .next t → OtpOrdered t ∧ OtpRises s t

/-- The state after reset has the invariants that every step keeps. -/
def Obligations.ResetIsGood : Prop :=
  State.reset.pending = [] ∧ HomeCanonical State.reset ∧ OtpOrdered State.reset ∧ State.reset.dev.lc = .blank

/-- DEV.DEVICE_ID reads 0x9640_00B0 (R2): READ32 and READ64 of its offset return it while the fields hold their reset values, which State.reset
has, no write to the offset by any port changes them, and the register has no other field. -/
def Obligations.DeviceIdReads : Prop :=
  (State.reset.dev.rd DEVICE_ID_PART = 0x9640 ∧ State.reset.dev.rd DEVICE_ID_STEP_MAJOR = 0xB ∧ State.reset.dev.rd DEVICE_ID_STEP_MINOR = 0)
  ∧ (∀ (k : Fin 2) (s : State), s.dev.windowUp k = true → s.dev.phase = .running → s.dev.cst .device = .active → s.dev.bistOf .device = none →
      s.dev.rd DEVICE_ID_PART = 0x9640 → s.dev.rd DEVICE_ID_STEP_MAJOR = 0xB → s.dev.rd DEVICE_ID_STEP_MINOR = 0 →
      Completes (.read32 k true 0x40) s (fun t => t.dev.out.head? = some (.i3c k (leBytes 4 0x964000B0 ++ [0])))
      ∧ Completes (.read64 k true 0x40) s (fun t => t.dev.out.head? = some (.i3c k (leBytes 8 0x964000B0 ++ [0]))))
  ∧ (∀ (port : Port) (wide : Bool) (v : DWord) (good : Bool) (s t : State), exec (.registerWrite port 0x40 wide v good) s = .next t →
      t.dev.rd DEVICE_ID_PART = s.dev.rd DEVICE_ID_PART ∧ t.dev.rd DEVICE_ID_STEP_MAJOR = s.dev.rd DEVICE_ID_STEP_MAJOR
      ∧ t.dev.rd DEVICE_ID_STEP_MINOR = s.dev.rd DEVICE_ID_STEP_MINOR)
  ∧ (fieldsAt 0x40).map Prod.fst = [0, 4, 16]

/-- R54: a command whose capability bit is 0 is refused with NOT_SUPPORTED, and the state of no cell changes; nothing else changes either. -/
def Obligations.CapabilityRefused : Prop :=
  ∀ (c : Cell) (s : State), s.dev.conditions = true → s.dev.refusedTree c = false →
    let refused := fun (t : State) =>
      t.dev.rd (CELL_LAST_RESULT c.offset) = Status.notSupported.code ∧ (∀ x : Cell, t.dev.cst x = s.dev.cst x)
        ∧ (∀ f : Fld, f.bit ≠ (CELL_LAST_RESULT c.offset).bit → t.dev.rd f = s.dev.rd f) ∧ t.home = s.home ∧ t.otp = s.otp
    (s.dev.canEnable c = false → (∀ fw, Completes (.enable c fw) s refused) ∧ Completes (.disable c) s refused)
    ∧ (c.capR = false → Completes (.cellReset c) s refused)
    ∧ Completes (.cellCmdUnsupported c) s refused

/-- Cell commands on a cell without children (R53, Table 02-5), and DOMAIN_SWITCH_CLOSE (R434). -/
def Obligations.CellCommands : Prop :=
  (∀ (c : Cell) (fw : Bool) (s : State), c.children = [] → s.dev.conditions = true → s.dev.refusedTree c = false →
    s.dev.canEnable c = true → c.startCost = none →
    (s.dev.cst c = .off → s.dev.aboveDraining c = false → (∀ p, c.upper = some p → s.dev.ownActive p = true) →
      Completes (.enable c fw) s fun t => t.dev.cst c = .starting ∧ t.dev.rd (CELL_LAST_RESULT c.offset) = Status.pending.code)
    ∧ (s.dev.cst c = .active →
      Completes (.enable c fw) s fun t => t.dev.cst c = .active ∧ t.dev.rd (CELL_LAST_RESULT c.offset) = Status.ok.code))
  ∧ (∀ (c : Cell) (s : State), c.children = [] → s.dev.conditions = true → s.dev.refusedTree c = false → s.dev.bist = [] →
    s.dev.guardedNow c = false →
    (s.dev.canEnable c = true → s.dev.cst c = .active →
      Completes (.disable c) s fun t => t.dev.cst c = .draining ∧ t.dev.rd (CELL_LAST_RESULT c.offset) = Status.pending.code)
    ∧ (s.dev.canEnable c = true → s.dev.cst c = .off →
      Completes (.disable c) s fun t => t.dev.cst c = .off ∧ t.dev.rd (CELL_LAST_RESULT c.offset) = Status.ok.code)
    ∧ (c.capR = true → c ≠ .pilot → s.dev.cst c = .off →
      Completes (.cellReset c) s fun t => t.dev.cst c = .off ∧ t.dev.rd (CELL_LAST_RESULT c.offset) = Status.ok.code))
  ∧ (∀ (dom : Nat) (rest : List Nat) (s : State), s.dev.pwr.queue = dom :: rest → s.dev.pwr.closed < 4 →
    Completes .domainSwitchClose s fun t => t.dev.pwr.on = dom :: s.dev.pwr.on ∧ t.dev.pwr.closed = s.dev.pwr.closed + 1
      ∧ t.dev.pwr.queue = s.dev.pwr.queue.filter (· ≠ dom))

/-- START_SEQUENCE_COMPLETE, START_FAIL, DRAIN_COMPLETE and DRAIN_LIMIT of a cell without children (R57 to R59, Table 02-5). -/
def Obligations.CellOutcomes : Prop :=
  ∀ (c : Cell) (s : State), c.children = [] →
    (∀ x : StartIn, c.pair? = none → c.startCost = none → s.dev.startDone c = true → (s.dev.cellx c).enabling = false →
      Completes (.startSequenceComplete c x) s fun t => t.dev.cst c = .active ∧ t.dev.on (CELL_EVT_STARTED c.offset) = true)
    ∧ (s.dev.cst c = .starting → c.capW = true → (s.dev.cellx c).waitParent = false → (s.dev.cellx c).ownUp = false → s.dev.powered c = true →
      (s.dev.cellx c).since + (Config.startFrames c.offset).toNat ≤ s.dev.frame → s.dev.on (CELL_PENDING_ENABLE c.offset) = false →
      Completes (.startFail c) s fun t => t.dev.cst c = .off ∧ t.dev.on (CELL_FAULT c.offset) = true ∧ t.dev.on (CELL_EVT_START_FAIL c.offset) = true)
    ∧ (s.dev.cst c = .draining → s.dev.on (CELL_PENDING_ENABLE c.offset) = false → (∀ r, c = .relay r → s.dev.rd (RL_LINK r) = 0) →
      (s.dev.busyWork c = false →
        Completes (.drainComplete c) s fun t => t.dev.cst c = .off ∧ t.dev.on (CELL_EVT_STOPPED c.offset) = true)
      ∧ ((s.dev.cellx c).since + 5000 ≤ s.dev.frame →
        Completes (.drainLimit c) s fun t => t.dev.cst c = .off ∧ t.dev.on (CELL_FAULT c.offset) = true
          ∧ t.dev.on (CELL_EVT_DRAIN_FORCED c.offset) = true))

/-- BIST_RUN, BIST_END with a matching signature, and BIST_BUDGET_EXPIRY (R403 to R406). -/
def Obligations.BistRuns : Prop :=
  (∀ (c : Cell) (s : State), s.dev.conditions = true → s.dev.refusedPort c = false → (∀ r, c = .relay r → s.dev.rd (RL_LINK r) = 1) →
    (c.capB = true → s.dev.bistOf c = none → (s.dev.bist.map fun x => bistCost x.cell).sum + bistCost c ≤ 80 → s.dev.bistRefusal c = none →
      Completes (.bistRun c) s fun t => (t.dev.bistOf c).isSome = true ∧ t.dev.bist.length = s.dev.bist.length + 1)
    ∧ (c.capB = false → Completes (.bistRun c) s fun t =>
        t.dev.bist = s.dev.bist ∧ t.dev.rd (CELL_BIST_RESULT c.offset) = 4 ∧ t.dev.rd (CELL_LAST_RESULT c.offset) = Status.notSupported.code))
  ∧ (∀ (c : Cell) (r : BistRun) (s : State), s.dev.bistOf c = some r →
    (r.waiting = false → r.frames ≠ 0 →
      Completes (.bistEnd c (Config.misrSignature c.offset)) s fun t => t.dev.rd (CELL_BIST_RESULT c.offset) = 1 ∧ t.dev.bist = s.dev.bist.filter (· ≠ r))
    ∧ (s.dev.rd (CELL_BIST_BUDGET c.offset) ≤ r.frames →
      Completes (.bistBudgetExpiry c) s fun t => t.dev.rd (CELL_BIST_RESULT c.offset) = 3 ∧ t.dev.bist = s.dev.bist.filter (· ≠ r)))

/-- R39: a refused task or run is not queued and not retried; a submission with room is bound (R37), and the committed costs show in
FS.PILOT_LOAD and FS.LULL_LOAD. -/
def Obligations.PilotTasks : Prop :=
  (∀ (id cost total k : Nat) (s : State), s.dev.up = true → s.dev.coreFor cost = some k →
    Completes (.pilotTaskSubmit id cost total) s fun t =>
      t.dev.tasks = s.dev.tasks ++ [{ of := .work id, core := k, cost := cost, start := s.dev.frame + 1, last := s.dev.frame + Dev.sliceFrames cost total }]
        ∧ (k = 0 → t.dev.rd FS_PILOT_LOAD0 = s.dev.pilotLoad 0 + cost) ∧ (k = 1 → t.dev.rd FS_PILOT_LOAD1 = s.dev.pilotLoad 1 + cost)
        ∧ (k = 2 → t.dev.rd FS_PILOT_LOAD2 = s.dev.pilotLoad 2 + cost) ∧ (k = 3 → t.dev.rd FS_PILOT_LOAD3 = s.dev.pilotLoad 3 + cost))
  ∧ (∀ (id cost total : Nat) (s : State), s.dev.up = true → s.dev.coreFor cost = none →
    Completes (.pilotTaskSubmit id cost total) s fun t =>
      t.dev.tasks = s.dev.tasks ∧ t.dev.resubmit = s.dev.resubmit ∧ (∀ f : Fld, t.dev.rd f = s.dev.rd f) ∧ t.home = s.home ∧ t.otp = s.otp
        ∧ t.dev.coreFor cost = none)
  ∧ (∀ (c : Cell) (s : State), s.dev.conditions = true → s.dev.refusedPort c = false → (∀ r, c = .relay r → s.dev.rd (RL_LINK r) = 1) →
    c.capB = true → s.dev.bistOf c = none →
    ((80 < (s.dev.bist.map fun x => bistCost x.cell).sum + bistCost c ∨ (s.dev.bistRefusal c).isSome = true) →
      Completes (.bistRun c) s fun t => t.dev.bist = s.dev.bist ∧ t.dev.rd (CELL_BIST_RESULT c.offset) = 4)
    ∧ ((s.dev.bist.map fun x => bistCost x.cell).sum + bistCost c ≤ 80 → s.dev.bistRefusal c = none →
      Completes (.bistRun c) s fun t => t.dev.rd FS_LULL_LOAD = (s.dev.bist.map fun x => bistCost x.cell).sum + bistCost c))

/-- R65: an access beyond the header of a cell that is not ACTIVE reads zero or is discarded, sets OFF_ACCESS, and is no bus error. -/
def Obligations.OffAccess : Prop :=
  ∀ (a : Nat) (c : Cell) (s : State), cellAt a = none → ownerAt a = some c → s.dev.cst c ≠ .active →
    let noBusError := fun (t : State) => t.dev.crypto = s.dev.crypto ∧ t.dev.rd CR_STATE = s.dev.rd CR_STATE ∧ t.dev.rd CR_ALARM_BUS_ERROR = s.dev.rd CR_ALARM_BUS_ERROR
    let only := fun (t : State) => t.dev.on (CELL_EVT_OFF_ACCESS c.offset) = true
      ∧ (∀ f : Fld, f.bit ≠ (CELL_EVT_OFF_ACCESS c.offset).bit → t.dev.rd f = s.dev.rd f) ∧ t.home = s.home ∧ t.otp = s.otp ∧ noBusError t
    (∀ (port : Port) (size : Nat), Completes (.offAccess port a size false) s fun t => only t ∧ t.dev.out.head? = some (.regData port size 0))
    ∧ (∀ (port : Port) (size : Nat), Completes (.offAccess port a size true) s fun t => only t ∧ t.dev.out = s.dev.out)
    ∧ (∀ (f : Fin 256) (wide : Bool) (v : DWord) (good : Bool), f = 0 → a < 2 ^ 26 → s.dev.conditions = true → s.dev.fnLive f = true → (s.dev.fn f).mse = true →
      aligned a (if wide then 8 else 4) = true →
      Completes (.registerWrite (.fn f) (BitVec.ofNat 26 a) wide v good) s only)
    ∧ (∀ (k : Fin 2) (w : Word), w.toNat = a → a % 4 = 0 → a < 2 ^ 26 → (a < 0x90000 ∨ 0x94000 ≤ a) → s.dev.windowUp k = true → s.dev.phase = .running →
      Completes (.read32 k true w) s fun t => only t ∧ t.dev.out.head? = some (.i3c k [0, 0, 0, 0, 0]))

/-- FRAME_CNT increments by one at every tick, whatever the frame brings (R44). -/
def Obligations.TickAdvancesFrame : Prop :=
  ∀ (x : TickIn) (s : State), s.dev.awake = true →
    Completes (.frameTick x) s fun t => t.dev.frame = (s.dev.frame + 1) % 2 ^ 64
      ∧ (s.dev.conditions = false → t.dev.pwr.closed = 0 ∧ t.home = s.home ∧ t.otp = s.otp)

/-- FRAME_CNT_LOW_READ (R45) and WINDOW_STATUS (R284). -/
def Obligations.FrameCountLow : Prop :=
  (∀ (port : Port) (s : State), s.dev.conditions = true → Completes (.frameCntLowRead port) s fun t =>
    t.dev.frameHigh = s.dev.frame / 2 ^ 32 ∧ t.dev.out.head? = some (.regData port 4 (s.dev.frame % 2 ^ 32))
      ∧ (∀ f : Fld, t.dev.rd f = s.dev.rd f) ∧ t.home = s.home ∧ t.otp = s.otp)
  ∧ (∀ (k : Fin 2) (s : State), s.dev.windowUp k = true → Completes (.windowStatus k) s fun t =>
    t.dev.out.head? = some (.i3c k (leBytes 1 (s.dev.mbx k).lastStatus)) ∧ (∀ f : Fld, t.dev.rd f = s.dev.rd f) ∧ t.home = s.home)

/-- INPUT_LEVEL_CHANGE, INPUT_CHATTER and INPUT_STUCK (R46, R47, R49, R50, Table 02-2). -/
def Obligations.InputsCondition : Prop :=
  ∀ (k : Fin 99) (s : State), s.dev.conditions = true →
    (s.dev.icChatter k = false → s.dev.chatterDue k = false → s.dev.rd (FS_IC_CFG_DEBOUNCE k) ≤ (s.dev.input k).run → (s.dev.input k).run ≠ 0 →
      Completes (.inputLevelChange k) s fun t => t.dev.icLevel k = !s.dev.icLevel k
        ∧ (k.val < 96 → t.dev.held k.val .resetReq = !s.dev.icLevel k))
    ∧ (s.dev.chatterDue k = true →
      Completes (.inputChatter k) s (fun t => t.dev.icChatter k = true) ∧ exec (.inputLevelChange k) s = .next s)
    ∧ (s.dev.icLevel k = true → s.dev.rd (FS_IC_CFG_STUCK_LIMIT k) ≠ 0 → 1000 * s.dev.rd (FS_IC_CFG_STUCK_LIMIT k) ≤ (s.dev.input k).active →
      bit (s.dev.rd (FS_IC_STUCK (k.val / 32))) (k.val % 32) = false →
      Completes (.inputStuck k) s fun t => bit (t.dev.rd (FS_IC_STUCK (k.val / 32))) (k.val % 32) = true ∧ t.dev.icLevel k = true)

/-- R48: a write of 1 clears CHATTER of an input only when its raw level has been steady for 500,000 frames. -/
def Obligations.ChatterClears : Prop :=
  ∀ (k : Fin 99) (s : State), s.dev.conditions = true → s.dev.icChatter k = true →
    (500000 ≤ (s.dev.input k).steady → Completes (.icChatterClear k) s fun t =>
      t.dev.icChatter k = false ∧ (t.dev.input k).run = 0 ∧ (t.dev.input k).changes = 0
        ∧ ∀ j : Fin 99, j ≠ k → t.dev.icChatter j = s.dev.icChatter j)
    ∧ ((s.dev.input k).steady < 500000 → exec (.icChatterClear k) s = .next s)

/-- WDT_HARD_TIMER, OP_SECONDS_ADVANCE, GOVERNOR_STEP_DOWN, CURRENT_WARN, THERMAL_SHUTDOWN and THERMAL_SHUTDOWN_HALT. -/
def Obligations.TimersRun : Prop :=
  (∀ (f : Nat) (esc : Bool) (s : State), s.dev.awake = true → s.dev.wdt.trapEnd = some (f, esc) → f ≤ s.dev.frame → s.dev.rd WDT_STATE = 2 →
    Completes .wdtHardTimer s fun t => (esc = true → t.dev.run.resetDue = some s.dev.frame) ∧ (esc = false → t.dev.phase = .pilotDown ∧ t.dev.tasks = []))
  ∧ (∀ s : State, s.dev.phase ≠ .off → 500000 ≤ s.dev.baro.ticks →
    Completes .opSecondsAdvance s fun t => t.dev.baro.ticks = 0
      ∧ (s.dev.rd BARO_OP_SECONDS < 3599 → t.dev.rd BARO_OP_SECONDS = s.dev.rd BARO_OP_SECONDS + 1 ∧ t.dev.rd BARO_OP_HOURS = s.dev.rd BARO_OP_HOURS)
      ∧ (3599 ≤ s.dev.rd BARO_OP_SECONDS → t.dev.rd BARO_OP_SECONDS = 0 ∧ t.dev.rd BARO_OP_HOURS = min (s.dev.rd BARO_OP_HOURS + 1) (2 ^ 24 - 1)))
  ∧ (∀ s : State, s.dev.awake = true → 250000 ≤ s.dev.mon.cool → s.dev.currentHigh = false → s.dev.mon.staged = none → 0 < s.dev.rd MON_GOV_STEP →
    Completes .governorStepDown s fun t => t.dev.mon.staged = some ⟨s.dev.rd MON_GOV_STEP - 1, false, false⟩ ∧ t.dev.mon.cool = 0
      ∧ ∀ f : Fld, t.dev.rd f = s.dev.rd f)
  ∧ (∀ s : State, s.dev.awake = true → 8 ≤ s.dev.mon.warn → s.dev.mon.staged = none → s.dev.rd MON_GOV_STEP < 3 →
    Completes .currentWarn s fun t => t.dev.mon.staged = some ⟨s.dev.rd MON_GOV_STEP + 1, true, true⟩ ∧ t.dev.mon.warn = 0
      ∧ t.dev.on MON_EVT_CURRENT_WARN = true)
  ∧ (∀ s : State, s.dev.awake = true → s.dev.phase ≠ .shutdown → 2 ≤ s.dev.mon.hot →
    Completes .thermalShutdown s fun t => t.dev.phase = .shutdown ∧ t.dev.mon.shutAt = some s.dev.frame
      ∧ ∀ n : Fin 96, t.dev.on (COMP_STATUS_RELEASE n) = false)
  ∧ (∀ (f : Nat) (s : State), s.dev.mon.shutAt = some f → s.dev.phase = .shutdown → f + 2500 ≤ s.dev.frame →
    Completes .thermalShutdownHalt s fun t => t.dev.phase = .halted ∧ t.dev.pwr.on = [])

/-- CAL_COMMIT (R449). -/
def Obligations.CalibrationCommits : Prop :=
  ∀ s : State, s.dev.up = true → s.dev.on CAL_STATUS_BUSY = false →
    let page := s.dev.regBytes CAL_STAGE 512
    (s.dev.open_ = true → HomeCanonical s → Completes (.calCommit true) s fun t => if calPageOk page
      then t.homeRead 0x1200000 4096 = calCommitted page (s.dev.rd CAL_SEQ + 1)
        ∧ t.dev.rd CAL_SEQ = (s.dev.rd CAL_SEQ + 1) % 2 ^ 32 ∧ t.dev.rd CAL_STATUS_LAST_STATUS = Status.ok.code
      else t.home = s.home ∧ t.dev.rd CAL_SEQ = s.dev.rd CAL_SEQ ∧ t.dev.rd CAL_STATUS_LAST_STATUS = Status.descInvalid.code)
    ∧ (calPageOk page = false → ∀ written, Completes (.calCommit written) s fun t =>
      t.home = s.home ∧ t.dev.rd CAL_SEQ = s.dev.rd CAL_SEQ ∧ t.dev.rd CAL_STATUS_LAST_STATUS = Status.descInvalid.code)

/-- DRIZZLE_ENTER and DRIZZLE_EXIT (R439, R441; what else must be idle, log entry 68). -/
def Obligations.DrizzleEntersAndExits : Prop :=
  (∀ (x : Desc) (good : Bool) (s : State), Taken x 0x0708 s → s.dev.ops = [] → s.dev.cpls = [] →
    ((found x 0x0708 s).drizzleRefusal x.src.length = none →
      Completes (.drizzleEnter x good) s fun t => Answered x 0x0708 (some .ok) t ∧ t.dev.rd DRZ_STATE = 2)
    ∧ (∀ st, (found x 0x0708 s).drizzleRefusal x.src.length = some st →
      Completes (.drizzleEnter x good) s fun t => Answered x 0x0708 (some st) t ∧ t.dev.rd DRZ_STATE = (found x 0x0708 s).rd DRZ_STATE))
  ∧ (∀ (cause : Nat) (s : State), s.dev.driz.wake = some cause → s.dev.up = true → s.dev.rd DRZ_STATE = 2 → s.dev.driz.wakeAt < s.dev.frame →
    Completes .drizzleExit s fun t => t.dev.rd DRZ_STATE = 0 ∧ t.dev.started = false ∧ t.dev.driz.wake = none
      ∧ t.dev.rd DRZ_EXIT_FRAMES = (s.dev.frame - (s.dev.driz.wakeAt + 1)) % 2 ^ 32)

/-- REGISTER_WRITE on an RW field, a W1C field and RO fields (Table 00-6). -/
def Obligations.RegisterWritesByType : Prop :=
  ∀ (f : Fin 256) (v : DWord) (good : Bool) (s : State), f = 0 → s.dev.conditions = true → s.dev.fnLive f = true → (s.dev.fn f).mse = true →
    (s.dev.offCell 0x27050 = none →
      Completes (.registerWrite (.fn f) 0x27050 false v good) s fun t =>
        t.dev.rd MON_CFG_GOV_TRIP = max 80 (min 100 (v.toNat % 256)) ∧ t.home = s.home ∧ t.otp = s.otp)
    ∧ (s.dev.offCell 0x10048 = none →
      Completes (.registerWrite (.fn f) 0x10048 false v good) s fun t =>
        t.dev.rd FS_STATUS_OVERRUN = (if v.toNat % 2 = 1 then 0 else s.dev.rd FS_STATUS_OVERRUN % 2)
          ∧ t.dev.rd FS_STATUS_OVR_SLOT = s.dev.rd FS_STATUS_OVR_SLOT ∧ t.home = s.home ∧ t.otp = s.otp)

/-- WRITE32, WRITE64, WRITE_BLOCK, READ32 and READ64 on MBX_DATA (Table 08-10; a block word by word, log entry 28). -/
def Obligations.WindowWrites : Prop :=
  ∀ (k : Fin 2) (o : Nat) (s : State), s.dev.windowUp k = true → s.dev.phase = .running → (s.dev.mbx k).busy = false →
    (s.dev.mbx k).data.length = 65536 →
    let a := BitVec.ofNat 32 (0x80010000 + o)
    (∀ (v : Word) (good : Bool), o % 4 = 0 → o + 4 ≤ 65536 → Completes (.write32 k true a v good) s fun t =>
      (t.dev.mbx k).lastStatus = 0 ∧ (t.dev.mbx k).data = (s.dev.mbx k).data.take o ++ leBytes 4 v.toNat ++ (s.dev.mbx k).data.drop (o + 4))
    ∧ (∀ (v : DWord) (good : Bool), o % 8 = 0 → o + 8 ≤ 65536 → Completes (.write64 k true a v good) s fun t =>
      (t.dev.mbx k).lastStatus = 0 ∧ (t.dev.mbx k).data = (s.dev.mbx k).data.take o ++ leBytes 8 v.toNat ++ (s.dev.mbx k).data.drop (o + 8))
    ∧ (∀ (ws : List Word) (good : Bool), o % 4 = 0 → 1 ≤ ws.length → ws.length ≤ 64 → o + 4 * ws.length ≤ 65536 →
      Completes (.writeBlock k true a ws good) s fun t => (t.dev.mbx k).lastStatus = 0
        ∧ (t.dev.mbx k).data = (s.dev.mbx k).data.take o ++ (ws.flatMap fun w => leBytes 4 w.toNat) ++ (s.dev.mbx k).data.drop (o + 4 * ws.length))
    ∧ (∀ (v : Word) (good : Bool), Completes (.write32 k false a v good) s fun t =>
      (t.dev.mbx k).lastStatus = 4 ∧ (t.dev.mbx k).data = (s.dev.mbx k).data ∧ (∀ f : Fld, t.dev.rd f = s.dev.rd f) ∧ t.home = s.home)
    ∧ (o % 4 = 0 → o + 4 ≤ 65536 → Completes (.read32 k true a) s fun t =>
      t.dev.out.head? = some (.i3c k (leBytes 4 (leAt (s.dev.mbx k).data o 4) ++ [0])))
    ∧ (o % 8 = 0 → o + 8 ≤ 65536 → Completes (.read64 k true a) s fun t =>
      t.dev.out.head? = some (.i3c k (leBytes 8 (leAt (s.dev.mbx k).data o 8) ++ [0])))

/-- JTAG_INSTRUCTION (R370, Table 11-6) and UNSUPPORTED_ACCESS (R70). -/
def Obligations.TapAndUnsupported : Prop :=
  (∀ (v : BitVec 96) (s : State), s.dev.awake = true →
    (2 ≤ s.dev.rd DBG_STATE_LEVEL → Completes (.jtagInstruction (.extest v)) s fun t => t.dev.dbg.extest = some v.toNat ∧ t.dev.out = s.dev.out)
    ∧ (s.dev.rd DBG_STATE_LEVEL < 2 → exec (.jtagInstruction (.extest v)) s = .next s ∧ exec (.jtagInstruction .halt) s = .next s)
    ∧ Completes (.jtagInstruction .bypass) s fun t => t.dev.dbg.extest = none ∧ t.dev.out.head? = some (.tdo 0))
  ∧ (∀ (f : Fin 256) (a : BitVec 26) (s : State), s.dev.conditions = true → s.dev.fnLive f = true → (f ≠ 0 ∨ a.toNat < 0x40000 ∨ 0x80000 ≤ a.toNat) →
    Completes (.unsupportedAccess f a) s fun t => t.dev.out = .unsupported (.fn f) :: s.dev.out ∧ (∀ g : Fld, t.dev.rd g = s.dev.rd g)
      ∧ t.dev.crypto = s.dev.crypto ∧ t.home = s.home ∧ t.otp = s.otp)

/-- FAST_READ, QUAD_OUTPUT_READ, QUAD_IO_READ, DTR_QUAD_IO_READ, OCTAL_DTR_READ, their 4-byte forms, and CONTINUOUS_READ, on OPEN regions. -/
def Obligations.OpenReadsForward : Prop :=
  (∀ (t : UpTx) (a : BitVec 32) (m : Byte) (flash : Bytes) (s : State),
    ∀ i ∈ [(Instr.fastRead t a flash none, 0x0B, [0, 3, 5], false), (.fourByteFastRead t a flash none, 0x0C, [0, 3, 5, 6], true),
      (.quadOutputRead t a flash none, 0x6B, [1], false), (.fourByteQuadOutputRead t a flash none, 0x6C, [1], true),
      (.quadIoRead t a m flash none, 0xEB, [2, 3], false), (.fourByteQuadIoRead t a m flash none, 0xEC, [2, 3, 5], true),
      (.dtrQuadIoRead t a m flash none, 0xED, [4], false), (.octalDtrRead t a m flash none, 0xEE, [4, 6], true)],
    UpReady s.dev t i.2.1 i.2.2.1 → s.dev.ndRead t.gc i.2.1 = false →
    OpenServed s.dev t.gc (s.dev.readAddrs t.gc (s.dev.upAddr t.gc i.2.2.2 a) flash.length) →
    Completes i.1 s fun u => .upstream t.gc flash ∈ u.dev.out ∧ u.home = s.home ∧ u.otp = s.otp)
  ∧ (∀ (t : UpTx) (a : BitVec 32) (m : Byte) (flash : Bytes) (s : State), s.dev.awake = true → s.dev.ownsPorts = true →
    s.dev.on (COMP_STATUS_RELEASE t.gc) = true → s.dev.on (UP_STATE_CONT (t.gc / 2) (t.gc % 2)) = true → t.decB = none → t.bgBusy = false →
    s.dev.on (UP_CFG_CONT_EN (t.gc / 2) (t.gc % 2)) = true →
    OpenServed s.dev t.gc (s.dev.readAddrs t.gc (s.dev.upAddr t.gc ((s.dev.gc t.gc).contOpc = 0xEC || (s.dev.gc t.gc).contOpc = 0xEE) a) flash.length) →
    Completes (.continuousRead t a m flash none) s fun u => .upstream t.gc flash ∈ u.dev.out
      ∧ u.dev.on (UP_STATE_CONT (t.gc / 2) (t.gc % 2)) = decide (m.toNat / 16 = 0xA))

/-- READ and FOUR_BYTE_READ from a pinned frame, and their LATENCY_MISS (R95, R97). -/
def Obligations.PinnedReadsServe : Prop :=
  ∀ (t : UpTx) (a : BitVec 32) (flash : Bytes) (g : Nat) (e : CompRec) (s : State),
    ∀ i ∈ [(Instr.read t a flash none, 0x03, false), (.fourByteRead t a flash none, 0x13, true)],
    let n := t.gc.val
    let xs := (s.dev.readAddrs n (s.dev.upAddr n i.2.2 a) flash.length).zip flash
    UpReady s.dev t i.2.1 [0] → (s.dev.gc n).entry = some e → (s.dev.gc n).poisoned = false → s.dev.on (UP_STATE_WIP (n / 2) (n % 2)) = false →
    (∀ x ∈ xs, x.1 / 2048 = g ∧ (e.region x.1).isSome = true ∧ s.dev.classAt n x.1 ≤ 2) →
    (∀ f, s.dev.frameOf n g = some f → f.state = .pinned →
      Completes i.1 s fun u => .upstream n (xs.map fun x => SMap.get (fun _ => x.2) f.bytes (x.1 % 2048)) ∈ u.dev.out
        ∧ u.dev.out.filter (fun o => match o with | .downstream .. => true | _ => false)
          = s.dev.out.filter (fun o => match o with | .downstream .. => true | _ => false))
    ∧ (s.dev.frameOf n g = none → xs ≠ [] → (∀ x ∈ xs, s.dev.classAt n x.1 = 1 ∨ s.dev.classAt n x.1 = 2) →
      Completes i.1 s fun u => .upstream n (xs.map fun x => s.dev.fillByte n x.1) ∈ u.dev.out ∧ u.dev.on (PP_EVT_LAT_MISS (n / 2)) = true)

/-- The six page programs and the six sized erases, inside windows that permit them (R85, R129, R130). -/
def Obligations.WritesForward : Prop :=
  (∀ (t : UpTx) (a : BitVec 32) (data : Bytes) (s : State),
    ∀ i ∈ [(Instr.pageProgram t a data, 0x02, [0, 3, 4], false), (.fourBytePageProgram t a data, 0x12, [0, 3, 4, 5, 6], true),
      (.quadInputPageProgram t a data, 0x32, [1], false), (.fourByteQuadInputPageProgram t a data, 0x34, [1], true),
      (.quadIoPageProgram t a data, 0x38, [2], false), (.fourByteQuadIoPageProgram t a data, 0x3E, [2], true)],
    let n := t.gc.val
    let pg := 2 ^ s.dev.rd (DN_FLASH_PAGE_LOG2 (n / 2) (n % 2))
    let base := s.dev.upAddr n i.2.2.2 a / pg * pg
    UpReady s.dev t i.2.1 i.2.2.1 → s.dev.on (UP_STATE_WIP (n / 2) (n % 2)) = false → s.dev.on (UP_STATE_WEL (n / 2) (n % 2)) = true → data ≠ [] →
    (∀ y, base ≤ y → y < base + pg → s.dev.inWindow n y 0 = true) →
    Completes i.1 s fun u => u.dev.on (UP_STATE_WIP (n / 2) (n % 2)) = true ∧ u.dev.on (UP_STATE_WEL (n / 2) (n % 2)) = true
      ∧ ∃ rest, (u.dev.gc n).op = some ⟨false, s.dev.frame, false, rest⟩ ∧ (s.dev.bursts (n / 2) = false → rest = []))
  ∧ (∀ (t : UpTx) (a : BitVec 32) (s : State),
    ∀ i ∈ [(Instr.erase4Kib t a, 0x20, sdrModes, false, 4096, 0), (.fourByteErase4Kib t a, 0x21, allModes, true, 4096, 0),
      (.erase32Kib t a, 0x52, sdrModes, false, 32768, 1), (.fourByteErase32Kib t a, 0x5C, sdrModes, true, 32768, 1),
      (.erase64Kib t a, 0xD8, sdrModes, false, 65536, 2), (.fourByteErase64Kib t a, 0xDC, allModes, true, 65536, 2)],
    let n := t.gc.val
    let base := s.dev.upAddr n i.2.2.2.1 a / i.2.2.2.2.1 * i.2.2.2.2.1
    UpReady s.dev t i.2.1 i.2.2.1 → s.dev.on (UP_STATE_WIP (n / 2) (n % 2)) = false → s.dev.on (UP_STATE_WEL (n / 2) (n % 2)) = true →
    (∀ e, (s.dev.gc n).entry = some e → bit e.eraseTypes i.2.2.2.2.2 = true) → (∀ y, base ≤ y → y < base + i.2.2.2.2.1 → s.dev.inWindow n y 1 = true) →
    Completes i.1 s fun u => u.dev.on (UP_STATE_WIP (n / 2) (n % 2)) = true ∧ u.dev.on (UP_STATE_WEL (n / 2) (n % 2)) = true
      ∧ (u.dev.gc n).op = some ⟨true, s.dev.frame, false, []⟩)

/-- R134: a program or erase received while WIP is 1 is dropped; no register field changes and nothing is sent. -/
def Obligations.BusyDropsWrites : Prop :=
  ∀ (t : UpTx) (a : BitVec 32) (data : Bytes) (s : State),
    ∀ i ∈ [(Instr.pageProgram t a data, 0x02, [0, 3, 4]), (.fourBytePageProgram t a data, 0x12, [0, 3, 4, 5, 6]),
      (.quadInputPageProgram t a data, 0x32, [1]), (.fourByteQuadInputPageProgram t a data, 0x34, [1]),
      (.quadIoPageProgram t a data, 0x38, [2]), (.fourByteQuadIoPageProgram t a data, 0x3E, [2]),
      (.erase4Kib t a, 0x20, sdrModes), (.fourByteErase4Kib t a, 0x21, allModes), (.erase32Kib t a, 0x52, sdrModes),
      (.fourByteErase32Kib t a, 0x5C, sdrModes), (.erase64Kib t a, 0xD8, sdrModes), (.fourByteErase64Kib t a, 0xDC, allModes),
      (.chipErase t, 0x60, allModes), (.chipEraseC7 t, 0xC7, allModes), (.programSecurityRegisters t a data, 0x42, allModes),
      (.eraseSecurityRegisters t a, 0x44, allModes)],
    UpReady s.dev t i.2.1 i.2.2 → s.dev.on (UP_STATE_WIP (t.gc / 2) (t.gc % 2)) = true →
    Completes i.1 s fun u => (∀ f : Fld, u.dev.rd f = s.dev.rd f) ∧ u.dev.out = s.dev.out ∧ (u.dev.gc t.gc).op = (s.dev.gc t.gc).op
      ∧ u.dev.snow = s.dev.snow ∧ u.home = s.home

/-- READ_STATUS_REGISTER, READ_FLAG_STATUS_REGISTER, READ_ID and READ_SFDP with their frame (R84, R86, R87; fill under poison R169, from
address 0 by log entry 101). -/
def Obligations.EmulatedReads : Prop :=
  ∀ (t : UpTx) (len : Nat) (a : BitVec 24) (s : State),
    let n := t.gc.val
    let wip := s.dev.rd (UP_STATE_WIP (n / 2) (n % 2))
    ∀ i ∈ [(Instr.readStatusRegister t len, 0x05, 0, List.replicate len (BitVec.ofNat 8 (wip + 2 * s.dev.rd (UP_STATE_WEL (n / 2) (n % 2))
          + 4 * s.dev.rd (WB_CS_WP_VIEW (n / 2) (n % 2))))),
      (.readFlagStatusRegister t len, 0x70, 0, List.replicate len (BitVec.ofNat 8 (128 * (1 - wip) + 32 * s.dev.rd (UP_STATE_ERASE_FAIL (n / 2) (n % 2))
          + 16 * s.dev.rd (UP_STATE_PROG_FAIL (n / 2) (n % 2)) + 2 * s.dev.rd (UP_STATE_PROT (n / 2) (n % 2))))),
      (.readId t len, 0x9F, 0, (List.range len).map (s.dev.idByte n)),
      (.readSfdp t a len, 0x5A, a.toNat, (List.range len).map fun j => s.dev.sfdpByte n ((a.toNat + j) % 2 ^ 24))],
    UpReady s.dev t i.2.1 allModes →
    Completes i.1 s fun u => u.dev.out = .upstream n (if (s.dev.gc n).poisoned then (List.range len).map fun j => s.dev.fillByte n (i.2.2.1 + j)
        else i.2.2.2) :: s.dev.out
      ∧ (∀ f : Fld, f.bit ≠ (EMU_CNT (n / 2) (n % 2)).bit → u.dev.rd f = s.dev.rd f) ∧ u.home = s.home ∧ u.otp = s.otp

/-- WRITE_ENABLE, WRITE_DISABLE, 4-byte mode, CLEAR_FLAG_STATUS_REGISTER, SET_BURST_WITH_WRAP, RESET_ENABLE, RESET, WRITE_STATUS_REGISTER and
WRITE_VOLATILE_CONFIGURATION_REGISTER (the last with log entry 12, the wrap byte with log entry 82). -/
def Obligations.EmulatedWrites : Prop :=
  ∀ (t : UpTx) (s : State),
    let n := t.gc.val
    let p := n / 2
    let c := n % 2
    let wel := UP_STATE_WEL p c
    let onlyOf := fun (f : Fld) (u : State) => (∀ g : Fld, g.bit ≠ f.bit → g.bit ≠ (EMU_CNT p c).bit → u.dev.rd g = s.dev.rd g) ∧ u.dev.out = s.dev.out
    (UpReady s.dev t 0x06 allModes → Completes (.writeEnable t) s fun u => u.dev.rd wel = 1 ∧ onlyOf wel u)
    ∧ (UpReady s.dev t 0x04 allModes → Completes (.writeDisable t) s fun u => u.dev.rd wel = 0 ∧ onlyOf wel u)
    ∧ (UpReady s.dev t 0xB7 sdrModes → Completes (.enter4ByteAddressMode t) s fun u => u.dev.rd (UP_STATE_ADDR4 p c) = 1 ∧ onlyOf (UP_STATE_ADDR4 p c) u)
    ∧ (UpReady s.dev t 0xE9 sdrModes → Completes (.exit4ByteAddressMode t) s fun u => u.dev.rd (UP_STATE_ADDR4 p c) = 0 ∧ onlyOf (UP_STATE_ADDR4 p c) u)
    ∧ (UpReady s.dev t 0x50 allModes → Completes (.clearFlagStatusRegister t) s fun u => u.dev.rd (UP_STATE_ERASE_FAIL p c) = 0
        ∧ u.dev.rd (UP_STATE_PROG_FAIL p c) = 0 ∧ u.dev.rd (UP_STATE_PROT p c) = 0 ∧ u.dev.rd wel = s.dev.rd wel ∧ u.dev.out = s.dev.out)
    ∧ (∀ w : Byte, UpReady s.dev t 0x77 allModes → Completes (.setBurstWithWrap t w) s fun u => u.dev.out = s.dev.out
        ∧ if bit w.toNat 4 then u.dev.rd (UP_STATE_WRAP p c) = 0 ∧ onlyOf (UP_STATE_WRAP p c) u
          else if bit w.toNat 7 then u.dev.rd (UP_STATE_WRAP p c) = 0 ∧ u.dev.on (PP_EVT_UNSUP_CMD p) = true
            ∧ u.dev.rd (UNSUP_CNT p c) = min (s.dev.rd (UNSUP_CNT p c) + 1) (2 ^ (UNSUP_CNT p c).width - 1)
          else u.dev.rd (UP_STATE_WRAP p c) = w.toNat / 32 % 4 + 1 ∧ onlyOf (UP_STATE_WRAP p c) u)
    ∧ (UpReady s.dev t 0x66 allModes → Completes (.resetEnable t) s fun u => (u.dev.gc n).lastOpc = 0x66 ∧ u.dev.out = s.dev.out)
    ∧ (UpReady s.dev t 0x99 allModes → (s.dev.gc n).lastOpc = 0x66 → s.dev.on (UP_STATE_WIP p c) = false → Completes (.reset t) s fun u =>
        u.dev.rd (UP_STATE_MODE p c) = s.dev.rd (UP_CFG_START_MODE p c) % 8 ∧ u.dev.rd (UP_STATE_ADDR4 p c) = s.dev.rd (UP_CFG_ADDR4_DEFAULT p c) % 2
          ∧ u.dev.rd wel = 0 ∧ u.dev.rd (UP_STATE_WRAP p c) = 0 ∧ u.dev.rd (UP_STATE_PROT p c) = 0 ∧ u.dev.out = s.dev.out)
    ∧ (∀ (a : BitVec 32) (v : Byte), UpReady s.dev t 0x01 allModes → s.dev.on wel = true → s.dev.rd (WB_CS_WRSR_MODE p c) = 2 →
        Completes (.writeStatusRegister t a v) s fun u => u.dev.rd wel = 0 ∧ u.dev.rd (WB_CS_WP_VIEW p c) = v.toNat / 4 ∧ u.dev.out = s.dev.out)
    ∧ (∀ (a : BitVec 32) (v : Byte), UpReady s.dev t 0x81 allModes →
        Completes (.writeVolatileConfigurationRegister t a v) s fun u => u.dev.rd wel = 0 ∧ onlyOf wel u)

/-- MODE_SWITCH (R77). -/
def Obligations.ModeSwitches : Prop :=
  ∀ (t : UpTx) (a : BitVec 32) (data : Bytes) (s : State),
    let n := t.gc.val
    let p := n / 2
    let c := n % 2
    s.dev.awake = true → s.dev.ownsPorts = true → s.dev.on (COMP_STATUS_RELEASE n) = true → s.dev.on (UP_STATE_CONT p c) = false → t.bgBusy = false →
    s.dev.upMode n < 5 → s.dev.switchArmed n = true →
    let right := s.dev.on (UP_STATE_WEL p c) = true ∧ a = 0 ∧ data = [BitVec.ofNat 8 (s.dev.rd (UP_CFG_MODE_SW_DATA p c))]
    (right → Completes (.modeSwitch t a data) s fun u => u.dev.rd (UP_STATE_MODE p c) = s.dev.rd (UP_CFG_RUN_MODE p c) % 8 ∧ u.dev.rd (UP_STATE_WEL p c) = 0)
    ∧ (¬ right → Completes (.modeSwitch t a data) s fun u => u.dev.rd (UP_STATE_MODE p c) = s.dev.rd (UP_STATE_MODE p c) ∧ u.dev.rd (UP_STATE_WEL p c) = 0
        ∧ ∀ f : Fld, f.bit ≠ (UP_STATE_WEL p c).bit → u.dev.rd f = s.dev.rd f)

/-- R82: an opcode that Table 04-6 does not list, or lists for a different mode, is ignored, raises UNSUP_CMD and is counted. -/
def Obligations.RefusedOpcodes : Prop :=
  ∀ (t : UpTx) (a : BitVec 32) (data : Bytes) (opc : Byte) (s : State),
    let n := t.gc.val
    let p := n / 2
    let c := n % 2
    s.dev.awake = true → s.dev.ownsPorts = true → s.dev.on (COMP_STATUS_RELEASE n) = true → s.dev.on (UP_STATE_CONT p c) = false → t.bgBusy = false →
    let ignored := fun (u : State) => u.dev.on (PP_EVT_UNSUP_CMD p) = true
      ∧ u.dev.rd (UNSUP_CNT p c) = min (s.dev.rd (UNSUP_CNT p c) + 1) (2 ^ (UNSUP_CNT p c).width - 1)
      ∧ (∀ f : Fld, f.bit ≠ (PP_EVT_UNSUP_CMD p).bit → f.bit ≠ (UNSUP_CNT p c).bit → u.dev.rd f = s.dev.rd f) ∧ u.dev.out = s.dev.out
      ∧ (u.dev.gc n).op = (s.dev.gc n).op ∧ u.dev.snow = s.dev.snow ∧ u.home = s.home
    (s.dev.upMode n ∉ listedModes opc.toNat → (s.dev.switchArmed n && opc.toNat = s.dev.rd (UP_CFG_MODE_SW_OPC p c)) = false →
      Completes (.unsupportedOpcode t opc) s ignored)
    ∧ ∀ i ∈ [(Instr.fastRead t a data none, 0x0B, [0, 3, 5]), (.pageProgram t a data, 0x02, [0, 3, 4]), (.erase4Kib t a, 0x20, sdrModes),
        (.enter4ByteAddressMode t, 0xB7, sdrModes)],
      s.dev.upMode n ∉ i.2.2 → (s.dev.switchArmed n && i.2.1 = s.dev.rd (UP_CFG_MODE_SW_OPC p c)) = false → Completes i.1 s ignored

/-- CHIP_ERASE, CHIP_ERASE_C7, WRITE_STATUS_REGISTER_2, WRITE_NONVOLATILE_CONFIG_REGISTER, PROGRAM_SECURITY_REGISTERS and ERASE_SECURITY_REGISTERS. -/
def Obligations.AlwaysBlocked : Prop :=
  ∀ (t : UpTx) (a : BitVec 32) (v : Byte) (data : Bytes) (s : State),
    let n := t.gc.val
    let p := n / 2
    let c := n % 2
    ∀ i ∈ [(Instr.chipErase t, 0x60, allModes, true), (.chipEraseC7 t, 0xC7, allModes, true), (.programSecurityRegisters t a data, 0x42, allModes, true),
      (.eraseSecurityRegisters t a, 0x44, allModes, true), (.writeStatusRegister2 t v, 0x31, sdrModes, false),
      (.writeNonvolatileConfigRegister t a v, 0xB1, allModes, false)],
    UpReady s.dev t i.2.1 i.2.2.1 → (i.2.2.2 = true → s.dev.on (UP_STATE_WIP p c) = false ∧ s.dev.on (UP_STATE_WEL p c) = true) →
    Completes i.1 s fun u => u.dev.rd (UP_STATE_WEL p c) = 0 ∧ u.dev.rd (UP_STATE_PROT p c) = 1 ∧ u.dev.rd (UP_STATE_WIP p c) = s.dev.rd (UP_STATE_WIP p c)
      ∧ u.dev.rd (BLOCK_CNT p c) = min (s.dev.rd (BLOCK_CNT p c) + 1) (2 ^ (BLOCK_CNT p c).width - 1) ∧ u.dev.on (WB_EVT_BLOCKED p) = true
      ∧ u.dev.rd (LAST_BLOCK_OPC p c) = i.2.1 ∧ u.dev.out = s.dev.out ∧ (u.dev.gc n).op = (s.dev.gc n).op ∧ u.home = s.home

/-- POWER_ON_RESET, PWR_GOOD_QUALIFYING_LOW, DEVICE_RESET, PILOT_RESET and PILOT_START (R13, R307, R318, R460). -/
def Obligations.ResetsHappen : Prop :=
  let quiet := fun (t : State) => t.dev.ops = [] ∧ t.dev.tasks = [] ∧ ∀ n < 96, t.dev.on (COMP_STATUS_RELEASE n) = false
  (∀ (x : Straps) (b : BootIn) (s : State), s.dev.phase = .off →
    Completes (.powerOnReset x b) s fun t => t.dev.phase ≠ .off ∧ quiet t ∧ t.dev.frame = 0)
  ∧ (∀ (ns : Nat) (s : State),
    (3000 ≤ ns → Completes (.pwrGoodQualifyingLow ns) s fun t => t.dev.phase = .off ∧ (∀ n < 96, t.dev.on (COMP_STATUS_RELEASE n) = false) ∧ t.home = s.home)
    ∧ (ns < 1000 → exec (.pwrGoodQualifyingLow ns) s = .next s)
    ∧ (1000 ≤ ns → ns < 3000 → exec (.pwrGoodQualifyingLow ns) s = .fault .powerGoodGlitch))
  ∧ (∀ (b : BootIn) (s : State),
    (∀ f, s.dev.run.resetDue = some f → s.dev.awake = true → f ≤ s.dev.frame →
      Completes (.deviceReset none b) s fun t => quiet t ∧ t.dev.frame = s.dev.frame)
    ∧ (∀ x : Desc, Taken x 0x0709 s → x.src = [] →
      Completes (.deviceReset (some x) b) s fun t => quiet t ∧ t.dev.frame = s.dev.frame))
  ∧ (∀ s : State, (s.dev.phase = .running ∨ s.dev.phase = .pilotDown) →
    Completes .pilotReset s fun t => t.dev.phase = .pilotDown ∧ t.dev.tasks = [] ∧ t.dev.wdt = {} ∧ t.dev.frame = s.dev.frame ∧ t.home = s.home ∧ t.otp = s.otp)
  ∧ (∀ (x : PilotIn) (s : State), s.dev.phase = .pilotDown → s.dev.run.resetDue = none →
    let u := s.onDev fun d => d.takeRecord s.storedRecord
    let v := if u.dev.run.fresh = some true then u.loadClock s.storedRecord else u
    Completes (.pilotStart x) s fun t => match (v.loaderAction x.restored).1 with
      | some _ => t.dev.phase = .running
      | none => t.dev.phase = .pilotDown ∧ t.dev.run.resetDue = some s.dev.frame)

/-- DOWNSTREAM_OP_COMPLETE, DN_TIMEOUT, DQS_RETRAIN and ZQ_RECALIBRATION (R85, R99, R101, R103, R104, R107, R108). -/
def Obligations.FlashOperationsEnd : Prop :=
  (∀ (n : Fin 96) (o : DnOp) (s : State), (s.dev.gc n).op = some o → o.own = false →
    let p := n.val / 2
    let c := n.val % 2
    let fail := if o.erase then UP_STATE_ERASE_FAIL p c else UP_STATE_PROG_FAIL p c
    let r := if c = 0 then (s.dev.pair p).rstN0 else (s.dev.pair p).rstN1
    (∀ failed : Bool, s.dev.dnUp n = true → o.frame < s.dev.frame → s.dev.frame ≤ o.frame + s.dev.opLimit n o → (failed = true ∨ o.rest = []) →
      Completes (.downstreamOpComplete n failed) s fun t => t.dev.on (UP_STATE_WIP p c) = false ∧ t.dev.on (UP_STATE_WEL p c) = false
        ∧ t.dev.on fail = (failed || s.dev.on fail) ∧ (t.dev.gc n).op = none ∧ t.home = s.home ∧ t.otp = s.otp
        ∧ ∀ f : Fld, f.bit ≠ (UP_STATE_WIP p c).bit → f.bit ≠ (UP_STATE_WEL p c).bit → f.bit ≠ fail.bit → t.dev.rd f = s.dev.rd f)
    ∧ (s.dev.dnUp n = true → o.frame < s.dev.frame → s.dev.frame ≤ o.frame + s.dev.opLimit n o → o.rest ≠ [] →
      Completes (.downstreamOpComplete n false) s fun t => t.dev.rd (UP_STATE_WIP p c) = s.dev.rd (UP_STATE_WIP p c)
        ∧ t.dev.rd (UP_STATE_WEL p c) = s.dev.rd (UP_STATE_WEL p c) ∧ t.dev.rd fail = s.dev.rd fail ∧ t.home = s.home ∧ t.otp = s.otp)
    ∧ (s.dev.dnUp n = true → o.frame + s.dev.opLimit n o ≤ s.dev.frame →
      Completes (.dnTimeout n) s fun t => t.dev.on (PP_EVT_DN_TIMEOUT p) = true ∧ t.dev.on fail = true ∧ t.dev.on (UP_STATE_WIP p c) = false
        ∧ (t.dev.gc n).op = none ∧ t.dev.rd (UP_STATE_WEL p c) = s.dev.rd (UP_STATE_WEL p c)
        ∧ .flashReset n r (if r then [] else if s.dev.legacy then [4, 3, 2, 1, 0] else [6, 5, 4, 3, 2, 1, 0]) ∈ t.dev.out))
  ∧ (∀ (p : Fin 48) (c : Fin 2) (pass : Bool) (i : Nat) (ok : List Nat) (s : State), (s.dev.pair p).sweep = some (c.val, i, ok) →
    s.dev.dnUp ⟨2 * p.val + c.val, by omega⟩ = true → (s.dev.gc (2 * p.val + c.val)).op = none → s.dev.granted5 p = true → (gcsOf p).any s.dev.work5 = false →
    let ok' := if pass then ok ++ [i] else ok
    Completes (.dqsRetrain p c pass) s fun t =>
      (i ≠ 63 → (t.dev.pair p).sweep = some (c.val, i + 1, ok') ∧ t.dev.rd (DQS_TRIM_TAP p c) = s.dev.rd (DQS_TRIM_TAP p c))
      ∧ (i = 63 → (t.dev.pair p).sweep = none ∧ ((longestRun ok').2 ≠ 0 →
          t.dev.rd (DQS_TRIM_TAP p c) = (longestRun ok').1 + ((longestRun ok').2 - 1) / 2 ∧ t.dev.rd (DQS_TRIM_SRC p c) = 0
            ∧ ((longestRun ok').2 < 12 → t.dev.on (PP_EVT_DQS_NARROW p) = true))))
  ∧ (∀ (p : Fin 48) (code : Byte) (s : State), (s.dev.pair p).zqAt + 500000 ≤ s.dev.frame →
    Completes (.zqRecalibration p code true) s (fun t => t.dev.rd (PAD_CAL_ZQ_CODE p) = code.toNat % 2 ^ (PAD_CAL_ZQ_CODE p).width ∧ (t.dev.pair p).zqNext = none
      ∧ ∀ f : Fld, f.bit ≠ (PAD_CAL_ZQ_CODE p).bit → t.dev.rd f = s.dev.rd f)
    ∧ Completes (.zqRecalibration p code false) s fun t => (t.dev.pair p).zqNext = some code.toNat ∧ ∀ f : Fld, t.dev.rd f = s.dev.rd f)

/-- COMPLETION_FETCH, CHECK_RESULT, HORIZON_EXPIRY, CONTAINMENT_RELEASE_FALL and DISAGREE_HOLD (R142, R159, R165, R166, R169). -/
def Obligations.ChecksConclude : Prop :=
  (∀ (n : Fin 96) (e : Fin 32) (x : Pend) (s : State), s.dev.pendAt n e = some x →
    let lane := LANE_VERDICT (n.val / 2 % 16)
    let poisons := fun (t : State) => x.action ≠ 1 → s.dev.state n = .released → (t.dev.gc n).poisoned = true ∧ t.dev.state n = .released
    let lim := s.dev.bgLimit (n.val / 2) 256
    (s.dev.readable n = true → s.dev.nextEntry n = some x → s.dev.frame ≤ x.born + x.horizon → ∀ b : Bytes,
      (∀ p lvl j, s.dev.nextNode n x.parts x.granule = some (p, lvl, j) →
        Completes (.completionFetch n e b) s fun t => match (s.dev.gather n 4 (nodeAddr p lvl j) 768 lim true b).1 with
          | none => x ∈ t.dev.snow.pend ∧ t.dev.rd lane = s.dev.rd lane ∧ t.dev.snow = s.dev.snow
          | some w => t.dev.rd lane = verdictOf (matches_ (s.dev.nodeExpect n p lvl j) w)
            ∧ (matches_ (s.dev.nodeExpect n p lvl j) w = false → x ∉ t.dev.snow.pend ∧ poisons t))
      ∧ (∀ f, s.dev.nextNode n x.parts x.granule = none → s.dev.frameOf n x.granule = some f →
        Completes (.completionFetch n e b) s fun t => t.dev.gstate n x.granule = some .pending ∧ x ∈ t.dev.snow.pend
          ∧ ∀ g, t.dev.frameOf n x.granule = some g → g.bytes = (((missingRun f).zip b).take lim).foldl (fun m y => SMap.put m y.1 y.2) f.bytes))
    ∧ (∀ f p, s.dev.busUp n = true → s.dev.frame ≤ x.born + x.horizon → s.dev.frameOf n x.granule = some f → partOf x.parts x.granule = some p →
      missingBytes f = [] → s.dev.missingPath n p x.granule = [] →
      let ok := matches_ (s.dev.leafExpect n p x.granule) (frameBytes f)
      Completes (.checkResult n e) s fun t => t.dev.gstate n x.granule = (if ok then some .cached else none) ∧ x ∉ t.dev.snow.pend
        ∧ t.dev.rd lane = verdictOf ok ∧ (ok = false → poisons t))
    ∧ (x.born + x.horizon ≤ s.dev.frame →
      Completes (.horizonExpiry n e) s fun t => t.dev.gstate n x.granule = none ∧ x ∉ t.dev.snow.pend ∧ poisons t))
  ∧ (∀ (n : Fin 96) (cs : Bool) (x : Fail) (xs : List Fail) (s : State), (s.dev.gc n).fails = x :: xs → s.dev.state n = .released →
    s.dev.on (COMP_STATUS_RELEASE n) = true → s.dev.frozen = false → x.frame < s.dev.frame → (cs = true ∨ x.frame + 2 ≤ s.dev.frame) →
    Completes (.containmentReleaseFall n cs) s fun t => t.dev.state n = .contained ∧ t.dev.on (COMP_STATUS_RELEASE n) = false ∧ t.dev.pendOf n = []
      ∧ (t.dev.gc n).poisoned = false ∧ (t.dev.gc n).fails = [] ∧ t.dev.on (VF_EVT_CONTAINED (n.val / 2)) = true ∧ (t.dev.comp n).thawDue = true
      ∧ t.home = s.home ∧ t.otp = s.otp)
  ∧ (∀ (p : Fin 48) (s : State), s.dev.disagreeHold = true → s.dev.disagreeDue p = true →
    Completes (.disagreeHold p) s fun t => t.dev.on (WB_STATUS_HOLD p) = true
      ∧ ∀ n ∈ gcsOf p, t.dev.held n .disagree = true ∧ (s.dev.frozen = false → t.dev.state n ≠ .released))

/-- VERIFY_STREAM_READ, PIN_FETCH, REFETCH, PREFETCH_COMPLETE and GOLDEN_AUDIT (R99, R155, R157 to R163, R192). -/
def Obligations.StreamsAndPins : Prop :=
  ∀ (n : Fin 96) (b : Bytes) (s : State),
    let ps := ((s.dev.comp n).oxm.map Oxm.parts).getD []
    let lane := LANE_VERDICT (n.val / 2 % 16)
    let gets := fun (what addr need : Nat) => (s.dev.gather n what addr need (s.dev.bgLimit (n.val / 2) 2048) false b).1
    (s.dev.readable n = true →
      (∀ (x : Stream) (w : Bytes), s.dev.up = true → (s.dev.gc n).stream = some x →
        (if (s.dev.gc n).audit then s.dev.granted5 (n.val / 2) = true ∧ s.dev.rd MON_GOV_STEP = 0 else s.dev.granted4 n = true) → ∀ ok : Bool,
        ((∃ p lvl j, s.dev.nextItem n x = some (.node p lvl j) ∧ gets 0 (nodeAddr p lvl j) 768 = some w ∧ ok = matches_ (s.dev.nodeExpect n p lvl j) w)
          ∨ (∃ p i, s.dev.nextItem n x = some (.granule p i) ∧ gets 0 (s.dev.streamAddr n x p i) 2048 = some w
            ∧ ok = matches_ (s.dev.leafExpect n p (p.base / 2048 + i)) w)) →
        Completes (.verifyStreamRead n b) s fun t => t.dev.rd lane = verdictOf ok
          ∧ (ok = false → x.what = .verify → s.dev.state n = .verifying →
            (t.dev.state n = .thawing ∨ t.dev.state n = .quarantined) ∧ t.dev.on (COMP_STATUS_READY n) = false ∧ (t.dev.gc n).stream = none)
          ∧ (∀ p, ok = true → x.what = .verify → s.dev.state n = .verifying → x.failed = false → x.parts = [(true, p)] →
            s.dev.nextItem n x = some (.granule p x.next) → p.len / 2048 ≤ x.next + 1 → s.dev.pins n = [] →
            t.dev.state n = .held ∧ t.dev.on (COMP_STATUS_READY n) = true))
      ∧ (∀ g p w, s.dev.up = true → s.dev.pinsWanted n = true → (s.dev.gc n).fails = [] → s.dev.granted4 n = true → s.dev.unpinned n = some g →
        s.dev.nextNode n ps g = none → partOf ps g = some p → gets 1 (2048 * g) 2048 = some w → (s.dev.frameOf n g ≠ none ∨ s.dev.freeBank ≠ none) →
        Completes (.pinFetch n b) s fun t => if matches_ (s.dev.leafExpect n p g) w then t.dev.gstate n g = some .pinned
          else s.dev.state n = .released → (t.dev.gc n).poisoned = true)
      ∧ (∀ (g : Fin 131072) (p : Part) (w : Bytes), (s.dev.gc n).fails = [] → s.dev.granted4 n = true → s.dev.gstate n g = some .refetch →
        s.dev.nextNode n ps g = none → partOf ps g = some p → gets 2 (2048 * g.val) 2048 = some w →
        Completes (.refetch n g b) s fun t => t.dev.gstate n g = if matches_ (s.dev.leafExpect n p g) w then some .pinned else none)
      ∧ (∀ (g : Fin 131072) (w : Bytes), s.dev.state n = .released → s.dev.mayPrefetch n g = true → s.dev.granted5 (n.val / 2) = true →
        gets 3 (2048 * g.val) 2048 = some w → s.dev.freeBank ≠ none →
        (s.dev.classAt n (2048 * g) = 2 → Completes (.prefetchComplete n g b) s fun t => t.dev.gstate n g = some .buffered)
        ∧ (∀ p, s.dev.classAt n (2048 * g) = 1 → s.dev.nextNode n ps g = none → partOf ps g = some p →
          Completes (.prefetchComplete n g b) s fun t =>
            if matches_ (s.dev.leafExpect n p g) w then t.dev.gstate n g = some .buffered
            else t.dev.gstate n g = none ∧ (n.val, g.val) ∈ t.dev.snow.noPrefetch ∧ (t.dev.gc n).fails = (s.dev.gc n).fails
              ∧ t.dev.rd (MISMATCH_CNT (n.val / 2) (n.val % 2)) = s.dev.rd (MISMATCH_CNT (n.val / 2) (n.val % 2)))))
    ∧ (∀ o, s.dev.auditDue n = true → (s.dev.comp n).golden = some o → s.dev.slotIntact o.slot = true →
      Completes (.goldenAudit n) s fun t => (t.dev.gc n).audit = true ∧ (t.dev.gc n).stream.isSome = true)
    ∧ (∀ x : Stream, (s.dev.gc n).audit = true → (s.dev.gc n).stream = some x → x.parts = [] →
      Completes (.goldenAudit n) s fun t => (t.dev.gc n).audit = false ∧ (t.dev.gc n).stream = none
        ∧ t.dev.rd (COMP_STATUS_GOLDEN n) = if x.failed then 3 else 2)

/-- R194: a thaw request leads to THAWING, or to QUARANTINED with the status of the first condition that fails. -/
def Obligations.ThawRequests : Prop :=
  ∀ (n : Fin 96) (s : State), s.dev.up = true → s.dev.state n = .contained → (s.dev.comp n).thawDue = true →
    let g := s.dev.rd (COMP_STATUS_GOLDEN n)
    let recent := (s.dev.comp n).thaws.filter fun f => decide (s.dev.frame < f + 1800000000)
    Completes (.containedThawRequest n) s fun t => (t.dev.comp n).thawDue = false ∧ t.home = s.home ∧ t.otp = s.otp
      ∧ if (g = 1 ∨ g = 2) ∧ recent.length < 3 then
          t.dev.state n = .thawing ∧ (t.dev.gc n).thaw = some { pass := 0 } ∧ (t.dev.comp n).thaws = s.dev.frame :: recent
            ∧ t.dev.rd (COMP_THAW_COUNT n) = recent.length + 1
            ∧ (s.dev.on BARO_STATUS_FULL = false → s.dev.baro.queue.length < 256 → s.dev.baro.lost = 0 →
                (t.dev.baro.queue.getLast?.map fun r => (r.code, r.source)) = some (Ev.compThawStart.code, n.val))
        else t.dev.state n = .quarantined ∧ (t.dev.gc n).thaw = none
          ∧ t.dev.rd (COMP_STATUS_LAST_STATUS n) = (if g = 4 then Status.keyRevoked else if g ≠ 1 ∧ g ≠ 2 then .noGolden else .thawLimit).code

/-- START_TICK, COMPONENT_RELEASE, MIN_HOLD_EXPIRY, THAW_PASS_END and REVOCATION_EXAMINATION (R178, R182, R188, R195 to R199). -/
def Obligations.ComponentsMove : Prop :=
  (∀ (oxms : List (Fin 96 × Bytes)) (s : State), s.dev.up = true → s.dev.ownsPorts = true → s.dev.started = false → s.dev.pol.bytes ≠ [] → s.dev.rd DRZ_STATE = 0 →
    Completes (.startTick oxms) s fun t => t.dev.started = true ∧ t.dev.rd DEV_START_TICK = s.dev.frame % 2 ^ 32)
  ∧ (∀ (n : Fin 96) (s : State),
    let ready := s.dev.state n = .held ∧ s.dev.on (COMP_STATUS_READY n) = true ∧ s.dev.pinsComplete n = true ∧ s.dev.rd (COMP_STATUS_HOLD n) = 0
      ∧ s.dev.rd CR_STATE = 1 ∧ ((s.dev.gc n).write.any fun w => !w.golden) = false
    (s.dev.awake = true → s.dev.pairState = .owning → s.dev.frozen = false → s.dev.verifyPaused = false → (s.dev.comp n).forceDue = false → ready →
      Completes (.componentRelease n) s fun t => t.dev.state n = .released ∧ t.dev.on (COMP_STATUS_RELEASE n) = true
        ∧ t.dev.rd (UP_STATE_MODE (n.val / 2) (n.val % 2)) = s.dev.rd (UP_CFG_START_MODE (n.val / 2) (n.val % 2)) % 8
        ∧ bit (t.dev.rd (RELEASED_MAP (n.val / 64))) (n.val % 64) = true ∧ t.home = s.home ∧ t.otp = s.otp)
    ∧ ((s.dev.comp n).forceDue = false → ¬ ready → exec (.componentRelease n) s = .next s)
    ∧ (s.dev.held n .minHold = true → (s.dev.comp n).fell + s.dev.rd (COMP_CFG_HOLD_MIN n) ≤ s.dev.frame →
      Completes (.minHoldExpiry n) s fun t => t.dev.held n .minHold = false ∧ (∀ h : Hold, h ≠ .minHold → t.dev.held n h = s.dev.held n h)
        ∧ ∀ f : Fld, f.bit ≠ (COMP_STATUS_HOLD n).bit → t.dev.rd f = s.dev.rd f))
  ∧ (∀ (n : Fin 96) (c : CompRec) (us : List UnitIn) (erase64 : Bool) (flash : Bytes) (stored : Bool) (k : Thaw) (s : State), s.dev.up = true →
    s.dev.state n = .thawing → (s.dev.gc n).op = none → (s.dev.gc n).entry = some c → (s.dev.gc n).thaw = some k →
    let quarantined := fun (st : Status) (t : State) => t.dev.state n = .quarantined ∧ t.dev.rd (COMP_THAW_LAST_RESULT n) = st.code
    let third := fun (t : State) => t.dev.state n = .thawing ∧ (t.dev.gc n).thaw = some { pass := 3 } ∧ t.dev.rd (COMP_THAW_PASS n) = 3
    let done := fun (t : State) => t.dev.state n = .held ∧ t.dev.on (COMP_STATUS_READY n) = true ∧ t.dev.rd (COMP_THAW_LAST_RESULT n) = 0
      ∧ t.dev.on (COMP_EVT_THAW_DONE n) = true ∧ (t.dev.gc n).thaw = none
    (∀ x : Stream, k.pass = 1 → (s.dev.gc n).stream = some x → x.parts = [] →
      (x.failed = true → Completes (.thawPassEnd n us erase64 flash stored) s fun t => quarantined .authFail t ∧ t.dev.rd (COMP_STATUS_GOLDEN n) = 3)
      ∧ (x.failed = false → Completes (.thawPassEnd n us erase64 flash stored) s fun t => t.dev.state n = .thawing ∧ t.dev.rd (COMP_STATUS_GOLDEN n) = 2
        ∧ (t.dev.gc n).thaw = some { pass := 2 } ∧ t.dev.rd (COMP_THAW_PASS n) = 2 ∧ ∃ pulse modes, .flashReset n pulse modes ∈ t.dev.out))
    ∧ (∀ (w : List WStep) (d1 : Dev) (o : Oxm), k.pass = 2 → k.writes.planned = false → us.length = (c.units 1 erase64).length →
      planUnits n c ((goldenParts (((s.dev.comp n).golden.map Oxm.parts).getD [])).map Prod.snd) ((c.units 1 erase64).zip us) s.dev = some (w, d1) →
      (∀ y ∈ w, y = .unit false) → (d1.comp n).golden = some o → (d1.gc n).thaw = some k → d1.state n = .thawing →
      Completes (.thawPassEnd n us erase64 flash stored) s fun t => third t
        ∧ (w ≠ [] → t.dev.rd (COMP_THAW_UNITS_SKIPPED n) = min (d1.rd (COMP_THAW_UNITS_SKIPPED n) + w.length) (2 ^ (COMP_THAW_UNITS_SKIPPED n).width - 1)))
    ∧ (∀ o : Oxm, k.pass = 2 → k.writes.planned = true → (s.dev.comp n).golden = some o →
      (k.writes.fault = none → Completes (.thawPassEnd n us erase64 flash stored) s third)
      ∧ ∀ st : Status, k.writes.fault = some st → Completes (.thawPassEnd n us erase64 flash stored) s (quarantined st))
    ∧ (∀ (x : Stream) (o : Oxm), k.pass = 3 → (s.dev.gc n).stream = some x → (s.dev.comp n).golden = some o →
      (k.writes.planned = true → k.writes.fault = none → Completes (.thawPassEnd n us erase64 flash true) s done)
      ∧ (k.writes.planned = true → Completes (.thawPassEnd n us erase64 flash false) s (quarantined .flashWrite))
      ∧ (k.writes.planned = false → x.parts = [] → x.failed = false → s.dev.pinsComplete n = true → bit c.oxmLoc 31 = true →
        Completes (.thawPassEnd n us erase64 flash true) s fun t => done t ∧ t.homeRead (c.oxmLoc % 2 ^ 31) o.raw.length = o.raw)))
  ∧ (∀ (n : Fin 96) (k : Nat) (o : Oxm) (s : State), s.dev.up = true → (s.dev.comp n).revoked = some k → (s.dev.comp n).oxm = some o → o.slot = k →
    Completes .revocationExamination s fun t =>
      (s.dev.state n = .released → t.dev.on (COMP_STATUS_KEY_STALE n) = true ∧ t.dev.state n = .released ∧ (t.dev.comp n).revoked = none)
      ∧ ((s.dev.state n = .held ∨ s.dev.state n = .verifying ∨ s.dev.state n = .quarantined) →
        t.dev.on (COMP_STATUS_READY n) = false ∧ (t.dev.state n = .thawing ∨ t.dev.state n = .quarantined)))

/-- COMP_HOLD, COMP_RELEASE, COMP_REVERIFY, COMP_THAW, COMP_IMAGE_WRITE, IMAGE_WRITE_COMPLETE, COMP_SVN_COMMIT and COMP_FORCE_RELEASE (R193, R194, R201 to
R204, R406). -/
def Obligations.ComponentCommands : Prop :=
  (∀ (x : Desc) (s : State), CompTaken x 0x200 s → Completes (.compHold x) s fun t => Answered x 0x200 (some .ok) t ∧ t.dev.held x.comp .holdCmd = true
    ∧ ((found x 0x200 s).state x.comp = .released → (found x 0x200 s).frozen = false →
      t.dev.state x.comp ≠ .released ∧ t.dev.on (COMP_STATUS_RELEASE x.comp) = false))
  ∧ (∀ (x : Desc) (n : Fin 96) (s : State), CompTaken x 0x201 s → x.comp = n.val → (found x 0x201 s).bistFailed n = false →
    Completes (.compRelease x) s fun t => Answered x 0x201 (some .ok) t ∧ t.dev.held x.comp .holdCmd = false
      ∧ ∀ r : Hold, r ≠ .holdCmd → t.dev.held x.comp r = (found x 0x201 s).held x.comp r)
  ∧ (∀ (x : Desc) (n : Fin 96) (s : State), CompTaken x 0x201 s → x.comp = n.val → (found x 0x201 s).bistFailed n = true →
    Completes (.compRelease x) s (CompRefused x 0x201 .componentState s))
  ∧ (∀ (x : Desc) (flash : Bytes) (c : CompRec) (s : State), CompTaken x 0x202 s → (found x 0x202 s).atRest x.comp = true →
    ((found x 0x202 s).gc x.comp).entry = some c →
    Completes (.compReverify x flash) s fun t => Answered x 0x202 (some .ok) t
      ∧ ((State.oxmAt s c flash).1 = true → (found x 0x202 s).compOxmCheck c x.comp [0, 1] (State.oxmAt s c flash).2 = none →
        (found x 0x202 s).pinTotal x.comp (parseOxm (State.oxmAt s c flash).2).parts ≤ 8192 →
        t.dev.state x.comp = .verifying ∨ (t.dev.state x.comp = .held ∧ t.dev.on (COMP_STATUS_READY x.comp) = true))
      ∧ ((State.oxmAt s c flash).1 = false →
        t.dev.on (COMP_STATUS_READY x.comp) = false ∧ (t.dev.state x.comp = .thawing ∨ t.dev.state x.comp = .quarantined)))
  ∧ (∀ (x : Desc) (flash : Bytes) (s : State), CompTaken x 0x202 s → (found x 0x202 s).atRest x.comp = true →
    ((found x 0x202 s).gc x.comp).entry = none →
    Completes (.compReverify x flash) s fun t => Answered x 0x202 (some .ok) t ∧ (t.dev.state x.comp = .thawing ∨ t.dev.state x.comp = .quarantined))
  ∧ (∀ (x : Desc) (flash : Bytes) (s : State), CompTaken x 0x202 s → (found x 0x202 s).atRest x.comp = false →
    Completes (.compReverify x flash) s (CompRefused x 0x202 .componentState s))
  ∧ (∀ (x : Desc) (s : State), CompTaken x 0x203 s → (found x 0x203 s).atRest x.comp = true →
    Completes (.compThaw x) s fun t => Answered x 0x203 (some .ok) t ∧ (t.dev.state x.comp = .thawing ∨ t.dev.state x.comp = .quarantined))
  ∧ (∀ (x : Desc) (s : State), CompTaken x 0x203 s → (found x 0x203 s).atRest x.comp = false →
    Completes (.compThaw x) s (CompRefused x 0x203 .componentState s))
  ∧ (∀ (x : Desc) (oxm : Bytes) (s : State), CompTaken x 0x204 s → (x.par 1 8 : BitVec 8).toNat ≤ 1 →
    let golden := decide ((x.par 1 8 : BitVec 8) = 1)
    let count := (x.par 8 64 : BitVec 64).toNat
    ((found x 0x204 s).imageWriteCheck x.comp golden count oxm x.src = none →
      Completes (.compImageWrite x oxm) s fun t => Answered x 0x204 none t
        ∧ (t.dev.gc x.comp).write = some { golden := golden, oxm := oxm, image := x.src, count := count, requester := x.ref, front := false })
    ∧ ∀ st : Status, (found x 0x204 s).imageWriteCheck x.comp golden count oxm x.src = some st →
      Completes (.compImageWrite x oxm) s (CompRefused x 0x204 st s))
  ∧ (∀ (x : Desc) (o : Oxm) (s : State), CompTaken x 0x205 s → (found x 0x205 s).state x.comp = .released → ((found x 0x205 s).comp x.comp).oxm = some o →
    Completes (.compSvnCommit x) s fun t => Answered x 0x205 (some .ok) t
      ∧ t.dev.rd (COMP_OXM_FLOOR x.comp) = max o.svn ((found x 0x205 s).rd (COMP_OXM_FLOOR x.comp)) % 2 ^ (COMP_OXM_FLOOR x.comp).width
      ∧ t.dev.on (COMP_OXM_FLOOR_LOST x.comp) = false)
  ∧ (∀ (x : Desc) (s : State), CompTaken x 0x205 s → (found x 0x205 s).state x.comp ≠ .released →
    Completes (.compSvnCommit x) s (CompRefused x 0x205 .componentState s))
  ∧ (∀ (x : Desc) (s : State), CompTaken x 0x206 s → (found x 0x206 s).atRest x.comp = true → (found x 0x206 s).open_ = true →
    (found x 0x206 s).held x.comp .noEntry = false →
    Completes (.compForceRelease x) s fun t => Answered x 0x206 (some .ok) t ∧ (t.dev.comp x.comp).forceDue = true)
  ∧ (∀ (x : Desc) (s : State), CompTaken x 0x206 s → (found x 0x206 s).atRest x.comp = true → (found x 0x206 s).open_ = false →
    Completes (.compForceRelease x) s (CompRefused x 0x206 .lifecycleDenied s))
  ∧ (∀ (x : Desc) (s : State), CompTaken x 0x206 s → (found x 0x206 s).atRest x.comp = false →
    Completes (.compForceRelease x) s (CompRefused x 0x206 .componentState s))
  ∧ (∀ (n : Fin 96) (erase64 : Bool) (units sectors : List Bytes) (flash : Bytes) (w : ImgWrite) (c : CompRec) (s : State), s.dev.up = true →
    (s.dev.gc n).op = none → (s.dev.gc n).write = some w → w.writes.planned = true → (s.dev.gc n).entry = some c →
    (imageOutcome c w ≠ .ok ∨ w.golden = true ∨ w.storing = true) →
    Completes (.imageWriteComplete n erase64 units sectors flash) s fun t =>
      (t.dev.gc n).write = none ∧ (∀ o ∈ t.dev.ops, o.ref = w.requester → o.status ≠ none)
      ∧ t.dev.rd (COMP_STATUS_LAST_STATUS n) = (imageOutcome c w).code
      ∧ (imageOutcome c w = .ok → w.golden = true → t.dev.rd (COMP_STATUS_GOLDEN n) = 1 ∧ (t.dev.comp n).golden = some (parseOxm w.oxm))
      ∧ (imageOutcome c w = .ok → w.golden = false → s.dev.state n ≠ .thawing → (t.dev.comp n).oxm = some (parseOxm w.oxm)
        ∧ (t.dev.state n = .verifying ∨ (t.dev.state n = .held ∧ t.dev.on (COMP_STATUS_READY n) = true))))
  ∧ (∀ (c : CompRec) (w : ImgWrite), (w.image.length < w.count → imageOutcome c w = .lengthMismatch)
    ∧ ∀ st, w.count ≤ w.image.length → w.writes.fault = some st → imageOutcome c w = st)

/-- POLICY_LOAD, POLICY_READ, POLICY_STORE and POLICY_SWAP (R120, R122, R136 to R139). -/
def Obligations.PolicyLoads : Prop :=
  (∀ (x : Desc) (oxms : List (Fin 96 × Bytes)) (s : State), Taken x 0x300 s →
    let d := found x 0x300 s
    (∀ k, x.ref.port ≠ .i3c k) → d.ownsPorts = true → d.frontBusy = false → d.pol.load = none → d.anyStaged = false →
    Completes (.policyLoad x oxms) s fun t => t.dev.pol.bytes = d.pol.bytes ∧ t.home = s.home ∧ t.otp = s.otp
      ∧ match (({ s with dev := d } : State).sawLoad oxms x.src (if d.inForce then some (d.rd POL_SEQ) else none)).policyCheck oxms x.src
          (if d.inForce then some (d.rd POL_SEQ) else none) with
        | none => Answered x 0x300 none t ∧ t.dev.pol.load = some x.src ∧ t.dev.rd POL_STATUS_STATE = 3
        | some st => Answered x 0x300 (some st) t ∧ t.dev.pol.load = none ∧ t.dev.rd POL_STATUS_LAST_LOAD = st.code)
  ∧ (∀ (x : Desc) (s : State), Taken x 0x301 s → x.src = [] → (found x 0x301 s).pol.bytes.length ≤ x.dstLen →
    Completes (.policyRead x) s fun t => (∃ p ∈ t.dev.ops, p.ref = x.ref ∧ p.status = some .ok ∧ p.dst = (found x 0x301 s).pol.bytes)
      ∧ t.dev.pol = (found x 0x301 s).pol ∧ t.home = s.home ∧ t.otp = s.otp)
  ∧ (∀ (b : Bytes) (s : State), s.dev.up = true → s.dev.pol.load = some b → s.dev.pol.stored = false → s.dev.otpx.burns = [] → b.length ≤ 0x100000 →
    let place := policyPlace (if s.dev.inForce then 1 - s.dev.rd POL_STATUS_COPY else 0)
    let elsewhere := fun (t : State) => (∀ a, (a < place ∨ place + 0x100000 ≤ a) → SMap.get (fun _ => (0xFF : Byte)) t.home a = SMap.get (fun _ => 0xFF) s.home a)
    (bit (parsePolicy b).flags 0 = false → Completes (.policyStore true) s fun t => t.dev.pol.stored = true ∧ t.homeRead place b.length = b ∧ elsewhere t)
    ∧ Completes (.policyStore false) s fun t => t.dev.pol.load = none ∧ t.dev.pol.bytes = s.dev.pol.bytes
      ∧ t.dev.rd POL_STATUS_LAST_LOAD = Status.flashWrite.code ∧ elsewhere t)
  ∧ (∀ (n : Fin 96) (flash : Bytes) (s : State), s.dev.up = true →
    (∀ b r, s.dev.pol.load = some b → s.dev.pol.stored = true → s.dev.pol.todo = [n.val] → s.dev.pol.requester = some r →
      (parsePolicy b).comp n = (s.dev.gc n).entry → s.dev.pairChanges (parsePolicy b) (n.val / 2) = false → (s.dev.gc n).staged = none →
      Completes (.policySwap n flash) s fun t => t.dev.pol = { bytes := b } ∧ t.dev.rd POL_SEQ = (parsePolicy b).seq % 2 ^ POL_SEQ.width
        ∧ (∀ o ∈ t.dev.ops, o.ref = r → o.status ≠ none) ∧ t.dev.gcs = s.dev.gcs ∧ t.home = s.home)
    ∧ (∀ e, s.dev.pol.load = none → (s.dev.gc n).staged = some e → s.dev.state n = .held → (s.dev.pair (n.val / 2)).staged = none →
      Completes (.policySwap n flash) s fun t => (t.dev.gc n).entry = e ∧ t.dev.held n .noEntry = e.isNone))

/-- OTP_READ, OTP_PROGRAM, OTP_REBURN, OTP_LOCK, KEY_REVOKE and OTP_PULSE_END (R353 to R360, R364). -/
def Obligations.OtpCommands : Prop :=
  let same := fun (s t : State) => t.home = s.home ∧ t.otp = s.otp
  let runs := fun (x : Desc) (o : Nat) (s : State) (l : List BurnStep) (t : State) =>
    if unburned s l then Answered x o none t ∧ Burning (some x.ref) t else Answered x o (some .ok) t ∧ t.dev.otpx.burns = []
  (∀ (x : Desc) (s : State),
    let w := (x.par 0 16 : BitVec 16).toNat
    let n := (x.par 2 16 : BitVec 16).toNat
    Taken x 0x600 s → State.oneRegion w n = true → x.src = [] → 4 * n ≤ x.dstLen →
    Completes (.otpRead x) s fun t => same s t ∧ if s.readLocked (w / 64) then Answered x 0x600 (some .otpLocked) t
      else Gives x 0x600 t fun q => q.dst = (List.range' w n).flatMap (fun v => leBytes 4 (s.word v).normal)
        ∧ q.status = some (if (List.range' w n).any fun v => (s.word v).weak then .otpWeak else .ok))
  ∧ (∀ (x : Desc) (s : State),
    let w := (x.par 0 16 : BitVec 16).toNat
    let n := (x.par 2 16 : BitVec 16).toNat
    let f : State := { s with dev := found x 0x601 s }
    let steps := (List.range n).map fun i => BurnStep.word (w + i) (leAt x.src (4 * i) 4) false
    Taken x 0x601 s → State.oneRegion w n = true → x.src.length = 4 * n →
    (f.mayProgram (w / 64) = false → Completes (.otpProgram x) s fun t => same s t ∧ Answered x 0x601 (some .lifecycleDenied) t)
    ∧ (f.mayProgram (w / 64) = true →
      (s.regionState (w / 64) ≠ 0 → Completes (.otpProgram x) s fun t => same s t ∧ Answered x 0x601 (some .otpLocked) t)
      ∧ (s.regionState (w / 64) = 0 → (∀ i < n, subset (s.word (w + i)).low (leAt x.src (4 * i) 4) = true) →
        (f.dev.otpSupply = false → unburned s steps = true → Completes (.otpProgram x) s fun t => same s t ∧ Answered x 0x601 (some .otpNoSupply) t)
        ∧ ((f.dev.otpSupply = true ∨ unburned s steps = false) → f.dev.otpx.burns = [] →
          Completes (.otpProgram x) s fun t => same s t ∧ runs x 0x601 s steps t))))
  ∧ (∀ (x : Desc) (s : State),
    let w := (x.par 0 16 : BitVec 16).toNat
    Taken x 0x602 s → w < 2048 → x.src.length = 4 → s.writeLocked (w / 64) = false →
    subset (s.word w).low (leAt x.src 0 4) = true → (found x 0x602 s).otpSupply = true → (found x 0x602 s).otpx.burns = [] →
    Completes (.otpReburn x) s fun t => same s t ∧ runs x 0x602 s [.word w (leAt x.src 0 4) true] t)
  ∧ (∀ (x : Desc) (s : State),
    let g := (x.par 0 8 : Byte).toNat
    let read := x.raw.getLsbD 264
    let force := x.raw.getLsbD 265
    Taken x 0x603 s → x.src = [] → lockable g = true → s.sealBad g = false →
    (s.writeLocked g = true → (read = false ∨ s.readLocked g = true) → Completes (.otpLock x) s fun t => same s t ∧ Answered x 0x603 (some .otpLocked) t)
    ∧ ((s.writeLocked g = false ∨ (read = true ∧ s.readLocked g = false)) →
      (s.regionState g = 0 → s.blankFields g ≠ 0 → force = false → Completes (.otpLock x) s fun t => same s t
        ∧ Gives x 0x603 t fun q => q.status = some .lockIncomplete ∧ q.result0 = s.blankFields g)
      ∧ ((s.regionState g ≠ 0 ∨ s.blankFields g = 0 ∨ force = true) → (found x 0x603 s).otpSupply = true → (found x 0x603 s).otpx.burns = [] →
        Completes (.otpLock x) s fun t => same s t ∧ runs x 0x603 s (State.lockSteps g s.value read) t)))
  ∧ (∀ (x : Desc) (s : State),
    let k := (x.par 0 8 : Byte).toNat
    let d := found x 0x604 s
    let other := fun (j : Nat) => j ≠ k && d.slotUsable j && bits (d.rd LC_OKS_CLASS) (2 * j) 2 = bits (d.rd LC_OKS_CLASS) (2 * k) 2
    Taken x 0x604 s → k < 8 → d.otpSupply = true → d.otpx.burns = [] →
    Completes (.keyRevoke x) s fun t => same s t ∧ match (if d.open_ then none else d.tokenCheck 1 k (List.replicate 16 0) 0 (some k) x.src) with
      | some st => Answered x 0x604 (some st) t ∧ t.dev.rd LC_STATE_LAST_STATUS = st.code
      | none => if d.slotUsable k && !(List.range 8).any other then Answered x 0x604 (some .lastOwnerKey) t
        else runs x 0x604 s [.word (128 + k) 0xFFFFFFFF true] t)
  ∧ (∀ (nrm hi lo : Bool) (b : Burn) (rest : List Burn) (w i : Nat) (s : State), s.dev.otpx.burns = b :: rest → b.pulse = some (w, i) →
    Completes (.otpPulseEnd nrm hi lo) s fun t => t.home = s.home ∧ t.word w = (s.word w).burn i nrm hi lo ∧ (∀ v, v ≠ w → t.word v = s.word v)
      ∧ t.dev.rd OTP_PULSE_CNT = min (s.dev.rd OTP_PULSE_CNT + 1) (2 ^ 32 - 1)
      ∧ (hi = false → b.steps ≠ [] →
        (b.tries < 3 → t.dev.otpx.burns = { b with tries := b.tries + 1, pulses := b.pulses + 1 } :: rest)
        ∧ (3 ≤ b.tries → rest = [] → t.dev.otpx.burns = [] ∧ t.dev.rd OTP_STATUS_LAST_STATUS = Status.otpProgramFail.code
          ∧ ∀ r, b.requester = some r → ∀ o ∈ t.dev.ops, o.ref = r → o.status ≠ none)))

/-- LC_TRANSITION, DEBUG_CHALLENGE, DEBUG_RESPONSE, CHALLENGE_EXPIRY, ZEROISE, OTP_RECHECK, REPAIR_RETRY, LC_REPAIR_RETRY and REPAIR_CTL_GO. -/
def Obligations.LifeCycleAndDebug : Prop :=
  let same := fun (s t : State) => t.home = s.home ∧ t.otp = s.otp
  let runs := fun (x : Desc) (o : Nat) (s : State) (l : List BurnStep) (t : State) =>
    if unburned s l then Answered x o none t ∧ Burning (some x.ref) t else Answered x o (some .ok) t ∧ t.dev.otpx.burns = []
  (∀ (x : Desc) (s : State),
    let k := (x.par 0 8 : Byte)
    let f : State := { s with dev := found x 0x608 s }
    Taken x 0x608 s → k.toNat < 4 →
    Completes (.lcTransition x) s fun t => same s t ∧ match f.transitionRefusal x k.toNat with
      | some st => Answered x 0x608 (some st) t ∧ t.dev.otpx.burns = f.dev.otpx.burns ∧ t.dev.rd LC_STATE_LAST_STATUS = st.code
      | none => (f.dev.otpSupply = false → Answered x 0x608 (some .otpNoSupply) t ∧ t.dev.otpx.burns = f.dev.otpx.burns)
        ∧ (f.dev.otpSupply = true → f.dev.otpx.burns = [] →
          runs x 0x608 s (f.transitionSteps k.toNat (if k = 1 then (f.dev.generate 32).1 else []) x.ref) t))
  ∧ (∀ (x : Desc) (s : State),
    let level := (x.par 0 8 : Byte).toNat
    let d := found x 0x609 s
    Taken x 0x609 s → 1 ≤ level → level ≤ 3 → x.src = [] → 128 ≤ x.dstLen →
    Completes (.debugChallenge x) s fun t => same s t ∧ if d.challengeDenied level then Answered x 0x609 (some .lifecycleDenied) t
      else if d.rngDead then Answered x 0x609 (some .entropyFail) t
      else ∃ b, t.dev.dbg.challenge = some (b, d.frame + 150000000) ∧ t.dev.on DBG_STATE_CHALLENGE_OPEN = true ∧ t.dev.rd DBG_CHALLENGE_LEFT = 150000000
        ∧ Gives x 0x609 t fun q => q.status = some .ok ∧ q.dst = b ∧ b.length = 128)
  ∧ (∀ (x : Desc) (s : State), Taken x 0x60A s →
    let d := found x 0x60A s
    let level := leAt x.src 6 1
    Completes (.debugResponse x) s fun t => same s t ∧ t.dev.dbg.challenge = none ∧ t.dev.on DBG_STATE_CHALLENGE_OPEN = false ∧ match d.responseCheck x.src with
      | some st => Answered x 0x60A (some st) t ∧ t.dev.rd DBG_STATE_LAST_STATUS = st.code
          ∧ t.dev.rd DBG_DENIED_CNT = min (d.rd DBG_DENIED_CNT + 1) (2 ^ DBG_DENIED_CNT.width - 1) ∧ t.dev.rd DBG_STATE_LEVEL = d.rd DBG_STATE_LEVEL
      | none => (level = 3 → Answered x 0x60A (some .ok) t ∧ t.dev.rd DBG_STATE_LEVEL = 3 ∧ t.dev.on DBG_STATE_GRANTED = true)
        ∧ (level ≠ 3 → d.otpSupply = false → Answered x 0x60A (some .otpNoSupply) t ∧ t.dev.rd DBG_STATE_LEVEL = d.rd DBG_STATE_LEVEL)
        ∧ (level ≠ 3 → d.otpSupply = true → d.otpx.burns = [] → runs x 0x60A s (State.counterSteps 72 (s.counter 72 2) (s.counter 72 2 + 1)) t))
  ∧ (∀ (b : Bytes) (f : Nat) (s : State), s.dev.dbg.challenge = some (b, f) →
    (f ≤ s.dev.frame → Completes .challengeExpiry s fun t => same s t ∧ t.dev.dbg.challenge = none ∧ t.dev.on DBG_STATE_CHALLENGE_OPEN = false
      ∧ t.dev.rd DBG_CHALLENGE_LEFT = 0)
    ∧ (s.dev.frame < f → exec .challengeExpiry s = .next s))
  ∧ (∀ (x : Desc) (s : State), Taken x 0x60B s → (x.par 0 32 : Word).toNat = 0x5A45524F → x.src = [] → Completes (.zeroise x) s fun t => same s t
    ∧ t.dev.otpx.secretClosed = true ∧ (∀ k < 1024, 1 ≤ k → t.dev.on (KS_SLOT_VALID k) = false)
    ∧ ((found x 0x60B s).otpSupply = false → Answered x 0x60B (some .otpNoSupply) t ∧ t.dev.rd ATT_ID_STATE = 2 ∧ t.dev.otpx.zeroiseDue = true ∧ t.dev.on OTP_STATUS_REPAIR_WAIT = true)
    ∧ ((found x 0x60B s).otpSupply = true → (found x 0x60B s).otpx.burns = [] → runs x 0x60B s State.zeroiseSteps t ∧ t.dev.rd ATT_ID_STATE = 2))
  ∧ (∀ (hi lo : Word) (s : State), s.dev.awake = true → s.dev.otpx.burns = [] → s.dev.otpx.recheckAt + 10 ≤ s.dev.frame →
    let w := s.dev.otpx.recheck
    let n := (s.word w).normal
    Completes (.otpRecheck hi lo) s fun t => t.home = s.home ∧ t.word w = ⟨n, hi.toNat &&& n, lo.toNat ||| n⟩ ∧ (∀ v, v ≠ w → t.word v = s.word v)
      ∧ t.dev.otpx.recheck = (w + 1) % 2048 ∧ t.dev.otpx.recheckAt = s.dev.frame
      ∧ ((t.word w).weak = true → t.dev.on OTP_STATUS_WEAK_SEEN = true ∧ t.dev.rd OTP_LAST_WEAK_WORD = w % 2 ^ OTP_LAST_WEAK_WORD.width
        ∧ w ∈ t.dev.otpx.weakSeen)
      ∧ ((t.word w).weak = false → t.dev.rd OTP_STATUS_WEAK_SEEN = s.dev.rd OTP_STATUS_WEAK_SEEN ∧ t.dev.otpx.weakSeen = s.dev.otpx.weakSeen))
  ∧ (∀ s : State, s.dev.otpx.burns = [] →
    (s.dev.up = true → s.dev.on OTP_STATUS_REPAIR_WAIT = true → s.dev.otpx.retryAt + 500000 ≤ s.dev.frame → Completes .repairRetry s fun t => same s t
      ∧ t.dev.otpx.retryAt = s.dev.frame ∧ if s.dev.otpSupply && unburned s s.repairSteps then Burning none t
        else t.dev.otpx.burns = [] ∧ t.dev.on OTP_STATUS_REPAIR_WAIT = !s.dev.otpSupply)
    ∧ (s.dev.phase = .lcRepair →
      let tried := fun (t : State) => same s t ∧ t.dev.otpx.retryAt = s.dev.frame
        ∧ if s.dev.otpSupply && unburned s (s.lcSteps (s.dev.rd LC_STATE_STATE)) then Burning none t
          else t.dev.otpx.burns = [] ∧ t.dev.run.resetDue = if s.dev.otpSupply then some (s.dev.frame + 1) else s.dev.run.resetDue
      (s.dev.otpx.retryAt + 500000 ≤ s.dev.frame → Completes .lcRepairRetry s tried) ∧ Completes .repairCtlGo s tried))

/-- DIGEST, DIGEST_INIT, DIGEST_UPDATE, DIGEST_FINAL, CTX_EXPORT, CTX_IMPORT, CTX_DESTROY, CONTEXT_AUTO_IMPORT and NO_CONTEXT_TIMEOUT. -/
def Obligations.DigestCommands : Prop :=
  (∀ (x : Desc) (expect : Bytes) (k : Option Bytes) (attr : Nat) (s : State),
    let p := x.digest
    p.alg ≤ 7 → p.inRange = true →
    (CryptoTaken x 0x100 s → x.src.length = p.total →
      let d := found x 0x100 s
      d.digestKey (issuer x.ref.port) p = .ok (k, attr) → d.destRefusal (issuer x.ref.port) attr p = none →
      let out := ((d.newCtx x.ref p k attr true).1.absorb x.src).digest
      let quiet := p.keyed && p.expectLen ≠ 0
      (d.ctxFree (x.ref.port = .fw) = true → Completes (.digest x expect) s fun t => Gives x 0x100 t (fun q => q.status = some .ok
          ∧ q.verdict = (if p.expectLen = 0 then 0 else verdictOf (out.take p.expectLen = expect.take p.expectLen))
          ∧ q.result0 = out.length ∧ q.dst = if p.dest = 1 ∧ quiet = false then out else [])
        ∧ (p.dest = 2 → quiet = false → (t.dev.key p.destSlot).bytes = out))
      ∧ (d.ctxFree (x.ref.port = .fw) = false → Completes (.digest x expect) s (Answered x 0x100 none)))
    ∧ (CryptoTaken x 0x101 s →
      let d := found x 0x101 s
      d.liveCtxs (issuer x.ref.port) < 4096 → d.digestKey (issuer x.ref.port) p = .ok (k, attr) →
      Completes (.digestInit x) s fun t => t.dev.crypto.ctxs.length = d.crypto.ctxs.length + 1
        ∧ if d.ctxFree (x.ref.port = .fw) then ∃ h, Gives x 0x101 t (fun q => q.status = some .ok ∧ q.result0 = h) ∧ (t.dev.ctx h).isSome = true
          else Answered x 0x101 none t))
  ∧ (∀ (x : Desc) (expect : Bytes) (c : Ctx) (s : State), c.fnum = issuer x.ref.port → c.ring = x.ref.ring → c.once = false →
    c.fw = decide (x.ref.port = .fw) → c.place = .internal →
    let p := x.digest
    let on := fun (o : Nat) => CryptoTaken x o s ∧ (found x o s).ctx p.handle = some c ∧ (found x o s).awaited c.handle = false
    let ended := fun (t : State) => (t.dev.ctx p.handle).map Ctx.once = some true
    (on 0x102 → x.src.length = p.chunk →
      Completes (.digestUpdate x) s fun t => if c.count + p.chunk ≤ c.total
        then Answered x 0x102 (some .ok) t ∧ t.dev.ctx p.handle = some (c.absorb x.src)
        else Answered x 0x102 (some .lengthMismatch) t ∧ ended t
          ∧ t.dev.rd CR_LENGTH_ERR_CNT = min ((found x 0x102 s).rd CR_LENGTH_ERR_CNT + 1) (2 ^ CR_LENGTH_ERR_CNT.width - 1))
    ∧ (on 0x103 → c.count = c.total → x.src = [] → p.expectLen = 0 → p.dest = 1 →
      Completes (.digestFinal x expect) s fun t => ended t ∧ Gives x 0x103 t fun q => q.status = some .ok ∧ q.dst = c.digest)
    ∧ (on 0x108 → p.save % 512 = 0 →
      Completes (.ctxExport x) s fun t => Answered x 0x108 none t ∧ t.dev.ctx p.handle = some c
        ∧ ∃ y ∈ t.dev.crypto.deferred, y.desc = x ∧ y.opcode = 0x108 ∧ y.param.handle = p.handle)
    ∧ (on 0x10A → Completes (.ctxDestroy x) s fun t => Answered x 0x10A (some .ok) t ∧ ended t))
  ∧ (∀ (p : DigestParam) (c : Ctx) (d : Dev), d.ctx c.handle = some c → (p.save ≠ 0 ∨ c.save ≠ 0) → c.keyed = false →
    (exportOn p c d).1.status = some .ok ∧ ((exportOn p c d).2.ctx c.handle).map Ctx.place = some .exported
      ∧ (exportOn p c d).2.rd CR_EXPORT_CNT = min (d.rd CR_EXPORT_CNT + 1) (2 ^ CR_EXPORT_CNT.width - 1))
  ∧ (∀ (x : Desc) (s : State),
    let save := (x.par 0x18 64 : BitVec 64).toNat
    CryptoTaken x 0x109 s → save % 512 = 0 → x.src.length = 512 → (found x 0x109 s).liveCtxs (issuer x.ref.port) < 4096 →
    Completes (.ctxImport x) s fun t => Answered x 0x109 none t ∧ t.dev.crypto.imports = (found x 0x109 s).crypto.imports ++ [(x, save)])
  ∧ (∀ (x : Desc) (save : Nat) (d : Dev), (∃ o ∈ d.ops, o.ref = x.ref ∧ o.status = none) → match d.importCheck (issuer x.ref.port) x.src with
    | .ok c => ∃ h, (∃ o ∈ (d.importNow x save).ops, o.ref = x.ref ∧ o.status = some .ok ∧ o.result0 = h)
        ∧ ∃ c' ∈ (d.importNow x save).crypto.ctxs, c'.handle = h ∧ c'.count = c.count ∧ c'.total = c.total ∧ c'.chain = c.chain ∧ c'.buf = c.buf
    | .error st => (∃ o ∈ (d.importNow x save).ops, o.ref = x.ref ∧ o.status = some st) ∧ (d.importNow x save).crypto.ctxs = d.crypto.ctxs)
  ∧ (∀ (h : BitVec 32) (b : Bytes) (c : Ctx) (s : State), s.dev.ctx h.toNat = some c →
    let mine := fun (y : Deferred) => y.param.handle = h.toNat
    (c.place = .exported → s.dev.ctxFree false = true → s.dev.rd CR_STATE = 1 → s.dev.crypto.imported < 4 → s.dev.awaited h.toNat = true →
      Completes (.contextAutoImport h b) s fun t => match s.dev.importCheck c.fnum b with
        | .ok _ => t.dev.rd CR_IMPORT_CNT = min (s.dev.rd CR_IMPORT_CNT + 1) (2 ^ CR_IMPORT_CNT.width - 1)
            ∧ ((∀ y ∈ s.dev.crypto.deferred, mine y → y.opcode ≠ 0x108) → (∀ y ∈ t.dev.crypto.deferred, ¬ mine y)
              ∧ ∀ y ∈ s.dev.crypto.deferred, mine y → ∀ o ∈ t.dev.ops, o.ref = y.desc.ref → o.status ≠ none)
        | .error _ => (∀ y ∈ t.dev.crypto.deferred, ¬ mine y) ∧ (∀ y ∈ s.dev.crypto.deferred, mine y → ∀ o ∈ t.dev.ops, o.ref = y.desc.ref → o.status ≠ none)
            ∧ t.dev.crypto.ctxs = s.dev.crypto.ctxs)
    ∧ (∀ since, c.place = .waiting since → since + 500 ≤ s.dev.frame →
      Completes (.noContextTimeout h) s fun t => t.dev.ctx h.toNat = none
        ∧ (∀ o ∈ t.dev.ops, o.status = some .noContext ∨ o ∈ s.dev.ops) ∧ ∀ o ∈ s.dev.ops, o.ctx = h.toNat → ∃ o' ∈ t.dev.ops, o'.ref = o.ref ∧ o'.status = some .noContext))

/-- KDF, KS_GENERATE, KS_UNWRAP, KS_WRAP, KS_ERASE, KS_ASSIGN and KEY_LOAD (R231 to R236). -/
def Obligations.KeyCommands : Prop :=
  (∀ (x : Desc) (s : State),
    let ks := (x.par 0 16 : BitVec 16)
    let ds := (x.par 2 16 : BitVec 16)
    let type := (x.par 4 8 : Byte)
    let attr := (x.par 5 8 : Byte)
    let outLen := (x.par 6 16 : BitVec 16)
    let ll := (x.par 8 8 : Byte)
    let cl := (x.par 9 8 : Byte)
    let dest := (x.par 0xA 8 : Byte)
    let d := found x 0x110 s
    let out := kdf (d.key ks.toNat).bytes (x.src.take ll.toNat) (x.src.drop ll.toNat) outLen.toNat
    CryptoTaken x 0x110 s → 1 ≤ ll.toNat → ll.toNat ≤ 64 → cl.toNat ≤ 64 → x.src.length = ll.toNat + cl.toNat →
    (d.sourceSlot (issuer x.ref.port) ks.toNat = true → d.grants ks.toNat 1 = true →
      (dest = 1 → 1 ≤ outLen.toNat → outLen.toNat ≤ 1024 → outLen.toNat ≤ x.dstLen → d.grants ks.toNat 5 = true →
        Completes (.kdf x) s fun t => Gives x 0x110 t fun q => q.status = some .ok ∧ q.dst = out ∧ q.result0 = outLen.toNat)
      ∧ (dest = 2 → 16 ≤ outLen.toNat → outLen.toNat ≤ 64 → d.emptyOwn (issuer x.ref.port) ds.toNat = true → suits type.toNat attr.toNat = true →
        typeLen type.toNat outLen.toNat = true → within (d.rd (KS_SLOT_ATTR ks.toNat)) attr.toNat = true →
        Completes (.kdf x) s fun t => Answered x 0x110 (some .ok) t ∧ t.dev.on (KS_SLOT_VALID ds.toNat) = true
          ∧ (t.dev.key ds.toNat).bytes = out ∧ t.dev.rd (KS_SLOT_ATTR ds.toNat) = attr.toNat % 2 ^ (KS_SLOT_ATTR ds.toNat).width))
    ∧ (d.sourceSlot (issuer x.ref.port) ks.toNat = false → dest = 1 → 1 ≤ outLen.toNat → outLen.toNat ≤ 1024 →
      Completes (.kdf x) s fun t => Answered x 0x110 (some .keySlot) t ∧ t.dev.crypto.keys = d.crypto.keys))
  ∧ (∀ (x : Desc) (pairwise : Bool) (s : State),
    let slot := (x.par 2 16 : BitVec 16)
    let type := (x.par 4 8 : Byte)
    let attr := (x.par 5 8 : Byte)
    let d := found x 0x118 s
    CryptoTaken x 0x118 s →
    type.toNat ≤ 4 → x.src = [] → x.dstLen = publicLen type.toNat → d.emptyOwn (issuer x.ref.port) slot.toNat = true → suits type.toNat attr.toNat = true → d.rngDead = false →
    Completes (.ksGenerate x pairwise) s fun t =>
      if 2 ≤ type.toNat ∧ pairwise = false then Answered x 0x118 (some .selftestFail) t ∧ t.dev.on (KS_SLOT_VALID slot.toNat) = false
      else Answered x 0x118 (some .ok) t ∧ t.dev.on (KS_SLOT_VALID slot.toNat) = true
        ∧ (t.dev.key slot.toNat).bytes.length = (if type.toNat = 1 then 64 else if type.toNat = 2 then 48 else 32) ∧ (t.dev.key slot.toNat).uses = 0)
  ∧ (∀ (x : Desc) (s : State),
    let ks := (x.par 0 16 : BitVec 16)
    let slot := (x.par 2 16 : BitVec 16)
    let type := (x.par 4 8 : Byte)
    let d := found x 0x119 s
    CryptoTaken x 0x119 s →
    type.toNat ≤ 4 → d.sourceSlot (issuer x.ref.port) ks.toNat = true → d.emptyOwn (issuer x.ref.port) slot.toNat = true → d.grants ks.toNat 3 = true →
    x.src.length % 8 = 0 → 32 ≤ x.src.length → x.src.length ≤ 80 →
    Completes (.ksUnwrap x) s fun t => match Config.kwUnwrap (d.key ks.toNat).bytes x.src with
      | none => Answered x 0x119 (some .authFail) t ∧ t.dev.on (KS_SLOT_VALID slot.toNat) = false
          ∧ t.dev.rd AES_KW_FAIL = min (d.rd AES_KW_FAIL + 1) (2 ^ AES_KW_FAIL.width - 1)
      | some b => b.length = 8 + (leAt b 2 1 + 7) / 8 * 8 → zeroAt b 3 5 = true → leAt b 1 1 = type.toNat → suits type.toNat (leAt b 0 1) = true →
          typeLen type.toNat (leAt b 2 1) = true → Answered x 0x119 (some .ok) t ∧ (t.dev.key slot.toNat).bytes = slice b 8 (leAt b 2 1)
            ∧ t.dev.on (KS_SLOT_VALID slot.toNat) = true)
  ∧ (∀ (x : Desc) (s : State),
    let ks := (x.par 0 16 : BitVec 16)
    let slot := (x.par 2 16 : BitVec 16)
    let d := found x 0x11A s
    let n := ((d.key slot.toNat).bytes.length + 7) / 8 * 8
    CryptoTaken x 0x11A s → d.sourceSlot (issuer x.ref.port) ks.toNat = true → d.sourceSlot (issuer x.ref.port) slot.toNat = true → d.grants ks.toNat 3 = true → d.grants slot.toNat 6 = true →
    x.dstLen = 16 + n →
    Completes (.ksWrap x) s fun t => Gives x 0x11A t (fun q => q.status = some .ok ∧ q.result0 = 16 + n) ∧ t.dev.crypto.keys = d.crypto.keys)
  ∧ (∀ (x : Desc) (s : State),
    let slot := (x.par 2 16 : BitVec 16)
    CryptoTaken x 0x11B s → (found x 0x11B s).sourceSlot (issuer x.ref.port) slot.toNat = true →
    Completes (.ksErase x) s fun t => Answered x 0x11B (some .ok) t ∧ t.dev.key slot.toNat = {} ∧ t.dev.on (KS_SLOT_VALID slot.toNat) = false
      ∧ ∀ v, v ≠ slot.toNat → t.dev.key v = (found x 0x11B s).key v)
  ∧ (∀ (x : Desc) (s : State),
    let first := (x.par 0 16 : BitVec 16)
    let count := (x.par 2 16 : BitVec 16)
    let f := (x.par 4 8 : Byte)
    CryptoTaken x 0x11C s → 64 ≤ first.toNat → first.toNat ≤ 1023 → first.toNat + count.toNat ≤ 1024 →
    Completes (.ksAssign x) s fun t => Answered x 0x11C (some .ok) t
      ∧ ∀ v, first.toNat ≤ v → v < first.toNat + count.toNat → t.dev.on (KS_SLOT_VALID v) = false ∧ t.dev.rd (KS_SLOT_OWNER v) = f.toNat)
  ∧ (∀ s : State, s.dev.awake = true → s.dev.cst .ks = .active →
    let d := s.dev
    let k := d.rd KS_LOAD_CTL_SLOT
    (d.open_ = true → d.emptyOwn 0 k = true → suits (d.rd KS_LOAD_CTL_TYPE) (d.rd KS_LOAD_CTL_ATTR) = true → typeLen (d.rd KS_LOAD_CTL_TYPE) (d.rd KS_LOAD_CTL_LEN) = true →
      Completes .keyLoad s fun t => t.dev.on (KS_SLOT_VALID k) = true ∧ (∀ i < 8, t.dev.rd (KS_KEY_IN i) = 0)
        ∧ (t.dev.key k).bytes = ((List.range 8).flatMap fun i => leBytes 8 (d.rd (KS_KEY_IN i))).take (d.rd KS_LOAD_CTL_LEN))
    ∧ (d.open_ = false → Completes .keyLoad s fun t => t.dev.on KS_EVT_LOAD_REFUSED = true ∧ t.dev.crypto = s.dev.crypto
        ∧ ∀ g : Fld, g.bit ≠ KS_EVT_LOAD_REFUSED.bit → t.dev.rd g = s.dev.rd g))

/-- AES_GCM_ENC, AES_GCM_DEC, SIG_SIGN, SIG_VERIFY, RNG_GET and CRYPTO_SELFTEST (R225, R237 to R244). -/
def Obligations.EngineCommands : Prop :=
  (∀ (x : Desc) (s : State),
    let ks := (x.par 0 16 : BitVec 16)
    let aad := (x.par 4 32 : Word)
    let n := (x.par 8 32 : Word)
    let iv := (x.par 0xC 96 : BitVec 96)
    aad.toNat ≤ 65536 → n.toNat ≤ 0x1000000 →
    (CryptoTaken x 0x120 s → x.src.length = aad.toNat + n.toNat → x.dstLen = n.toNat + 16 →
      let d := found x 0x120 s
      d.sourceSlot (issuer x.ref.port) ks.toNat = true → d.grants ks.toNat 2 = true → d.rngDead = false → (d.key ks.toNat).uses < 2 ^ 32 →
      Completes (.aesGcmEnc x) s fun t => (∃ v : Bytes, Gives x 0x120 t fun q => q.status = some .ok
          ∧ q.dst = slice (Config.gcmEnc (d.key ks.toNat).bytes v (x.src.take aad.toNat) (x.src.drop aad.toNat)) 0 (n.toNat + 16)
          ∧ q.result0 = leAt v 0 8 ∧ q.result1 = leAt v 8 4)
        ∧ (t.dev.key ks.toNat).uses = (d.key ks.toNat).uses + 1 ∧ (t.dev.key ks.toNat).bytes = (d.key ks.toNat).bytes)
    ∧ (CryptoTaken x 0x121 s → x.src.length = aad.toNat + n.toNat + 16 → x.dstLen = n.toNat →
      let d := found x 0x121 s
      d.sourceSlot (issuer x.ref.port) ks.toNat = true → d.grants ks.toNat 2 = true →
      Completes (.aesGcmDec x) s fun t =>
        match Config.gcmDec (d.key ks.toNat).bytes (leBytes 12 iv.toNat) (x.src.take aad.toNat) ((x.src.drop aad.toNat).take n.toNat) (x.src.drop (aad.toNat + n.toNat)) with
        | some b => Gives x 0x121 t fun q => q.status = some .ok ∧ q.dst = slice b 0 n.toNat
        | none => Gives x 0x121 t (fun q => q.status = some .authFail ∧ q.dst = List.replicate n.toNat 0)
            ∧ t.dev.rd AES_TAG_FAIL = min (d.rd AES_TAG_FAIL + 1) (2 ^ AES_TAG_FAIL.width - 1)))
  ∧ (∀ (x : Desc) (pk sig : Bytes) (s : State),
    let ks := (x.par 0 16 : BitVec 16)
    let alg := (x.par 2 8 : Byte)
    let cl := (x.par 3 8 : Byte)
    let ml := (x.par 4 32 : Word)
    ml.toNat ≤ 65536 → x.src.length = cl.toNat + ml.toNat →
    (CryptoTaken x 0x128 s → alg.toNat ≤ 2 → signatureLen alg.toNat ≤ x.dstLen →
      let d := found x 0x128 s
      d.seFull x.ref.port = false → d.sourceSlot (issuer x.ref.port) ks.toNat = true → d.grants ks.toNat 4 = true →
      d.rd (KS_SLOT_TYPE ks.toNat) = (if alg = 2 then 2 else alg.toNat + 3) → d.rngDead = false →
      Completes (.sigSign x) s fun t =>
        if 814 < Config.signAttempts alg.toNat (d.key ks.toNat).bytes x.src d.free then Answered x 0x128 (some .signLimit) t
        else Gives x 0x128 t fun q => q.status = some .ok ∧ q.result0 = signatureLen alg.toNat)
    ∧ (CryptoTaken x 0x129 s → alg.toNat ≤ 4 → (found x 0x129 s).seFull x.ref.port = false →
      Completes (.sigVerify x pk sig) s fun t => Gives x 0x129 t fun q => q.status = some .ok
        ∧ (q.verdict = 0xA55A ↔ sigVerifies alg.toNat pk (x.src.take cl.toNat) (x.src.drop cl.toNat) sig = true)))
  ∧ (∀ (x : Desc) (s : State),
    let len := (x.par 0 16 : BitVec 16)
    CryptoTaken x 0x130 s → 1 ≤ len.toNat → len.toNat ≤ 4096 → x.dstLen = len.toNat → (found x 0x130 s).rngDead = false →
    Completes (.rngGet x) s fun t => Gives x 0x130 t (fun q => q.status = some .ok ∧ q.dst.length = len.toNat ∧ q.result0 = len.toNat)
      ∧ (found x 0x130 s).free < t.dev.free)
  ∧ (∀ (x : Desc) (failed : BitVec 16) (s : State),
    let mask := (x.par 0 16 : BitVec 16)
    let bad := (if mask = 0 then 0x3FE else mask) &&& failed
    Taken x 0x138 s → mask &&& 0x3FE = mask →
    (mask = 0 → bad = 0 → (found x 0x138 s).rd CR_STATE = 3 →
      Completes (.cryptoSelftest x failed) s fun t => Gives x 0x138 t (fun q => q.status = some .ok ∧ q.result0 = 0)
        ∧ t.dev.rd CR_STATE = 1 ∧ t.dev.rd CR_KAT_FAIL = 0)
    ∧ (bad ≠ 0 → Completes (.cryptoSelftest x failed) s fun t => Answered x 0x138 (some .ok) t ∧ t.dev.rd CR_STATE = 3
        ∧ t.dev.rd CR_KAT_FAIL &&& bad.toNat = bad.toNat))

/-- CRYPTO_BUS_ERROR, CLOCK_VOLTAGE_EXCURSION, SQUALL_SELFTEST_DONE, POWER_UP_TESTS_DONE, RNG_HEALTH_FAIL, ENTROPY_START_UP_TEST_DONE and DRBG_RESEED. -/
def Obligations.CryptoEvents : Prop :=
  ∀ s : State, s.dev.awake = true →
    let cleared := fun (t : State) => t.dev.crypto.ctxs = [] ∧ t.dev.crypto.deferred = [] ∧ t.dev.crypto.imports = [] ∧ t.dev.rd SE_VERDICT = 0 ∧ (∀ j < 20, t.dev.rd (LANE_VERDICT j) = 0)
      ∧ t.dev.rd CR_CLEAR_CNT = min (s.dev.rd CR_CLEAR_CNT + 1) (2 ^ CR_CLEAR_CNT.width - 1)
      ∧ (∀ o ∈ t.dev.ops, cryptoOp o.opcode = true → o.status = some .cryptoCleared) ∧ t.dev.comps = s.dev.comps ∧ t.home = s.home ∧ t.otp = s.otp
    (∀ parity : Bool, s.dev.cst .crypto ≠ .off → s.dev.bist = [] →
      Completes (.cryptoBusError parity) s fun t => cleared t ∧ t.dev.on (if parity then CR_ALARM_PARITY else CR_ALARM_BUS_ERROR) = true
        ∧ t.dev.rd CR_STATE = s.dev.rd CR_STATE)
    ∧ (∀ kind : Fin 3, s.dev.bist = [] →
      Completes (.clockVoltageExcursion kind) s fun t => cleared t ∧ t.dev.on (if kind = 2 then CR_ALARM_CLOCK else CR_ALARM_VOLTAGE) = true
        ∧ t.dev.rd CR_STATE = if s.dev.rd CR_STATE = 3 then 3 else 0)
    ∧ (∀ failed : BitVec 11, s.dev.rd CR_STATE = 0 →
      (s.dev.crypto.tests = .squall → Completes (.squallSelftestDone failed) s fun t =>
        t.dev.rd CR_STATE = (if failed &&& 0x3FE = 0 then 1 else 3) ∧ t.dev.crypto.tests = .none ∧ t.dev.rd CR_KAT_FAIL &&& 0x3FE = (failed &&& 0x3FE).toNat)
      ∧ (s.dev.crypto.tests = .powerUp → Completes (.powerUpTestsDone failed) s fun t =>
        t.dev.rd CR_STATE = (if failed &&& 0x47E = 0 then 1 else 3) ∧ t.dev.crypto.tests = .none ∧ t.dev.rd CR_KAT_FAIL &&& 0x47E = (failed &&& 0x47E).toNat))
    ∧ (s.dev.cst .rng = .active →
      (∀ apt : Bool, s.dev.rd RNG_STATE ≠ 2 → Completes (.rngHealthFail apt) s fun t =>
        t.dev.rd RNG_STATE = (match s.dev.crypto.healthAt with | some f => if s.dev.frame < f + 500000 then 2 else 0 | none => 0)
          ∧ t.dev.on (if apt then RNG_EVT_APT_FAIL else RNG_EVT_RCT_FAIL) = true ∧ t.dev.crypto.healthAt = some s.dev.frame)
      ∧ (s.dev.rd RNG_STATE = 0 → Completes .entropyStartUpTestDone s fun t => t.dev.rd RNG_STATE = 1 ∧ t.dev.crypto.seeded = true ∧ t.dev.crypto.wrapDue = false
        ∧ (s.dev.crypto.seeded = false → s.dev.crypto.wrapDue = false → t.dev.crypto.gen = 0 ∧ t.dev.crypto.reseedAt = s.dev.frame
          ∧ t.dev.rd RNG_RESEED_CNT = s.dev.rd RNG_RESEED_CNT)))
    ∧ (s.dev.rd RNG_STATE = 1 → s.dev.crypto.seeded = true → (65536 ≤ s.dev.crypto.gen ∨ s.dev.crypto.reseedAt + 500000 ≤ s.dev.frame) →
      Completes .drbgReseed s fun t => t.dev.crypto.gen = 0 ∧ t.dev.crypto.reseedAt = s.dev.frame ∧ t.dev.rd RNG_GEN_SINCE_RESEED = 0
        ∧ t.dev.rd RNG_RESEED_CNT = min (s.dev.rd RNG_RESEED_CNT + 1) (2 ^ RNG_RESEED_CNT.width - 1))

/-- FUNCTION_ENABLE, FUNCTION_DISABLE, RING_ENABLE, RING_DISABLE, RING_DRAIN_COMPLETE, FN_KICK, FUNCTION_DROWSY, DROWSY_SCAN,
BUS_MASTER_ENABLE_CHANGE, MSIX_UNMASK and HOST_MEMORY (R256 to R267, R275, R279). -/
def Obligations.FunctionsAndRings : Prop :=
  ∀ (f : Fin 256) (s : State), s.dev.fnLive f = true →
    let st := s.dev.rd (FN_STATE_STATE f)
    let stays := fun (t : State) => t.dev.comps = s.dev.comps ∧ t.home = s.home ∧ t.otp = s.otp
    let mse := (s.dev.fn f).mse = true
    (st = 0 → mse → Completes (.functionEnable f) s fun t => stays t
      ∧ if s.dev.fnSetupOk f then t.dev.rd (FN_STATE_STATE f) = 1 ∧ t.dev.rd (FN_STATE_LAST_RESULT f) = Status.pending.code
        else t.dev.rd (FN_STATE_STATE f) = 0 ∧ t.dev.rd (FN_STATE_LAST_RESULT f) = Status.ringInvalid.code)
    ∧ (st = 2 → mse → Completes (.functionDisable f) s fun t => stays t
      ∧ ((s.dev.fn f).rings = [] → s.dev.on (FN_STATE_PENDING_ENABLE f) = false →
          t.dev.rd (FN_STATE_STATE f) = 0 ∧ t.dev.rd (FN_STATE_LAST_RESULT f) = Status.ok.code)
      ∧ ((s.dev.fn f).rings ≠ [] → t.dev.rd (FN_STATE_STATE f) = 3 ∧ ∀ r x, t.dev.ring f r = some x → x.state = .draining))
    ∧ (¬ mse → ∀ i ∈ [Instr.functionEnable f, .functionDisable f, .fnKick f], exec i s = .next { s with dev := s.dev.emit (.unsupported (.fn f)) })
    ∧ (s.dev.hostPaused = false → ∀ r, r < s.dev.rd (RCT_RINGS f) → st = 2 →
      (∀ (entry : BitVec 384) (line : BitVec 512), s.dev.ringDue f 1 = some r → s.dev.ring f r = none → (s.dev.fn f).bme = true → s.dev.rctRoom f r = true →
        let named := s.dev.rd (RING_RESULT_RING f) = r
        let x := parseRct entry
        Completes (.ringEnable f entry line none) s fun t =>
          if s.dev.rctOk f x (lineTail line (r % 8) = 0 && lineHead line (r % 8) = 0) then
            (∃ y, t.dev.ring f r = some y ∧ y.state = .active ∧ y.rct = x ∧ y.sqHead = 0 ∧ y.cqTail = 0 ∧ y.phase = true)
              ∧ (named → t.dev.rd (RING_RESULT_STATUS f) = Status.ok.code)
          else t.dev.ring f r = none ∧ (named → t.dev.rd (RING_RESULT_STATUS f) = Status.ringInvalid.code))
      ∧ (∀ x : Ring, s.dev.ringDue f 2 = some r → s.dev.ring f r = some x →
        Completes (.ringDisable f) s fun t => (t.dev.ring f r).map Ring.state = some .draining
          ∧ (s.dev.rd (RING_RESULT_RING f) = r → t.dev.rd (RING_RESULT_STATUS f) = Status.ok.code)))
    ∧ (∀ (r : Fin 256) (x : Ring), s.dev.ring f r = some x →
      (x.state = .draining → s.dev.ringBusy f r = false → (x.cached = false ∨ s.dev.hostUse.fills < 32) →
        Completes (.ringDrainComplete f r) s fun t => t.dev.ring f r = none ∧ stays t)
      ∧ (∀ addr : BitVec 64, Completes (.hostMemory f (.fetch r) addr) s fun t => (t.dev.ring f r).map Ring.state = some .draining ∧ stays t
        ∧ t.dev.on (FN_EVT_HOST_MEM f) = true ∧ t.dev.on (FN_EVT_RING_ERR f) = true ∧ t.dev.rd (FN_ERR_ADDR f) = addr.toNat % 2 ^ (FN_ERR_ADDR f).width))
    ∧ (∀ (r i : Nat) (o : Op) (addr : BitVec 64), (s.dev.ops.find? fun o => o.ref = ⟨.fn f, r, i⟩ && (o.status.isNone || decide (0 < o.left))) = some o →
      Completes (.hostMemory f (.data r i) addr) s fun t => (∃ p ∈ t.dev.ops, p.ref = ⟨.fn f, r, i⟩ ∧ p.status = some .hostMemory ∧ p.dst = [])
        ∧ t.dev.on (FN_EVT_HOST_MEM f) = true ∧ t.dev.rd (FN_ERR_ADDR f) = addr.toNat % 2 ^ (FN_ERR_ADDR f).width ∧ stays t)
    ∧ (st = 2 → mse → s.dev.rd DRZ_STATE = 0 → Completes (.fnKick f) s fun t => t.dev.on (FN_STATE_DROWSY f) = false
      ∧ (s.dev.on (FN_STATE_DROWSY f) = true → (t.dev.fn f).confirm = none ∧ (t.dev.fn f).scanAt = s.dev.frame)
      ∧ t.dev.rd (FN_CNT_KICKS f) = min (s.dev.rd (FN_CNT_KICKS f) + 1) (2 ^ (FN_CNT_KICKS f).width - 1) ∧ stays t)
    ∧ (∀ q : Scan, q.f = f → st = 2 → (s.dev.fn f).bme = true → s.dev.hostPaused = false → s.dev.rd DRZ_STATE = 0 →
      ((s.dev.fn f).confirm = none → s.dev.on (FN_STATE_DROWSY f) = false → s.dev.rd (FN_CFG_IDLE_FRAMES f) ≤ (s.dev.fn f).idle →
        (s.dev.fn f).scanAt < s.dev.frame → (s.dev.fn f).groups = [] → s.dev.fnQuiet f = true →
        Completes (.functionDrowsy q) s fun t => t.dev.on (FN_STATE_DROWSY f) = true ∧ (t.dev.fn f).confirm = some s.dev.frame
          ∧ .hostWrite f (s.dev.rd (DB_BASE f) + 0x840) [1, 0, 0, 0] ∈ t.dev.out ∧ stays t)
      ∧ (∀ k, (s.dev.fn f).confirm = some k → k < s.dev.frame → Completes (.functionDrowsy q) s fun t => stays t
        ∧ if (s.dev.fn f).dbSeq = q.dbSeq.toNat then t.dev.rd (FN_STATE_DROWSY f) = s.dev.rd (FN_STATE_DROWSY f) ∧ (t.dev.fn f).confirm = none
          else t.dev.on (FN_STATE_DROWSY f) = false)
      ∧ (s.dev.on (FN_STATE_DROWSY f) = true → (s.dev.fn f).confirm = none → (s.dev.fn f).scanAt + 1000 ≤ s.dev.frame →
        Completes (.drowsyScan f q.dbSeq) s fun t => stays t
        ∧ if (s.dev.fn f).dbSeq = q.dbSeq.toNat then t.dev.on (FN_STATE_DROWSY f) = true ∧ (t.dev.fn f).scanAt = s.dev.frame
          else t.dev.on (FN_STATE_DROWSY f) = false))
    ∧ (∀ b m x k : Bool, Completes (.busMasterEnableChange f b m x k) s fun t =>
      t.dev.fn f = { s.dev.fn f with bme := b, mse := m, msix := x, msixMask := k } ∧ (∀ g, g ≠ f.val → t.dev.fn g = s.dev.fn g) ∧ stays t
      ∧ (((s.dev.fn f).msixMask = false ∨ k = true) → t.dev.regs = s.dev.regs ∧ t.dev.out = s.dev.out)
      ∧ ((s.dev.fn f).msixMask = true → k = false → b = true → x = true → ∀ v < 256, bit (s.dev.rd (MSIX_PBA f (v / 64))) (v % 64) = true →
        s.dev.on (MSIX_MASK f v) = false → bit (t.dev.rd (MSIX_PBA f (v / 64))) (v % 64) = false ∧ .msix f v ∈ t.dev.out))
    ∧ (∀ v : Fin 256, mse → Completes (.msixUnmask f v) s fun t => t.dev.on (MSIX_MASK f v) = false ∧ stays t
      ∧ (bit (s.dev.rd (MSIX_PBA f (v / 64))) (v % 64) = true → (s.dev.fn f).msix = true → (s.dev.fn f).msixMask = false → (s.dev.fn f).bme = true →
        bit (t.dev.rd (MSIX_PBA f (v / 64))) (v % 64) = false ∧ .msix f v ∈ t.dev.out)
      ∧ (bit (s.dev.rd (MSIX_PBA f (v / 64))) (v % 64) = false → t.dev.out = s.dev.out))

/-- FLR, PERST_N_ASSERT, PERST_N_RELEASE and VF_ENABLE_CHANGE (R254, R257, R280, R281). -/
def Obligations.FunctionResets : Prop :=
  (∀ (f : Fin 256) (s : State), s.dev.fnLive f = true → f ≠ 0 → Completes (.flr f) s fun t =>
    t.dev.fn f = {} ∧ t.dev.rd (FN_STATE_STATE f) = 0 ∧ t.dev.rd (FN_STATE_FN_GEN f) = (s.dev.rd (FN_STATE_FN_GEN f) + 1) % 2 ^ (FN_STATE_FN_GEN f).width
      ∧ (∀ c ∈ t.dev.crypto.ctxs, c.fnum ≠ f.val)
      ∧ (∀ v, 64 ≤ v → v < 1024 → s.dev.rd (KS_SLOT_OWNER v) = f.val → t.dev.on (KS_SLOT_VALID v) = false ∧ t.dev.rd (KS_SLOT_OWNER v) = f.val)
      ∧ (∀ o ∈ t.dev.ops, o.ref.port = .fn f → pilotTask o.opcode = true ∧ OpRef.orphaned o.ref = true) ∧ (∀ g, g ≠ f.val → t.dev.fn g = s.dev.fn g)
      ∧ t.dev.comps = s.dev.comps ∧ t.home = s.home ∧ t.otp = s.otp)
  ∧ (∀ s : State, s.dev.awake = true →
    Completes .perstNAssert s (fun t => t.dev.run.perst = false ∧ t.dev.run.vfEnable = false ∧ t.dev.run.numVfs = 0 ∧ (∀ f, t.dev.fnLive f = false)
      ∧ t.dev.fn 0 = {} ∧ t.dev.rd (FN_STATE_STATE 0) = 0 ∧ t.dev.comps = s.dev.comps ∧ t.home = s.home ∧ t.otp = s.otp)
    ∧ Completes .perstNRelease s (fun t => t.dev.run = { s.dev.run with perst := true, linkWidth := 4, linkGen := Config.linkGen.toNat } ∧ t.dev.regs = s.dev.regs ∧ t.dev.fns = s.dev.fns ∧ t.dev.out = s.dev.out))
  ∧ (∀ (en : Bool) (n : Fin 256) (s : State), s.dev.fnLive 0 = true → Completes (.vfEnableChange en n) s fun t =>
    t.dev.run.vfEnable = en ∧ t.dev.run.numVfs = n.val ∧ (∀ f, t.dev.fnExists f = true ↔ f = 0 ∨ (en = true ∧ f ≤ n.val)) ∧ t.dev.fn 0 = s.dev.fn 0
      ∧ t.dev.comps = s.dev.comps ∧ t.home = s.home ∧ t.otp = s.otp)

/-- NOP, OPERATION_COMPLETE, MBX_APPEND, MBX_GO, MBX_ABORT, and the refusals of R269 and R275 on four commands of different families. -/
def Obligations.OperationsComplete : Prop :=
  (∀ (x : Desc) (s : State), Taken x 0 s → Completes (.nop x) s fun t => Answered x 0 (some .ok) t ∧ t.dev.ops.length = s.dev.ops.length + 1
    ∧ t.dev.comps = s.dev.comps ∧ t.dev.gcs = s.dev.gcs ∧ t.dev.pol = s.dev.pol ∧ t.home = s.home ∧ t.otp = s.otp)
  ∧ (∀ (r : OpRef) (o : Op) (st : Status) (s : State), s.dev.awake = true → (s.dev.ops.find? fun o => o.ref = r) = some o → o.status = some st → mayComplete s.dev.ops o = true →
    s.dev.sliced (.op r) = true → s.dev.seTurn o = true →
    Completes (.operationComplete r) s fun t => o ∉ t.dev.ops ∧ t.dev.comps = s.dev.comps ∧ t.home = s.home ∧ t.otp = s.otp
      ∧ (∀ f : Fin 256, r.port = .fn f → (s.dev.fn f).bme = true → OpRef.orphaned r = false →
        (t.dev.cpls.map Cpl.op = s.dev.cpls.map Cpl.op ++ if o.quiet = true ∧ st = .ok then [] else [o]) ∧ (o.dst ≠ [] → .dst r o.dst ∈ t.dev.out))
      ∧ (∀ k : Fin 2, r.port = .i3c k → OpRef.orphaned r = false → (t.dev.mbx k).busy = false ∧ (t.dev.mbx k).phase = !(s.dev.mbx k).phase ∧ (t.dev.mbx k).data.take o.dst.length = o.dst))
  ∧ (∀ (k : Fin 2) (s : State), s.dev.awake = true → s.dev.cst (.i3c k) = .active → (s.dev.mbx k).busy = false →
    let m := s.dev.mbx k
    let x : Desc := ⟨⟨.i3c k, 0, 0⟩, BitVec.ofNat 512 (leNat m.desc), [], [], [], none⟩
    let ended := fun (st : Status) => Completes (.mbxGo k) s fun t => (t.dev.mbx k).busy = false ∧ leAt (t.dev.mbx k).cpl 0 2 = st.code
    Completes (.mbxAppend k) s (fun t => t.dev.mbx k = { m with appended := m.appended ++ slice m.data 0 65536 } ∧ t.dev.regs = s.dev.regs)
    ∧ Completes (.mbxAbort k) s (fun t => t.dev.mbx k = { m with appended := [] } ∧ t.dev.regs = s.dev.regs)
    ∧ ((x.reserved || x.sglSrc || x.sglDst) = false → opcodeKnown x.opcode = true → roleMay (.i3c k) x.opcode = true → x.dstField ≤ 65536 →
        Mbx.taken m ≤ leAt m.desc 0x10 4 → leAt m.desc 0x10 4 - Mbx.taken m ≤ 65536 → Completes (.mbxGo k) s fun t => t.dev.mbx k = { m with busy := true })
    ∧ ((x.reserved || x.sglSrc || x.sglDst) = true → ended .descInvalid)
    ∧ ((x.reserved || x.sglSrc || x.sglDst) = false → opcodeKnown x.opcode = false → ended .notSupported)
    ∧ ((x.reserved || x.sglSrc || x.sglDst) = false → opcodeKnown x.opcode = true → roleMay (.i3c k) x.opcode = false → ended .roleDenied))
  ∧ (∀ (x : Desc) (s : State), x.comp < 96 →
    ∀ i ∈ [(Instr.compHold x, 0x200), (.compThaw x, 0x203), (.policyRead x, 0x301), (.ctxDestroy x, 0x10A)],
      s.dev.canIssue x.ref = true → s.dev.presented x i.2 true = true → s.dev.mustWait x i.2 = false →
      (x.reserved = true → Completes i.1 s fun t => Answered x i.2 (some .descInvalid) t ∧ t.dev.comps = s.dev.comps)
      ∧ (x.reserved = false → roleMay x.ref.port i.2 = false → Completes i.1 s fun t => Answered x i.2 (some .roleDenied) t ∧ t.dev.comps = s.dev.comps)
      ∧ (∀ a, x.reserved = false → roleMay x.ref.port i.2 = true → x.listsOk = true → x.failAddr = some a →
        Completes i.1 s fun t => Answered x i.2 (some .hostMemory) t ∧ t.dev.comps = s.dev.comps))

/-- MCTP_MESSAGE, SET_ENDPOINT_ID, GET_VERSION, GET_CAPABILITIES, NEGOTIATE_ALGORITHMS, GET_DIGESTS, GET_CERTIFICATE, CHALLENGE, GET_MEASUREMENTS
and UNSUPPORTED_REQUEST (R298 to R302). -/
def Obligations.SpdmAnswers : Prop :=
  ∀ (e : Fin 3) (s : State), s.dev.epLive e = true → (s.dev.ep e).chunk = none →
    let stays := fun (t : State) => t.dev.comps = s.dev.comps ∧ t.dev.gcs = s.dev.gcs ∧ t.home = s.home ∧ t.otp = s.otp
    let gives := fun (m : SpdmMsg) (t : State) => t.dev.out = .spdm e none m :: s.dev.out ∧ stays t
    let stage := (s.dev.ep e).stage
    let c := s.chain 0
    let v12 : ReqHead := ⟨0x12, true⟩
    Completes (.getVersion e none ⟨0x10, true⟩) s (fun t => gives (.version 0x12) t ∧ (t.dev.ep e).stage = 1 ∧ t.dev.regs = s.dev.regs)
    ∧ (∀ transfer, 1 ≤ stage → Completes (.getCapabilities e none v12 transfer) s fun t => gives (.capabilities spdmFlags 17 4096 32768) t ∧ (t.dev.ep e).stage = 2
        ∧ (t.dev.ep e).transfer = transfer ∧ t.dev.regs = s.dev.regs)
    ∧ (2 ≤ stage → Completes (.negotiateAlgorithms e none v12 true) s fun t =>
        gives (.algorithms .ecdsaP384 .sha384 .dmtf .sha384 .secp384r1 .aes256Gcm .spdm) t ∧ (t.dev.ep e).stage = 3 ∧ t.dev.regs = s.dev.regs)
    ∧ (3 ≤ stage → Completes (.getDigests e none v12 false) s fun t => gives (.digests (sha384b c)) t ∧ t.dev.regs = s.dev.regs)
    ∧ (3 ≤ stage → Completes (.getDigests e none v12 true) s fun t => gives (.error (.responseNotReady 17 4)) t
        ∧ (t.dev.ep e).delayed = some (none, .digests (sha384b c), []))
    ∧ (∀ (h : ReqHead) (transfer : Nat), h.version ≠ 0x12 → Completes (.getCapabilities e none h transfer) s fun t => gives (.error .versionMismatch) t
        ∧ (t.dev.ep e).stage = stage)
    ∧ (∀ offset len, 3 ≤ stage → offset < c.length → ((c.drop offset).take len).length + 8 ≤ (s.dev.ep e).transfer →
        Completes (.getCertificate e none v12 0 offset len false) s fun t =>
          gives (.certificate ((c.drop offset).take len) (c.length - offset - ((c.drop offset).take len).length)) t ∧ t.dev.regs = s.dev.regs)
    ∧ (∀ type, 3 ≤ stage → s.dev.hasIdentity = true → Completes (.challenge e none v12 0 type false) s fun t =>
        ∃ nonce sig : Bytes, nonce.length = 32 ∧ sig.length = 96 ∧ gives (.challengeAuth (sha384b c) nonce (s.dev.summary type) sig) t)
    ∧ (∀ (index : Byte) (nonce : Bytes), 3 ≤ stage →
      let es := if index = 0 then [] else s.dev.att.entries.filter fun m => index = 0xFF || m.1 = index.toNat
      let record := es.flatMap measBlock
      (record.length + 42 ≤ (s.dev.ep e).transfer → Completes (.getMeasurements e none v12 index false false nonce) s fun t => ∃ r : Bytes, r.length = 32
        ∧ gives (.measurements (if index = 0 then s.dev.att.entries.length else es.length) record r []) t ∧ t.dev.regs = s.dev.regs)
      ∧ (∀ g, (s.dev.ep e).seqs.find? (fun q => q.1 = none) = some (none, g) → g ≠ s.dev.rd ATT_MEAS_GEN →
        Completes (.getMeasurements e none v12 index true false nonce) s fun t => gives (.error .requestResynch) t
          ∧ t.dev.rd ATT_RESYNCH = min (s.dev.rd ATT_RESYNCH + 1) (2 ^ ATT_RESYNCH.width - 1)
          ∧ (t.dev.ep e).seqs = (s.dev.ep e).seqs.filter fun q => q.1 ≠ none))
    ∧ Completes (.unsupportedRequest e none v12) s (fun t => gives (.error .unsupportedRequest) t
        ∧ t.dev.rd ATT_SPDM_ERR = min (s.dev.rd ATT_SPDM_ERR + 1) (2 ^ ATT_SPDM_ERR.width - 1))
    ∧ (∀ (type : Byte) (n : Nat), (type = 0 ∨ type = 5 ∨ type = 6) → n ≤ 4160 → Completes (.mctpMessage e type n true) s fun t =>
        t.dev.cnt.tally = SMap.set (fun _ => 0) s.dev.cnt.tally 293 (SMap.get (fun _ => 0) s.dev.cnt.tally 293 + 1) ∧ t.dev.regs = s.dev.regs
          ∧ t.dev.att = s.dev.att ∧ t.dev.out = s.dev.out ∧ stays t)
    ∧ (∀ eid : Byte,
      let f := if e = 0 then ATT_EID_PCIE else if e = 1 then ATT_EID_I3C0 else ATT_EID_I3C1
      Completes (.setEndpointId e eid) s fun t => t.dev.rd f = eid.toNat % 2 ^ f.width ∧ (∀ g : Fld, g.bit ≠ f.bit → t.dev.rd g = s.dev.rd g) ∧ stays t)

/-- KEY_EXCHANGE, FINISH, END_SESSION, RESPOND_IF_READY, CHUNK_SEND, CHUNK_GET, SESSION_TIMEOUT and CHUNK_TIMEOUT (R300, R303, R304). -/
def Obligations.SpdmSessions : Prop :=
  (∀ (e : Fin 3) (s : State), s.dev.epLive e = true → 3 ≤ (s.dev.ep e).stage →
    let x := s.dev.ep e
    let v12 : ReqHead := ⟨0x12, true⟩
    let stays := fun (t : State) => t.dev.comps = s.dev.comps ∧ t.dev.gcs = s.dev.gcs ∧ t.home = s.home ∧ t.otp = s.otp
    let sent := fun (t : State) (sess : Option Nat) (m : SpdmMsg) => t.dev.out = .spdm e sess m :: s.dev.out
    (x.chunk = none →
      (∀ type, (x.sessions.length < 4 → s.dev.hasIdentity = true → Completes (.keyExchange e none v12 type false) s fun t =>
          (t.dev.ep e).sessions = x.sessions ++ [⟨s.dev.att.session, false, s.dev.frame⟩] ∧ t.dev.att.session = s.dev.att.session + 1 ∧ stays t)
        ∧ (4 ≤ x.sessions.length → Completes (.keyExchange e none v12 type false) s fun t => (t.dev.ep e).sessions = x.sessions
          ∧ sent t none (.error .sessionLimitExceeded) ∧ stays t))
      ∧ (∀ id, (x.sessions.any fun t => t.id = id) = true → (x.sessions.any fun t => t.id = id && t.done) = false →
        Completes (.finish e id v12 true false) s (fun t => (∀ y ∈ (t.dev.ep e).sessions, y.id = id → y.done = true) ∧ (t.dev.ep e).sessions.length = x.sessions.length
          ∧ sent t (some id) .finish ∧ stays t)
        ∧ Completes (.finish e id v12 false false) s (fun t => (∀ y ∈ (t.dev.ep e).sessions, y.id ≠ id) ∧ sent t (some id) (.error .decryptError) ∧ stays t)
        ∧ Completes (.endSession e id v12) s (fun t => (∀ y ∈ (t.dev.ep e).sessions, y.id ≠ id) ∧ sent t (some id) .endSession ∧ stays t))
      ∧ (∀ m b, x.delayed = some (none, m, b) → b.length ≤ x.transfer → Completes (.respondIfReady e none v12 true) s fun t => sent t none m ∧ (t.dev.ep e).delayed = none ∧ stays t)
      ∧ (∀ (handle large : Nat) (data : Bytes), 4096 < large → large ≤ 32768 → data.length = 4080 →
        Completes (.chunkSend e none v12 handle 0 false large 4080 data) s fun t => (t.dev.ep e).chunk = some ⟨none, handle, 1, large, 4080, s.dev.frame⟩
          ∧ sent t none (.chunkSendAck handle 0) ∧ stays t)
      ∧ (∀ h, x.held = some h → h.session = none →
        let c := chunkAt x.transfer h.next h.bytes.length
        Completes (.chunkGet e none v12 h.handle h.next) s fun t =>
          sent t none (.chunk h.handle h.next (decide (h.bytes.length ≤ c.1 + c.2)) (slice h.bytes c.1 c.2))
            ∧ ((t.dev.ep e).held = none ↔ h.bytes.length ≤ c.1 + c.2) ∧ stays t))
    ∧ (∀ c, x.chunk = some c → c.session = none →
      (∀ data : Bytes, c.got + data.length = c.total → Completes (.chunkSend e none v12 c.handle c.next true 0 data.length data) s fun t =>
        (t.dev.ep e).chunk = none ∧ sent t none (.chunkSendAck c.handle c.next) ∧ stays t)
      ∧ (∀ (handle seq : Nat) (data : Bytes), (handle ≠ c.handle ∨ seq ≠ c.next) → Completes (.chunkSend e none v12 handle seq false 0 data.length data) s fun t =>
        (t.dev.ep e).chunk = none ∧ sent t none (.error .invalidRequest)
          ∧ t.dev.rd ATT_CHUNK_ERR = min (s.dev.rd ATT_CHUNK_ERR + 1) (2 ^ ATT_CHUNK_ERR.width - 1) ∧ stays t)))
  ∧ (∀ (e : Fin 3) (s : State), s.dev.up = true →
    (∀ id, (∃ y ∈ (s.dev.ep e).sessions, y.id = id ∧ y.last + 30000000 ≤ s.dev.frame) → Completes (.sessionTimeout e id) s fun t =>
      (t.dev.ep e).sessions = (s.dev.ep e).sessions.filter (fun y => y.id ≠ id) ∧ t.dev.out = s.dev.out)
    ∧ (∀ h, (s.dev.ep e).held = some h → h.last + 500000 ≤ s.dev.frame → Completes (.chunkTimeout e) s fun t => (t.dev.ep e).held = none)
    ∧ (∀ c, (s.dev.ep e).chunk = some c → c.last + 500000 ≤ s.dev.frame → Completes (.chunkTimeout e) s fun t => (t.dev.ep e).chunk = none
      ∧ t.dev.rd ATT_CHUNK_ERR = min (s.dev.rd ATT_CHUNK_ERR + 1) (2 ^ ATT_CHUNK_ERR.width - 1)))

/-- MEAS_REPORT, MEAS_READ and CERT_CHAIN_READ (R292 to R296). -/
def Obligations.ReportsAnswer : Prop :=
  (∀ (x : Desc) (s : State), Taken x 0x400 s →
    Completes (.measReport x) s fun t => Answered x 0x400 none t ∧ t.dev.att.waiting = (found x 0x400 s).att.waiting ++ [x] ∧ t.home = s.home ∧ t.otp = s.otp)
  ∧ (∀ (x : Desc) (s : State),
    let first := (x.par 0 8 : Byte).toNat
    let last := (x.par 1 8 : Byte).toNat
    Taken x 0x401 s → 1 ≤ first → first ≤ last → last ≤ 0xDF →
    Completes (.measRead x) s fun t => Answered x 0x401 none t ∧ t.dev.att.waiting = (found x 0x401 s).att.waiting ++ [x] ∧ t.home = s.home ∧ t.otp = s.otp)
  ∧ (∀ d : Dev, d.measAnswers.att.waiting = d.att.waiting.filter fun x => !d.tasks.all fun k => k.of ≠ .op x.ref || decide (k.start ≤ d.frame))
  ∧ (∀ (x : Desc) (d : Dev), (∃ o ∈ d.ops, o.ref = x.ref ∧ o.status = none) → x.src = [] →
    let gets := fun (P : Op → Prop) => ∃ q ∈ (d.measAnswer x).ops, q.ref = x.ref ∧ P q
    let total := 96 + 64 * d.att.entries.length + 4723
    let es := d.att.entries.filter fun e => decide ((x.par 0 8 : Byte).toNat ≤ e.1 ∧ e.1 ≤ (x.par 1 8 : Byte).toNat)
    let b := d.report x.ref.port [] es false
    (x.opcode = 0x400 →
      (total ≤ x.dstLen → d.hasIdentity = true → (∃ a b : Bytes, a.length = 4627 ∧ b.length = 96
          ∧ gets fun q => q.status = some .ok ∧ q.result0 = total ∧ q.result1 = d.rd ATT_MEAS_GEN % 2 ^ 32
            ∧ q.dst = d.report x.ref.port (leBytes 32 (x.par 0 256 : BitVec 256).toNat) d.att.entries true ++ a ++ b)
        ∧ (d.measAnswer x).rd ATT_REPORTS = min (d.rd ATT_REPORTS + 1) (2 ^ ATT_REPORTS.width - 1))
      ∧ (x.dstLen < total → gets (fun q => q.status = some .lengthMismatch ∧ q.result0 = total) ∧ (d.measAnswer x).rd ATT_REPORTS = d.rd ATT_REPORTS))
    ∧ (x.opcode = 0x401 → if b.length ≤ x.dstLen then gets fun q => q.status = some .ok ∧ q.dst = b ∧ q.result0 = b.length
      else gets fun q => q.status = some .lengthMismatch ∧ q.result0 = b.length))
  ∧ (∀ (x : Desc) (s : State),
    let c := s.chain (x.par 0 8 : Byte).toNat
    Taken x 0x402 s → (x.par 0 8 : Byte).toNat ≤ 1 → x.src = [] → Completes (.certChainRead x) s fun t => if c.length ≤ x.dstLen
      then Gives x 0x402 t fun q => q.status = some .ok ∧ q.dst = c ∧ q.result0 = c.length
      else Gives x 0x402 t fun q => q.status = some .lengthMismatch ∧ q.result0 = c.length)

/-- FW_UPDATE, FW_STATUS, HEALTH_CONFIRM, HEALTH_WINDOW_END and SETTINGS_SAVE (R316 to R322, R344). -/
def Obligations.FirmwareUpdates : Prop :=
  (∀ (x : Desc) (copied written : Bool) (s : State), Taken x 0x500 s →
    let d := found x 0x500 s
    let il : Word := x.par 0 32
    let ol : Word := x.par 4 32
    let image := x.src.take il.toNat
    (d.rd FW_STATE ≠ 0 → Completes (.fwUpdate x copied written) s fun t => Answered x 0x500 (some .updateBusy) t ∧ t.home = s.home ∧ t.otp = s.otp)
    ∧ (d.rd FW_STATE = 0 → d.frontBusy = false → x.src.length = il.toNat + ol.toNat → x.src.length ≤ slotSize →
      Completes (.fwUpdate x copied written) s fun t => t.otp = s.otp
        ∧ match imageCheck (d.rd FW_FUSED_SVN) image, d.ownerOxmCheck image (x.src.drop il.toNat) with
          | some st, _ => Answered x 0x500 (some st) t ∧ t.home = s.home
          | none, some st => Answered x 0x500 (some st) t ∧ t.home = s.home
          | none, none =>
            (copied = true → written = true → Answered x 0x500 (some .ok) t ∧ t.homeRead slotPlace x.src.length = x.src ∧ t.dev.rd FW_STATE = 3
              ∧ t.dev.rd FW_TRIAL_STARTS = 0 ∧ t.dev.phase = .pilotDown)
            ∧ (copied = false → Answered x 0x500 (some .flashWrite) t ∧ t.dev.rd FW_STATE = 0 ∧ t.dev.rd FW_LAST_RESULT = Status.flashWrite.code)))
  ∧ (∀ (x : Desc) (s : State), Taken x 0x501 s → x.src = [] → Completes (.fwStatus x) s fun t =>
    Gives x 0x501 t (fun q => q.status = some .ok ∧ q.result0 = (found x 0x501 s).fwWord ∧ q.result1 = (found x 0x501 s).rd FW_VERSION)
      ∧ t.home = s.home ∧ t.otp = s.otp)
  ∧ (∀ (home : Bool) (s : State), s.dev.up = true → s.dev.rd FW_STATE = 3 →
    (s.dev.rd FW_HEALTH_LEFT ≠ 0 → s.dev.frontState ≠ .landed → s.dev.fit home = true → Completes (.healthConfirm home) s fun t =>
      t.dev.rd FW_STATE = 0 ∧ t.dev.rd FW_LAST_RESULT = 0 ∧ t.dev.rd FW_HEALTH_LEFT = 0 ∧ t.dev.phase = .running)
    ∧ (s.dev.rd FW_HEALTH_LEFT = 0 → s.dev.frontState ≠ .landed → Completes .healthWindowEnd s fun t =>
      t.dev.rd FW_STATE = 4 ∧ t.dev.rd FW_LAST_RESULT = Status.healthFail.code ∧ t.dev.phase = .pilotDown))
  ∧ (∀ s : State, s.dev.up = true → s.dev.settings ≠ s.dev.fw.settings → (s.dev.fw.savedAt = 0 ∨ s.dev.fw.savedAt + 500000 ≤ s.dev.frame) →
    Completes .settingsSave s fun t => t.dev.fw.settings = s.dev.settings ∧ t.dev.fw.savedAt = s.dev.frame ∧ t.dev.fw.setGen = s.dev.fw.setGen + 1
      ∧ t.dev.regs = s.dev.regs ∧ t.otp = s.otp)

/-- REC_START, REC_PUSH, REC_FINISH, REC_ABORT, RECOVERY_SOURCE_TIMEOUT and BOOT_SOURCE_RETRY (R307 to R312). -/
def Obligations.RecoveryTransfers : Prop :=
  (∀ s : State, s.dev.recovering = true →
    (s.dev.rd REC_STATE = 1 → Completes .recStart s fun t => t.dev.rd REC_STATE = 2 ∧ t.dev.rd REC_RECEIVED = 0 ∧ t.dev.run.recBytes = [] ∧ t.home = s.home)
    ∧ (s.dev.rd REC_STATE = 2 →
      (∀ len : Fin 8192, 1 ≤ len.val → len.val ≤ 4096 → Completes (.recPush len) s fun t => t.dev.rd REC_STATE = 2
        ∧ t.dev.run.recBytes = s.dev.run.recBytes ++ s.dev.recData len ∧ t.dev.rd REC_RECEIVED = (s.dev.rd REC_RECEIVED + len) % 2 ^ REC_RECEIVED.width ∧ t.home = s.home)
      ∧ Completes .recAbort s (fun t => t.dev.rd REC_STATE = 1 ∧ t.dev.run.recBytes = [] ∧ t.home = s.home)
      ∧ (∀ written : Bool, s.dev.run.recBytes.length ≠ s.dev.rd REC_LEN → Completes (.recFinish written) s fun t =>
        t.home = s.home ∧ t.otp = s.otp ∧ t.dev.rd REC_LAST_STATUS = Status.lengthMismatch.code)
      ∧ (s.dev.run.recBytes.length = s.dev.rd REC_LEN → s.dev.run.recBytes.length ≤ slotSize → Completes (.recFinish true) s fun t => t.otp = s.otp
        ∧ match imageCheck (s.counter 64 4) (s.dev.run.recBytes.take (s.dev.rd REC_LEN - s.dev.rd REC_OXM_LEN)) with
          | none => t.dev.phase = .pilotDown ∧ t.dev.fw.owed = true ∧ t.dev.run.sources = [] ∧ t.homeRead slotPlace s.dev.run.recBytes.length = s.dev.run.recBytes
          | some st => t.home = s.home ∧ t.dev.rd REC_LAST_STATUS = st.code)))
  ∧ (∀ (k : Nat) (rest : List Nat) (s : State), s.dev.phase = .romWaiting → s.dev.run.sources = k :: rest → 0 ∉ rest →
    let gone := fun (t : State) => t.dev.phase = .romWaiting ∧ t.dev.run.sources = rest ∧ t.dev.run.sourceAt = s.dev.frame ∧ t.home = s.home
    (k ≤ 3 → s.dev.rd REC_STATE = 1 → s.dev.run.sourceAt + 15000000 ≤ s.dev.frame → Completes .recoverySourceTimeout s gone)
    ∧ (4 ≤ k → (if k = 4 then s.dev.link0.rx else s.dev.link1.rx) = none → s.dev.run.sourceAt + 500000 ≤ s.dev.frame → Completes .recoverySourceTimeout s gone))
  ∧ (∀ s : State, s.dev.phase = .romWaiting → s.dev.run.sources = [] → s.dev.run.sourceAt + 500000 ≤ s.dev.frame →
    Completes .bootSourceRetry s fun t => t.home = s.home ∧ t.otp = s.otp ∧ if s.imagePasses slotPlace || s.imagePasses retreatPlace
      then t.dev.phase = .pilotDown ∧ t.dev.run.sources = []
      else t.dev.phase = .romWaiting ∧ t.dev.run.sources = s.bootSources.drop 1 ∧ t.dev.run.sourceAt = s.dev.frame)

/-- RELAY_DATA, RELAY_ACK, RELAY_NAK, RELAY_TIME, RELAY_CONTROL, RELAY_RECOVER, RELAY_RETRANSMIT, RELAY_LINK_CHANGE, RELAY_BAD_CRC and TIME_EXCHANGE. -/
def Obligations.RelayLinks : Prop :=
  (∀ (r : Fin 2) (s : State), s.dev.linkUp r = true →
    let l := s.dev.link r
    let counted := fun (t : State) => t.dev.rd (RL_RX_FRAMES r) = min (s.dev.rd (RL_RX_FRAMES r) + 1) (2 ^ 48 - 1)
    (∀ f : RFrame, f.seq = l.rxSeq → l.early = [] →
      let taken := fun (t : State) => (t.dev.link r).rxSeq = (l.rxSeq + 1) % 65536 ∧ (t.dev.link r).early = [] ∧ counted t ∧ t.otp = s.otp
      (∀ w : Bool, f.type = 1 → s.dev.phase ≠ .romWaiting → bit f.flags 0 = true → Completes (.relayData r f w) s fun t => taken t ∧ t.home = s.home
        ∧ if bit f.flags 1 then (t.dev.link r).rx = none ∧ t.dev.front.inbox = s.dev.front.inbox ++ [f.payload]
          else (t.dev.link r).rx = some f.payload ∧ t.dev.front.inbox = s.dev.front.inbox)
      ∧ (f.type = 5 → Completes (.relayControl r f) s fun t => taken t ∧ t.home = s.home ∧ (f.dst ≠ 0xFF → f.dst ≠ s.dev.rd CH_POSITION →
          ∃ g : RFrame, g.payload = f.payload ∧ g.dst = f.dst ∧ g.type = 5
            ∧ (g ∈ (t.dev.link (1 - r.val)).waiting ∨ ∃ y ∈ (t.dev.link (1 - r.val)).window, y.frame = g)))
      ∧ (f.type = 6 → s.dev.up = true → Completes (.relayRecover r f) s fun t => taken t ∧ t.home = s.home ∧ (t.dev.link r).xfer = (l.xfer + 1) % 65536))
    ∧ (∀ ack : BitVec 16, l.waiting = [] → Completes (.relayAck r ack) s fun t => counted t
      ∧ (t.dev.link r).window = l.window.filter (fun y => decide (32768 ≤ (ack.toNat + 65536 - y.frame.seq) % 65536)) ∧ t.dev.out = s.dev.out ∧ t.home = s.home)
    ∧ (∀ (seq : BitVec 16) (y : TxFrame), (l.window.find? fun y => y.frame.seq = seq.toNat) = some y → y.sends < 8 → Completes (.relayNak r seq none) s fun t =>
      counted t ∧ { y with sentAt := s.dev.frame, sends := y.sends + 1 } ∈ (t.dev.link r).window
        ∧ t.dev.rd (RL_RETRIES r) = min (s.dev.rd (RL_RETRIES r) + 1) (2 ^ (RL_RETRIES r).width - 1) ∧ t.dev.out.length = s.dev.out.length + 1)
    ∧ (∀ y : TxFrame, (l.window.find? fun y => decide (y.sentAt + 50 ≤ s.dev.frame)) = some y →
      (y.sends < 8 → Completes (.relayRetransmit r) s fun t => { y with sentAt := s.dev.frame, sends := y.sends + 1 } ∈ (t.dev.link r).window
        ∧ t.dev.rd (RL_RETRIES r) = min (s.dev.rd (RL_RETRIES r) + 1) (2 ^ (RL_RETRIES r).width - 1))
      ∧ (8 ≤ y.sends → s.dev.frontBusy = false → Completes (.relayRetransmit r) s fun t => t.dev.rd (RL_LINK r) = 0 ∧ (t.dev.link r).window = []
        ∧ t.dev.rd (RL_PEER_POS r) = 0xFF))
    ∧ (∀ (t1 t2 t3 t4 : BitVec 64) (err : BitVec 16),
      (r = 0 → Completes (.relayTime r t1 t2 t3 t4 err) s fun t => counted t
        ∧ t.dev.chain = (((t2.toNat : Int) - t1.toNat) + ((t3.toNat : Int) - t4.toNat)) / 2 ∧ t.dev.rd CH_SYNC_AGE = 0 ∧ t.dev.rd CH_SYNC_ERR = err.toNat)
      ∧ (r = 1 → Completes (.relayTime r t1 t2 t3 t4 err) s fun t => counted t ∧ t.dev.chain = s.dev.chain ∧ t.dev.out.length = s.dev.out.length + 1))
    ∧ (∀ seq : BitVec 16, Completes (.relayBadCrc r seq) s fun t => t.dev.rd (RL_CRC_ERR r) = min (s.dev.rd (RL_CRC_ERR r) + 1) (2 ^ (RL_CRC_ERR r).width - 1)
      ∧ t.dev.link r = l ∧ t.dev.out = .relay r (RFrame.encode ⟨3, 3, seq.toNat, ackOf l, s.dev.rd CH_POSITION, 0xFF, 0, []⟩) :: s.dev.out)
    ∧ (r = 0 → s.dev.frame % 500 = 0 → Completes .timeExchange s fun t => t.dev.rd (RL_TX_FRAMES 0) = min (s.dev.rd (RL_TX_FRAMES 0) + 1) (2 ^ 48 - 1)
      ∧ t.dev.out.length = s.dev.out.length + 1 ∧ t.dev.link 0 = l))
  ∧ (∀ (r : Fin 2) (k : Fin 3) (peer : Byte) (pos : Fin 64) (units : Fin 256) (s : State), s.dev.awake = true → s.dev.bistOf (.relay r) = none →
    s.dev.cst (.relay r) = .active → s.dev.frontBusy = false →
    Completes (.relayLinkChange r k peer (some pos) units) s fun t => t.dev.rd (RL_LINK r) = k.val ∧ t.dev.rd CH_UNITS = min (max 1 units.val) 64
      ∧ t.dev.rd CH_POSITION = pos.val ∧ t.dev.on CH_HEAD = decide (pos.val = 0) ∧ (k.val = 2 → s.dev.rd (RL_LINK r) ≠ 2 → t.dev.rd (RL_PEER_POS r) = peer.toNat)
      ∧ t.home = s.home)

/-- FRONT_LAUNCH, FRONT_STATUS, FRONT_MANIFEST, FRONT_CHUNK, ARMED, ARMED_EVALUATION, COMMIT, LANDFALL, LANDED, NOT_HEALTHY, ABORTED,
LANDED_DEADLINE, SETTLED, ABORT, FELL_BACK and CATCH_UP (R332 to R344). -/
def Obligations.FrontProceeds : Prop :=
  (∀ (x : Desc) (s : State), Taken x 0x502 s →
    let d := found x 0x502 s
    let ml : Word := x.par 0 32
    let bytes : BitVec 64 := x.par 8 64
    let m := x.src.take ml.toNat
    (d.head = false → Completes (.frontLaunch x) s fun t => Answered x 0x502 (some .roleDenied) t ∧ t.home = s.home)
    ∧ (d.head = true → x.src.length = bytes.toNat → d.frontBusy = false → d.rd FW_STATE = 0 → Completes (.frontLaunch x) s fun t =>
      match d.manifestCheck m with
      | some st => Answered x 0x502 (some st) t ∧ t.home = s.home ∧ t.dev.rd FRONT_STATE = d.rd FRONT_STATE
      | none => Answered x 0x502 none t ∧ (t.dev.frontState = .receiving ∨ t.dev.frontState = .armed) ∧ t.dev.front.manifest = m
          ∧ t.dev.rd FRONT_LANDFALL = (d.chainTime + manifestLandfall m) % 2 ^ FRONT_LANDFALL.width ∧ t.dev.front.requester = some x.ref))
  ∧ (∀ (x : Desc) (s : State), Taken x 0x503 s → x.src = [] → (x.par 0 8 : Byte) = 0xFF → Completes (.frontStatus x) s fun t =>
    Gives x 0x503 t (fun q => q.status = some .ok ∧ q.result0 = (found x 0x503 s).frontWord ((found x 0x503 s).rd FRONT_STATE)
      ∧ q.result1 = (found x 0x503 s).rd FRONT_SEQ) ∧ t.dev.front = (found x 0x503 s).front)
  ∧ (∀ (b : Bytes) (rest : List Bytes) (s : State), s.dev.up = true → s.dev.front.inbox = b :: rest →
    (∀ l : BitVec 64, s.dev.head = false → leAt b 0 4 = 0x4D4F5846 → s.dev.frontBusy = false →
      let e : Dev := { s.dev with front := { s.dev.front with inbox := rest } }
      Completes (.frontManifest l) s fun t => t.dev.front.inbox = rest ∧ match e.manifestCheck b with
        | some _ => t.dev.rd FRONT_STATE = s.dev.rd FRONT_STATE
        | none => (t.dev.frontState = .receiving ∨ t.dev.frontState = .armed) ∧ t.dev.front.manifest = b
            ∧ t.dev.rd FRONT_LANDFALL = l.toNat % 2 ^ FRONT_LANDFALL.width)
    ∧ (∀ (good : Bool) (oxms : List (Fin 96 × Bytes)), s.dev.frontBusy = true → leAt b 0 4 ≠ 0x4D4F5846 → s.dev.link1.window = [] → s.dev.link1.waiting = [] →
      let e := oxmEntry s.dev.front.manifest (leAt b 0x10 2)
      let whole := s.dev.front.part ++ b.drop 4819
      Completes (.frontChunk good oxms) s fun t => match State.chunkCheck s.dev b with
        | none => whole.length < partSize e → t.dev.front.part = whole ∧ t.dev.front.next = s.dev.front.next + 1 ∧ t.dev.front.inbox = rest
            ∧ t.dev.rd FRONT_CHUNKS_OK = min (s.dev.rd FRONT_CHUNKS_OK + 1) (2 ^ FRONT_CHUNKS_OK.width - 1) ∧ t.home = s.home
        | some _ => s.dev.front.fails < 3 → t.dev.front.fails = s.dev.front.fails + 1 ∧ t.dev.front.next = s.dev.front.next ∧ t.home = s.home
            ∧ t.dev.rd FRONT_CHUNKS_RETRIED = min (s.dev.rd FRONT_CHUNKS_RETRIED + 1) (2 ^ FRONT_CHUNKS_RETRIED.width - 1)))
  ∧ (∀ s : State, s.dev.up = true →
    let lost := fun (st : Status) (t : State) => t.dev.rd FRONT_LAST_STATUS = st.code
      ∧ t.dev.frontState = (if s.dev.frontState = .landed then .fellBack else .aborted)
    (s.dev.head = true →
      (s.dev.frontBusy = true → ∀ k : Fin 64,
        Completes (.armed k) s (fun t => bit (t.dev.rd FRONT_ARMED_MAP) k = true ∧ t.dev.rd FRONT_STATE = s.dev.rd FRONT_STATE)
        ∧ Completes (.landed k) s (fun t => bit (t.dev.rd FRONT_LANDED_MAP) k = true)
        ∧ (s.dev.fw.settled = false → Completes (.notHealthy k) s (lost .healthFail) ∧ ∀ st : Status, Completes (.aborted k st) s (lost st)))
      ∧ ((s.dev.frontState = .receiving ∨ s.dev.frontState = .armed) →
        (s.dev.allIn FRONT_ARMED_MAP = true → Completes .armedEvaluation s fun t => t.dev.frontState = .committed ∧ t.dev.front.requester = none
          ∧ ∀ r, s.dev.front.requester = some r → ∀ o ∈ t.dev.ops, o.ref = r → o.status ≠ none)
        ∧ (s.dev.allIn FRONT_ARMED_MAP = false → s.dev.rd FRONT_LANDFALL ≤ s.dev.chainTime + 500000 → manifestLandfall s.dev.front.manifest ≠ 0 →
          Completes .armedEvaluation s (lost .landfallMissed)))
      ∧ ((s.dev.frontState = .committed ∨ s.dev.frontState = .landed) → s.dev.fw.settled = false → s.dev.allIn FRONT_LANDED_MAP = false →
        s.dev.rd FRONT_LANDFALL + s.dev.fw.window ≤ s.dev.chainTime + 2500000 → Completes .landedDeadline s (lost .healthFail))
      ∧ (∀ k : Fin 64, Completes (.fellBack k) s fun t => (t.dev.front.reports.find? fun e => e.1 = k.val) = some (k.val, s.dev.frontWord 6)
        ∧ t.dev.rd FRONT_STATE = s.dev.rd FRONT_STATE ∧ t.home = s.home))
    ∧ (s.dev.head = false →
      (s.dev.frontState = .armed → s.dev.chainTime < s.dev.rd FRONT_LANDFALL → Completes .commit s fun t => t.dev.frontState = .committed)
      ∧ (s.dev.frontBusy = true → ∀ st : Status, Completes (.abort st) s (lost st))
      ∧ (s.dev.frontState = .landed → Completes .settled s fun t =>
        if s.dev.front.reported = true ∧ s.dev.rd FW_STATE = 3 ∧ s.dev.rd FW_HEALTH_LEFT ≠ 0 ∧ s.dev.fit true = true
        then t.dev.frontState = .settled ∧ t.dev.rd FW_STATE = 0 else t.dev.frontState = .landed ∧ t.dev.front.settledGot = true))
    ∧ (s.dev.frontState = .committed → s.dev.rd FRONT_LANDFALL ≤ s.dev.chainTime → Completes .landfall s fun t =>
      if s.dev.on CH_SYNCED then t.dev.frontState = .landed ∧ t.dev.rd FW_STATE = 3 ∧ t.dev.phase = .pilotDown else lost .landfallMissed t)
    ∧ (s.dev.frontState = .fellBack → s.dev.front.manifest ≠ [] → Completes (.catchUp true) s fun t =>
      t.dev.frontState = .landed ∧ t.dev.rd FW_STATE = 3 ∧ t.dev.front.catchUp = true ∧ t.dev.phase = .pilotDown))

/-- WDT_ARM, WDT_SERVICE, WDT_CHECKIN, WDT_WINDOW_CLOSE, CNT_CONFIG, CNT_SNAPSHOT and SNAPSHOT_TAKE (R381 to R386, R400 to R402). -/
def Obligations.WatchdogAndCounters : Prop :=
  (∀ s : State, s.dev.rd WDT_STATE ≠ 2 →
    let fails := fun (cause task : Nat) (t : State) => t.dev.rd WDT_STATE = 2 ∧ t.dev.rd WDT_LAST_FAIL_CAUSE = cause ∧ t.dev.rd WDT_LAST_FAIL_TASK = task
      ∧ t.dev.rd WDT_EXPIRY_CNT = min (s.dev.rd WDT_EXPIRY_CNT + 1) (2 ^ 32 - 1) ∧ t.dev.wdt.armedTo = none ∧ t.dev.phase = s.dev.phase
      ∧ (∃ esc, t.dev.wdt.trapEnd = some (s.dev.frame + s.dev.rd WDT_HARD_FRAMES, esc)) ∧ t.home = s.home ∧ t.otp = s.otp
    (s.dev.up = true →
      (s.dev.wdtArmed = false → Completes .wdtArm s fun t => t.dev.wdt = { s.dev.wdt with armedTo := some (s.dev.frame + 1) } ∧ t.dev.regs = s.dev.regs
        ∧ t.home = s.home ∧ t.otp = s.otp)
      ∧ (s.dev.wdtArmed = true → Completes .wdtArm s (fails 5 0))
      ∧ (let k := s.dev.frame - s.dev.wdt.start
        let missing := s.dev.wdt.enrolled &&& (s.dev.rd WDT_CHECKED ^^^ (2 ^ 32 - 1))
        Completes .wdtService s fun t =>
          if s.dev.wdt.closes ≤ k then fails 1 0 t
          else if s.dev.wdtArmed = false then fails 5 0 t
          else if k < s.dev.wdt.opens then fails 2 0 t
          else if missing ≠ 0 then fails 3 (Dev.lowestBit missing) t
          else t.dev.rd WDT_STATE = 1 ∧ t.dev.rd WDT_CHECKED = 0 ∧ t.dev.rd WDT_PERIOD_START = s.dev.frame % 2 ^ 32
            ∧ t.dev.wdt = ⟨none, s.dev.rd WDT_WD_OPEN, s.dev.rd WDT_WD_CLOSE, s.dev.rd WDT_ENROLLED, s.dev.rd WDT_MODE, s.dev.frame, s.dev.wdt.trapEnd⟩
            ∧ (∀ f : Fld, f.bit ≠ WDT_STATE.bit → f.bit ≠ WDT_CHECKED.bit → f.bit ≠ WDT_PERIOD_START.bit → t.dev.rd f = s.dev.rd f)
            ∧ t.home = s.home ∧ t.otp = s.otp)
      ∧ (∀ n : Fin 32,
        (bit s.dev.wdt.enrolled n = true → bit (s.dev.rd WDT_CHECKED) n = true → bit s.dev.wdt.mode n = true → Completes (.wdtCheckin n) s (fails 4 n))
        ∧ (bit s.dev.wdt.enrolled n = true → (bit (s.dev.rd WDT_CHECKED) n = false ∨ bit s.dev.wdt.mode n = false) → Completes (.wdtCheckin n) s fun t =>
          bit (t.dev.rd WDT_CHECKED) n = true ∧ (∀ f : Fld, f.bit ≠ WDT_CHECKED.bit → t.dev.rd f = s.dev.rd f) ∧ t.dev.wdt = s.dev.wdt)
        ∧ (bit s.dev.wdt.enrolled n = false → exec (.wdtCheckin n) s = .next s)))
    ∧ (s.dev.awake = true → s.dev.wdt.start + s.dev.wdt.closes ≤ s.dev.frame → Completes .wdtWindowClose s (fails 1 0)))
  ∧ (∀ (x : Desc) (s : State), Taken x 0x702 s →
    let m : BitVec 64 := x.par 0 64
    let sel := x.raw.getLsbD 320
    x.src.length = (if sel then 128 else 0) →
    Completes (.cntConfig x) s fun t => Answered x 0x702 (some .ok) t ∧ t.dev.cnt.clear = (found x 0x702 s).cnt.clear ||| m.toNat
      ∧ (sel = true → ∀ i < 64, (i, leAt x.src (2 * i) 2) ∈ t.dev.cnt.load) ∧ (sel = false → t.dev.cnt.load = (found x 0x702 s).cnt.load)
      ∧ t.dev.regs = (found x 0x702 s).regs ∧ t.home = s.home ∧ t.otp = s.otp)
  ∧ (∀ (x : Desc) (s : State), Taken x 0x703 s →
    let d := found x 0x703 s
    let m : BitVec 64 := x.par 0 64
    (m.toNat ≠ 0 → m.toNat < d.frame → Completes (.cntSnapshot x) s fun t => Answered x 0x703 (some .descInvalid) t ∧ t.dev.cnt = d.cnt)
    ∧ ((m.toNat = 0 ∨ d.frame ≤ m.toNat) → Completes (.cntSnapshot x) s fun t => Answered x 0x703 none t ∧ t.dev.cnt.snapshot = some x.ref
      ∧ t.dev.on CNT_SNAP_CTL_PENDING = true ∧ t.dev.rd CNT_SNAP_TARGET = (if m.toNat = 0 then d.frame + 1 else m.toNat) % 2 ^ 64))
  ∧ (∀ s : State, s.dev.snapshotDue = true → Completes .snapshotTake s fun t => (∀ i < 64, t.dev.rd (SNAP i) = s.dev.rd (CNT i) % 2 ^ (SNAP i).width)
    ∧ (∀ i < 64, t.dev.rd (CNT i) = s.dev.rd (CNT i)) ∧ t.dev.rd CNT_SNAP_FRAME = s.dev.frame % 2 ^ CNT_SNAP_FRAME.width
    ∧ t.dev.on CNT_SNAP_CTL_PENDING = false ∧ t.dev.on CNT_SNAP_CTL_DONE = true ∧ t.dev.cnt.snapshot = none
    ∧ ∀ r, s.dev.cnt.snapshot = some r → ∀ o ∈ t.dev.ops, o.ref = r → o.status ≠ none)

/-- BAROGRAPH_WRITE, BARO_READ and BARO_CLEAR (R388 to R396). -/
def Obligations.BarographRecords : Prop :=
  (∀ (r : BaroRec) (q : List BaroRec) (s : State), s.dev.up = true → s.dev.on BARO_STATUS_FULL = false → s.dev.on BARO_STATUS_CLEARING = false →
    s.dev.baro.queue = r :: q → s.dev.rd BARO_STATUS_WRITE_POINT < 16384 →
    let wp := s.dev.rd BARO_STATUS_WRITE_POINT
    let moved := fun (t : State) => t.dev.baro.queue = q ∧ t.dev.rd BARO_QUEUE = q.length % 512 ∧ t.dev.rd BARO_SEQ = r.seq % 2 ^ 32
      ∧ t.dev.rd BARO_STATUS_WRITE_POINT = wp + 1 ∧ t.dev.on BARO_STATUS_FULL = decide (wp + 1 = 16384) ∧ t.otp = s.otp
      ∧ ∀ a, (a < baroAddr wp ∨ baroAddr wp + 64 ≤ a) → t.homeRead a 1 = s.homeRead a 1
    (s.homeRead (baroAddr wp) 64 = List.replicate 64 0xFF → Completes (.barographWrite true) s fun t => moved t
      ∧ t.homeRead (baroAddr wp) 64 = r.encode ∧ t.dev.rd BARO_CORRUPT = s.dev.rd BARO_CORRUPT)
    ∧ Completes (.barographWrite false) s fun t => moved t ∧ t.dev.rd BARO_CORRUPT = min (s.dev.rd BARO_CORRUPT + 1) (2 ^ 32 - 1))
  ∧ (∀ (x : Desc) (s : State), Taken x 0x700 s →
    let first : Nat := (x.par 0 16).toNat
    let count : Nat := (x.par 2 16).toNat
    first < 16384 → 1 ≤ count → count ≤ 1024 → x.src = [] → 64 * count ≤ x.dstLen →
    let wp := (found x 0x700 s).rd BARO_STATUS_WRITE_POINT
    let n := min (first + count) wp - first
    Completes (.baroRead x) s fun t => t.home = s.home ∧ t.otp = s.otp
      ∧ Gives x 0x700 t fun o => o.status = some .ok ∧ o.result0 = n ∧ o.result1 = wp ∧ o.dst = s.homeRead (baroAddr first) (64 * n))
  ∧ (∀ (x : Desc) (s : State), Taken x 0x701 s →
    let f : State := { s with dev := found x 0x701 s }
    Completes (.baroClear x true) s fun t => t.otp = s.otp ∧ match f.clearRefusal x.src with
      | some st => Answered x 0x701 (some st) t ∧ t.home = s.home
      | none => Answered x 0x701 (some .ok) t ∧ t.dev.rd BARO_STATUS_WRITE_POINT = 1 ∧ t.dev.rd BARO_SEQ = 1 ∧ t.dev.on BARO_STATUS_FULL = false
        ∧ t.dev.rd BARO_CLEAR_SEQ = min (f.dev.rd BARO_CLEAR_SEQ + 1) 0xFFFFFFFF
        ∧ leAt (t.homeRead (baroAddr 0) 64) 0 2 = Ev.baroCleared.code
        ∧ leAt (t.homeRead (baroAddr 0) 64) 0x1C 4 = f.dev.rd BARO_STATUS_WRITE_POINT % 2 ^ 32
        ∧ (∀ a, 64 ≤ a → a < 0x100000 → t.homeRead (0x1210000 + a) 1 = [0xFF]))

/-- PAIR_BIND, VAULT_STATUS, STANDBY_RETURN, CHECKPOINT_WRITE, DIRTY_MARK, HEARTBEAT_TOGGLE, RELEASE_TRISTATE and RETURNING_END. -/
def Obligations.PairAndVault : Prop :=
  let same := fun (s t : State) => t.home = s.home ∧ t.otp = s.otp
  let floats := fun (t : State) => t.dev.own.drivesRelease = false ∧ t.dev.own.frozen = none ∧ ∀ n < 96, t.dev.on (COMP_STATUS_RELEASE n) = false
  let returning := fun (f : Nat) (t : State) => t.dev.pairState = .returning ∧ t.dev.own.outFell = some f ∧ t.dev.own.frozen = some f ∧ t.dev.own.ownOut = false
  (∀ (x : Desc) (s : State), Taken x 0x800 s →
    let f : State := { s with dev := found x 0x800 s }
    ((x.par 0 8 : Byte) = 0 → x.src = [] → 256 ≤ x.dstLen → Completes (.pairBind x) s fun t => same s t ∧ if f.dev.hasIdentity = false then Answered x 0x800 (some .selftestFail) t
      else t.dev.rd PAIR_LAST_STATUS = 0 ∧ ∃ k, t.dev.own.offer = some k
        ∧ Gives x 0x800 t fun q => q.status = some .ok ∧ q.dst.take 160 = f.dev.offerBody (Config.publicKey 2 k) ∧ q.dst.length = 256)
    ∧ (let o := x.src.take 256
      let n := leAt x.src 256 4
      let chain := (x.src.drop 256).take n
      let proved := slice chain 4 48 = slice (f.chain 0) 4 48 ∧ Config.chainSerial chain = some (slice o 0x10 16)
        ∧ Config.ecdsaVerify (Config.chainKey chain) (o.take 0xA0) (slice o 0xA0 96) = true
        ∧ f.dev.tokenCheck 4 0 (slice o 0x10 16) 0 none (x.src.drop (256 + n)) = none ∧ f.dev.own.offer.isSome = true
      (x.par 0 8 : Byte) = 1 → x.src.length = 256 + n + 7476 → Completes (.pairBind x) s fun t => same s t
        ∧ (s.regionState 8 ≠ 0 → Answered x 0x800 (some .otpLocked) t ∧ t.dev.rd PAIR_LAST_STATUS = Status.otpLocked.code)
        ∧ (s.regionState 8 = 0 →
          (f.dev.lc ≠ .test → f.dev.lc ≠ .production → Answered x 0x800 (some .lifecycleDenied) t)
          ∧ ((f.dev.lc = .test ∨ f.dev.lc = .production) → (f.dev.offerOk o = false → Answered x 0x800 (some .descInvalid) t)
            ∧ (f.dev.offerOk o = true → (¬proved → Answered x 0x800 (some .authFail) t)
              ∧ (proved → (f.dev.otpSupply = false → Answered x 0x800 (some .otpNoSupply) t)
                ∧ (f.dev.otpSupply = true → f.dev.otpx.burns = [] → OtpOrdered s → Answered x 0x800 none t ∧ Burning (some x.ref) t)))))))
  ∧ (∀ (x : Desc) (s : State), Taken x 0x801 s → x.src = [] → Completes (.vaultStatus x) s fun t =>
    let d := found x 0x801 s
    Gives x 0x801 t (fun q => q.status = some .ok ∧ q.result1 = d.rd VAULT_GEN % 2 ^ 32
      ∧ q.result0 = d.rd PAIR_STATE + 2 ^ 3 * d.rd PAIR_BOUND + 2 ^ 4 * d.rd PAIR_ROLE + 2 ^ 5 * d.rd PAIR_YIELDED + 2 ^ 16 * d.rd PAIR_LAST_STATUS)
      ∧ t.dev.rd PAIR_LAST_STATUS = 0 ∧ same s t)
  ∧ (∀ (x : Desc) (s : State), Taken x 0x802 s → x.src = [] →
    let d := found x 0x802 s
    ((d.standby = false ∨ d.pairState ≠ .owning) → Completes (.standbyReturn x true) s fun t => Answered x 0x802 (some .notOwner) t ∧ t.dev.own = d.own)
    ∧ (d.standby = true → d.pairState = .owning → Completes (.standbyReturn x true) s fun t => Answered x 0x802 none t ∧ t.dev.own.returning = some x.ref ∧ same s t
      ∧ if d.recordTime then returning d.frame t else t.dev.pairState = .owning ∧ t.dev.rd VAULT_GEN = d.rd VAULT_GEN))
  ∧ (∀ s : State, s.dev.up = true → s.dev.keepsVault = true →
    (s.dev.pairState = .owning → s.dev.recordTime = true → (s.dev.own.returning.isSome = true ∨ s.dev.vaultItems ≠ s.dev.vault.items) →
      Completes (.checkpointWrite true) s fun t => t.dev.rd VAULT_GEN = (s.dev.rd VAULT_GEN + 1) % 2 ^ 64 ∧ t.dev.rd VAULT_DIRTY = 0 ∧ t.dev.vault.written = true
        ∧ t.dev.rd VAULT_LAST_WRITE = s.dev.frame % 2 ^ 32 ∧ t.dev.vault.items = s.dev.vaultItems ∧ same s t
        ∧ if s.dev.own.returning.isSome then returning s.dev.frame t else t.dev.pairState = .owning)
    ∧ (s.dev.vault.written = true → s.dev.vault.markedTo ≤ s.dev.frame → s.dev.markAll ≠ s.dev.vault.seenAll → Completes .dirtyMark s fun t => t.dev.vault.seen = s.dev.markItems
      ∧ t.dev.vault.seenAll = s.dev.markAll ∧ t.dev.regs = s.dev.regs ∧ same s t ∧ if s.dev.vault.marks < 2048
        then t.dev.vault.marks = s.dev.vault.marks + 1 ∧ t.dev.out.length = s.dev.out.length + 1 else t.dev.vault.marks = s.dev.vault.marks ∧ t.dev.out = s.dev.out))
  ∧ (∀ s : State, (s.dev.phase = .running ∨ s.dev.phase = .pilotDown) → s.dev.owner = true → s.dev.frame % 2500 = 0 →
    exec .heartbeatToggle s = .next { s with dev := { s.dev with own := { s.dev.own with beat := !s.dev.own.beat } } })
  ∧ (∀ (f : Nat) (s : State), s.dev.own.frozen = some f → s.dev.pairState = .notOwning → f + 16 ≤ s.dev.frame →
    Completes .releaseTristate s fun t => floats t ∧ same s t)
  ∧ (∀ (f : Nat) (s : State), s.dev.own.outFell = some f → s.dev.pairState = .returning → f + 32 ≤ s.dev.frame → (s.dev.takeoverIn && s.dev.on PAIR_BOUND) = false →
    Completes .returningEnd s fun t => floats t ∧ same s t ∧ t.dev.pairState = .listening ∧ t.dev.rd PAIR_LAST_STATUS = 0 ∧ t.dev.own.returning = none
      ∧ t.dev.own.outFell = none ∧ ∀ r, s.dev.own.returning = some r → ∀ o ∈ t.dev.ops, o.ref = r → o.status ≠ none)

/-- TAKEOVER_RELEASE_SAMPLE, TAKING_COMPLETE and TAKEOVER_HOLD_CLEAR (R424 to R428). -/
def Obligations.TakeoverProceeds : Prop :=
  (∀ (levels : BitVec 96) (newer : Bool) (f : Nat) (s : State), s.dev.own.taking = some f → s.dev.up = true → s.dev.pairState = .taking →
    s.dev.own.applied = false → f + 6 ≤ s.dev.frame →
    Completes (.takeoverReleaseSample levels none newer) s (fun t => t.dev.own.applied = true ∧ t.dev.own.drivesRelease = true
      ∧ t.dev.own.detail = 2 ^ 24 + 2 ^ 25 * flag newer ∧ (∀ n < 96, t.dev.on (COMP_STATUS_RELEASE n) = false) ∧ t.home = s.home ∧ t.otp = s.otp)
    ∧ ∀ r : TkRec, (r.writer = slice s.dev.serial 0 16 ∨ r.writer = leBytes 8 (s.dev.rd (PAIR_PARTNER_SERIAL 0)) ++ leBytes 8 (s.dev.rd (PAIR_PARTNER_SERIAL 1))) →
      Completes (.takeoverReleaseSample levels (some r) false) s fun t => t.dev.own.applied = true ∧ t.dev.own.drivesRelease = true ∧ t.dev.pol.bytes = r.policy
        ∧ t.dev.own.tail = r.tail ∧ t.dev.rd VAULT_GEN = r.gen % 2 ^ VAULT_GEN.width ∧ t.dev.rd TK_GEN = r.gen % 2 ^ TK_GEN.width ∧ t.otp = s.otp
        ∧ t.dev.att.entries = r.entries)
  ∧ (∀ s : State, s.dev.up = true → s.dev.pairState = .taking → s.dev.own.applied = true → s.dev.pairsActive = true → Completes .takingComplete s fun t =>
    t.dev.rd TK_DONE = s.dev.frame % 2 ^ 32 ∧ t.dev.own.taking = none ∧ t.dev.own.applied = false ∧ t.dev.own.tail = [] ∧ t.home = s.home ∧ t.otp = s.otp
      ∧ t.dev.pairState = if !s.dev.standby && s.dev.takeoverIn then .notOwning else .owning)
  ∧ (∀ (n : Fin 96) (s : State), s.dev.held n .takeover = true → s.dev.cst (.pp ⟨n.val / 2, by omega⟩) = .active → s.dev.pinsComplete n = true →
    Completes (.takeoverHoldClear n) s fun t => t.dev.held n .takeover = false ∧ (∀ f : Fld, f.bit ≠ (COMP_STATUS_HOLD n).bit → t.dev.rd f = s.dev.rd f)
      ∧ t.home = s.home ∧ t.otp = s.otp)

/-- The one stop of the model is the low of PWR_GOOD for which R460 gives no effect. -/
def Obligations.EveryCommandGoesOn : Prop :=
  ∀ (c : Instr) (s : State), (∀ ns, c = .pwrGoodQualifyingLow ns → ns < 1000 ∨ 3000 ≤ ns) → ∃ t, exec c s = .next t
end

