-- ==== Sys2Proof/Laws/SMap.lean ====
section
/-! SUPPORT. Reading after writing a sparse map, and that writing keeps the canonical form. -/

namespace Sys2Proof.Machine.SMap

variable {α : Type}

theorem get_drop_self (dflt : Nat → α) (m : List (Nat × α)) (k : Nat) : get dflt (drop m k) k = dflt k := by
  induction m with
  | nil => rfl
  | cons e m ih =>
    obtain ⟨j, w⟩ := e
    by_cases h : j = k <;> simp [drop, get, h, ih]

theorem get_drop_ne (dflt : Nat → α) (m : List (Nat × α)) {k j : Nat} (h : k ≠ j) :
    get dflt (drop m k) j = get dflt m j := by
  induction m with
  | nil => rfl
  | cons e m ih =>
    obtain ⟨i, w⟩ := e
    by_cases hi : i = k
    · subst hi; simp [drop, get, ih, h]
    · simp [drop, get, hi, ih]

theorem get_put_self (dflt : Nat → α) (m : List (Nat × α)) (k : Nat) (v : α) : get dflt (put m k v) k = v := by
  induction m with
  | nil => simp [put, get]
  | cons e m ih =>
    obtain ⟨j, w⟩ := e
    unfold put
    split
    · simp [get]
    · split
      · simp [get]
      · rename_i h
        simp [get, h, ih]

theorem get_put_ne (dflt : Nat → α) (m : List (Nat × α)) {k j : Nat} (v : α) (h : k ≠ j) :
    get dflt (put m k v) j = get dflt m j := by
  induction m with
  | nil => simp [put, get, h]
  | cons e m ih =>
    obtain ⟨i, w⟩ := e
    unfold put
    split
    · simp [get, h]
    · split
      · rename_i hi; subst hi; simp [get, h]
      · simp [get, ih]

/-- Reading after writing. -/
@[simp] theorem get_set_self [DecidableEq α] (dflt : Nat → α) (m : List (Nat × α)) (k : Nat) (v : α) : get dflt (set dflt m k v) k = v := by
  unfold set
  split
  · rename_i h; rw [get_drop_self, h]
  · exact get_put_self ..

/-- A write leaves every other key alone. -/
theorem get_set_ne [DecidableEq α] (dflt : Nat → α) (m : List (Nat × α)) {k j : Nat} (v : α) (h : k ≠ j) :
    get dflt (set dflt m k v) j = get dflt m j := by
  unfold set
  split
  · exact get_drop_ne _ _ h
  · exact get_put_ne _ _ _ h

theorem sortedFrom_mono {a b : Nat} (m : List (Nat × α)) (h : a ≤ b) (hs : sortedFrom b m = true) :
    sortedFrom a m = true := by
  cases m with
  | nil => rfl
  | cons e m => simp_all [sortedFrom]; omega

theorem sortedFrom_drop (m : List (Nat × α)) (k b : Nat) (hs : sortedFrom b m = true) :
    sortedFrom b (drop m k) = true := by
  induction m generalizing b with
  | nil => rfl
  | cons e m ih =>
    obtain ⟨j, w⟩ := e
    simp only [sortedFrom, Bool.and_eq_true, decide_eq_true_eq] at hs
    unfold drop
    split
    · exact sortedFrom_mono _ (by omega) (ih _ hs.2)
    · simp [sortedFrom, hs.1, ih _ hs.2]

theorem sortedFrom_put (m : List (Nat × α)) (k b : Nat) (v : α) (hb : b ≤ k) (hs : sortedFrom b m = true) :
    sortedFrom b (put m k v) = true := by
  induction m generalizing b with
  | nil => simp [put, sortedFrom, hb]
  | cons e m ih =>
    obtain ⟨j, w⟩ := e
    simp only [sortedFrom, Bool.and_eq_true, decide_eq_true_eq] at hs
    unfold put
    split
    · rename_i h
      simp [sortedFrom, hb, hs.2]
      omega
    · split
      · rename_i h; subst h; simp [sortedFrom, hs]
      · simp [sortedFrom, hs.1]
        exact ih _ (by omega) hs.2

theorem mem_of_mem_drop {m : List (Nat × α)} {k : Nat} {e : Nat × α} (h : e ∈ drop m k) : e ∈ m := by
  induction m with
  | nil => exact h
  | cons x m ih =>
    obtain ⟨j, w⟩ := x
    unfold drop at h
    split at h
    · exact List.mem_cons_of_mem _ (ih h)
    · rcases List.mem_cons.mp h with h | h
      · exact List.mem_cons.mpr (Or.inl h)
      · exact List.mem_cons_of_mem _ (ih h)

theorem mem_of_mem_put {m : List (Nat × α)} {k : Nat} {v : α} {e : Nat × α} (h : e ∈ put m k v) : e = (k, v) ∨ e ∈ m := by
  induction m with
  | nil => simp [put] at h; exact Or.inl h
  | cons x m ih =>
    obtain ⟨j, w⟩ := x
    unfold put at h
    split at h
    · simpa using h
    · split at h
      · rcases List.mem_cons.mp h with h | h
        · exact Or.inl h
        · exact Or.inr (List.mem_cons_of_mem _ h)
      · rcases List.mem_cons.mp h with h | h
        · exact Or.inr (List.mem_cons.mpr (Or.inl h))
        · exact (ih h).imp id (List.mem_cons_of_mem _)

/-- Every write keeps the canonical form. -/
theorem wf_set [DecidableEq α] (dflt : Nat → α) (m : List (Nat × α)) (k : Nat) (v : α) (h : wf dflt m = true) :
    wf dflt (set dflt m k v) = true := by
  simp only [wf, Bool.and_eq_true, List.all_eq_true, decide_eq_true_eq] at *
  unfold set
  split
  · exact ⟨sortedFrom_drop _ _ _ h.1, fun e he => h.2 e (mem_of_mem_drop he)⟩
  · rename_i hv
    refine ⟨sortedFrom_put _ _ _ _ (Nat.zero_le _) h.1, fun e he => ?_⟩
    rcases mem_of_mem_put he with rfl | he
    · exact hv
    · exact h.2 e he

end Sys2Proof.Machine.SMap
end

