-- ==== Sys2Proof/Laws/State.lean ====
section
/-! SUPPORT. What each update of the state leaves alone: one lemma per field and update. -/

namespace Sys2Proof.Machine

variable (s : State) (d : Dev)

namespace State

@[simp] theorem onDev_pending (f : Dev → Dev) : (s.onDev f).pending = s.pending := rfl
@[simp] theorem onDev_home (f : Dev → Dev) : (s.onDev f).home = s.home := rfl
@[simp] theorem onDev_otp (f : Dev → Dev) : (s.onDev f).otp = s.otp := rfl
@[simp] theorem onDev_dev (f : Dev → Dev) : (s.onDev f).dev = f s.dev := rfl
@[simp] theorem setWord_pending (w : Nat) (x : OtpWord) : (s.setWord w x).pending = s.pending := rfl
@[simp] theorem setWord_home (w : Nat) (x : OtpWord) : (s.setWord w x).home = s.home := rfl
@[simp] theorem setWord_dev (w : Nat) (x : OtpWord) : (s.setWord w x).dev = s.dev := rfl

end State

namespace Dev

@[simp] theorem wr_phase (f : Fld) (v : Nat) : (d.wr f v).phase = d.phase := rfl
@[simp] theorem wr_cells (f : Fld) (v : Nat) : (d.wr f v).cells = d.cells := rfl
@[simp] theorem wr_tasks (f : Fld) (v : Nat) : (d.wr f v).tasks = d.tasks := rfl
@[simp] theorem wr_resubmit (f : Fld) (v : Nat) : (d.wr f v).resubmit = d.resubmit := rfl
@[simp] theorem wr_late (f : Fld) (v : Nat) : (d.wr f v).late = d.late := rfl
@[simp] theorem wr_skipScan (f : Fld) (v : Nat) : (d.wr f v).skipScan = d.skipScan := rfl
@[simp] theorem wr_frameHigh (f : Fld) (v : Nat) : (d.wr f v).frameHigh = d.frameHigh := rfl
@[simp] theorem wr_inputs (f : Fld) (v : Nat) : (d.wr f v).inputs = d.inputs := rfl
@[simp] theorem wr_bist (f : Fld) (v : Nat) : (d.wr f v).bist = d.bist := rfl
@[simp] theorem wr_wdt (f : Fld) (v : Nat) : (d.wr f v).wdt = d.wdt := rfl
@[simp] theorem wr_baro (f : Fld) (v : Nat) : (d.wr f v).baro = d.baro := rfl
@[simp] theorem wr_cnt (f : Fld) (v : Nat) : (d.wr f v).cnt = d.cnt := rfl
@[simp] theorem wr_fns (f : Fld) (v : Nat) : (d.wr f v).fns = d.fns := rfl
@[simp] theorem wr_hostUse (f : Fld) (v : Nat) : (d.wr f v).hostUse = d.hostUse := rfl
@[simp] theorem wr_ops (f : Fld) (v : Nat) : (d.wr f v).ops = d.ops := rfl
@[simp] theorem wr_cpls (f : Fld) (v : Nat) : (d.wr f v).cpls = d.cpls := rfl
@[simp] theorem wr_mbx0 (f : Fld) (v : Nat) : (d.wr f v).mbx0 = d.mbx0 := rfl
@[simp] theorem wr_mbx1 (f : Fld) (v : Nat) : (d.wr f v).mbx1 = d.mbx1 := rfl
@[simp] theorem wr_pairs (f : Fld) (v : Nat) : (d.wr f v).pairs = d.pairs := rfl
@[simp] theorem wr_gcs (f : Fld) (v : Nat) : (d.wr f v).gcs = d.gcs := rfl
@[simp] theorem wr_comps (f : Fld) (v : Nat) : (d.wr f v).comps = d.comps := rfl
@[simp] theorem wr_snow (f : Fld) (v : Nat) : (d.wr f v).snow = d.snow := rfl
@[simp] theorem wr_pol (f : Fld) (v : Nat) : (d.wr f v).pol = d.pol := rfl
@[simp] theorem wr_fuses (f : Fld) (v : Nat) : (d.wr f v).fuses = d.fuses := rfl
@[simp] theorem wr_mon (f : Fld) (v : Nat) : (d.wr f v).mon = d.mon := rfl
@[simp] theorem wr_pwr (f : Fld) (v : Nat) : (d.wr f v).pwr = d.pwr := rfl
@[simp] theorem wr_driz (f : Fld) (v : Nat) : (d.wr f v).driz = d.driz := rfl
@[simp] theorem wr_own (f : Fld) (v : Nat) : (d.wr f v).own = d.own := rfl
@[simp] theorem wr_vault (f : Fld) (v : Nat) : (d.wr f v).vault = d.vault := rfl
@[simp] theorem wr_crypto (f : Fld) (v : Nat) : (d.wr f v).crypto = d.crypto := rfl
@[simp] theorem wr_otpx (f : Fld) (v : Nat) : (d.wr f v).otpx = d.otpx := rfl
@[simp] theorem wr_dbg (f : Fld) (v : Nat) : (d.wr f v).dbg = d.dbg := rfl
@[simp] theorem wr_att (f : Fld) (v : Nat) : (d.wr f v).att = d.att := rfl
@[simp] theorem wr_fw (f : Fld) (v : Nat) : (d.wr f v).fw = d.fw := rfl
@[simp] theorem wr_link0 (f : Fld) (v : Nat) : (d.wr f v).link0 = d.link0 := rfl
@[simp] theorem wr_link1 (f : Fld) (v : Nat) : (d.wr f v).link1 = d.link1 := rfl
@[simp] theorem wr_front (f : Fld) (v : Nat) : (d.wr f v).front = d.front := rfl
@[simp] theorem wr_chain (f : Fld) (v : Nat) : (d.wr f v).chain = d.chain := rfl
@[simp] theorem wr_run (f : Fld) (v : Nat) : (d.wr f v).run = d.run := rfl
@[simp] theorem wr_started (f : Fld) (v : Nat) : (d.wr f v).started = d.started := rfl
@[simp] theorem wr_free (f : Fld) (v : Nat) : (d.wr f v).free = d.free := rfl
@[simp] theorem wr_out (f : Fld) (v : Nat) : (d.wr f v).out = d.out := rfl

@[simp] theorem emit_regs (o : Out) : (d.emit o).regs = d.regs := rfl
@[simp] theorem emit_phase (o : Out) : (d.emit o).phase = d.phase := rfl
@[simp] theorem emit_cells (o : Out) : (d.emit o).cells = d.cells := rfl
@[simp] theorem emit_tasks (o : Out) : (d.emit o).tasks = d.tasks := rfl
@[simp] theorem emit_resubmit (o : Out) : (d.emit o).resubmit = d.resubmit := rfl
@[simp] theorem emit_late (o : Out) : (d.emit o).late = d.late := rfl
@[simp] theorem emit_skipScan (o : Out) : (d.emit o).skipScan = d.skipScan := rfl
@[simp] theorem emit_frameHigh (o : Out) : (d.emit o).frameHigh = d.frameHigh := rfl
@[simp] theorem emit_inputs (o : Out) : (d.emit o).inputs = d.inputs := rfl
@[simp] theorem emit_bist (o : Out) : (d.emit o).bist = d.bist := rfl
@[simp] theorem emit_wdt (o : Out) : (d.emit o).wdt = d.wdt := rfl
@[simp] theorem emit_baro (o : Out) : (d.emit o).baro = d.baro := rfl
@[simp] theorem emit_cnt (o : Out) : (d.emit o).cnt = d.cnt := rfl
@[simp] theorem emit_fns (o : Out) : (d.emit o).fns = d.fns := rfl
@[simp] theorem emit_hostUse (o : Out) : (d.emit o).hostUse = d.hostUse := rfl
@[simp] theorem emit_ops (o : Out) : (d.emit o).ops = d.ops := rfl
@[simp] theorem emit_cpls (o : Out) : (d.emit o).cpls = d.cpls := rfl
@[simp] theorem emit_mbx0 (o : Out) : (d.emit o).mbx0 = d.mbx0 := rfl
@[simp] theorem emit_mbx1 (o : Out) : (d.emit o).mbx1 = d.mbx1 := rfl
@[simp] theorem emit_pairs (o : Out) : (d.emit o).pairs = d.pairs := rfl
@[simp] theorem emit_gcs (o : Out) : (d.emit o).gcs = d.gcs := rfl
@[simp] theorem emit_comps (o : Out) : (d.emit o).comps = d.comps := rfl
@[simp] theorem emit_snow (o : Out) : (d.emit o).snow = d.snow := rfl
@[simp] theorem emit_pol (o : Out) : (d.emit o).pol = d.pol := rfl
@[simp] theorem emit_fuses (o : Out) : (d.emit o).fuses = d.fuses := rfl
@[simp] theorem emit_mon (o : Out) : (d.emit o).mon = d.mon := rfl
@[simp] theorem emit_pwr (o : Out) : (d.emit o).pwr = d.pwr := rfl
@[simp] theorem emit_driz (o : Out) : (d.emit o).driz = d.driz := rfl
@[simp] theorem emit_own (o : Out) : (d.emit o).own = d.own := rfl
@[simp] theorem emit_vault (o : Out) : (d.emit o).vault = d.vault := rfl
@[simp] theorem emit_crypto (o : Out) : (d.emit o).crypto = d.crypto := rfl
@[simp] theorem emit_otpx (o : Out) : (d.emit o).otpx = d.otpx := rfl
@[simp] theorem emit_dbg (o : Out) : (d.emit o).dbg = d.dbg := rfl
@[simp] theorem emit_att (o : Out) : (d.emit o).att = d.att := rfl
@[simp] theorem emit_fw (o : Out) : (d.emit o).fw = d.fw := rfl
@[simp] theorem emit_link0 (o : Out) : (d.emit o).link0 = d.link0 := rfl
@[simp] theorem emit_link1 (o : Out) : (d.emit o).link1 = d.link1 := rfl
@[simp] theorem emit_front (o : Out) : (d.emit o).front = d.front := rfl
@[simp] theorem emit_chain (o : Out) : (d.emit o).chain = d.chain := rfl
@[simp] theorem emit_run (o : Out) : (d.emit o).run = d.run := rfl
@[simp] theorem emit_started (o : Out) : (d.emit o).started = d.started := rfl
@[simp] theorem emit_free (o : Out) : (d.emit o).free = d.free := rfl

@[simp] theorem setGc_regs (n : Nat) (g : Gc) : (d.setGc n g).regs = d.regs := rfl
@[simp] theorem setGc_phase (n : Nat) (g : Gc) : (d.setGc n g).phase = d.phase := rfl
@[simp] theorem setGc_cells (n : Nat) (g : Gc) : (d.setGc n g).cells = d.cells := rfl
@[simp] theorem setGc_tasks (n : Nat) (g : Gc) : (d.setGc n g).tasks = d.tasks := rfl
@[simp] theorem setGc_resubmit (n : Nat) (g : Gc) : (d.setGc n g).resubmit = d.resubmit := rfl
@[simp] theorem setGc_late (n : Nat) (g : Gc) : (d.setGc n g).late = d.late := rfl
@[simp] theorem setGc_skipScan (n : Nat) (g : Gc) : (d.setGc n g).skipScan = d.skipScan := rfl
@[simp] theorem setGc_frameHigh (n : Nat) (g : Gc) : (d.setGc n g).frameHigh = d.frameHigh := rfl
@[simp] theorem setGc_inputs (n : Nat) (g : Gc) : (d.setGc n g).inputs = d.inputs := rfl
@[simp] theorem setGc_bist (n : Nat) (g : Gc) : (d.setGc n g).bist = d.bist := rfl
@[simp] theorem setGc_wdt (n : Nat) (g : Gc) : (d.setGc n g).wdt = d.wdt := rfl
@[simp] theorem setGc_baro (n : Nat) (g : Gc) : (d.setGc n g).baro = d.baro := rfl
@[simp] theorem setGc_cnt (n : Nat) (g : Gc) : (d.setGc n g).cnt = d.cnt := rfl
@[simp] theorem setGc_fns (n : Nat) (g : Gc) : (d.setGc n g).fns = d.fns := rfl
@[simp] theorem setGc_hostUse (n : Nat) (g : Gc) : (d.setGc n g).hostUse = d.hostUse := rfl
@[simp] theorem setGc_ops (n : Nat) (g : Gc) : (d.setGc n g).ops = d.ops := rfl
@[simp] theorem setGc_cpls (n : Nat) (g : Gc) : (d.setGc n g).cpls = d.cpls := rfl
@[simp] theorem setGc_mbx0 (n : Nat) (g : Gc) : (d.setGc n g).mbx0 = d.mbx0 := rfl
@[simp] theorem setGc_mbx1 (n : Nat) (g : Gc) : (d.setGc n g).mbx1 = d.mbx1 := rfl
@[simp] theorem setGc_pairs (n : Nat) (g : Gc) : (d.setGc n g).pairs = d.pairs := rfl
@[simp] theorem setGc_comps (n : Nat) (g : Gc) : (d.setGc n g).comps = d.comps := rfl
@[simp] theorem setGc_snow (n : Nat) (g : Gc) : (d.setGc n g).snow = d.snow := rfl
@[simp] theorem setGc_pol (n : Nat) (g : Gc) : (d.setGc n g).pol = d.pol := rfl
@[simp] theorem setGc_fuses (n : Nat) (g : Gc) : (d.setGc n g).fuses = d.fuses := rfl
@[simp] theorem setGc_mon (n : Nat) (g : Gc) : (d.setGc n g).mon = d.mon := rfl
@[simp] theorem setGc_pwr (n : Nat) (g : Gc) : (d.setGc n g).pwr = d.pwr := rfl
@[simp] theorem setGc_driz (n : Nat) (g : Gc) : (d.setGc n g).driz = d.driz := rfl
@[simp] theorem setGc_own (n : Nat) (g : Gc) : (d.setGc n g).own = d.own := rfl
@[simp] theorem setGc_vault (n : Nat) (g : Gc) : (d.setGc n g).vault = d.vault := rfl
@[simp] theorem setGc_crypto (n : Nat) (g : Gc) : (d.setGc n g).crypto = d.crypto := rfl
@[simp] theorem setGc_otpx (n : Nat) (g : Gc) : (d.setGc n g).otpx = d.otpx := rfl
@[simp] theorem setGc_dbg (n : Nat) (g : Gc) : (d.setGc n g).dbg = d.dbg := rfl
@[simp] theorem setGc_att (n : Nat) (g : Gc) : (d.setGc n g).att = d.att := rfl
@[simp] theorem setGc_fw (n : Nat) (g : Gc) : (d.setGc n g).fw = d.fw := rfl
@[simp] theorem setGc_link0 (n : Nat) (g : Gc) : (d.setGc n g).link0 = d.link0 := rfl
@[simp] theorem setGc_link1 (n : Nat) (g : Gc) : (d.setGc n g).link1 = d.link1 := rfl
@[simp] theorem setGc_front (n : Nat) (g : Gc) : (d.setGc n g).front = d.front := rfl
@[simp] theorem setGc_chain (n : Nat) (g : Gc) : (d.setGc n g).chain = d.chain := rfl
@[simp] theorem setGc_run (n : Nat) (g : Gc) : (d.setGc n g).run = d.run := rfl
@[simp] theorem setGc_started (n : Nat) (g : Gc) : (d.setGc n g).started = d.started := rfl
@[simp] theorem setGc_free (n : Nat) (g : Gc) : (d.setGc n g).free = d.free := rfl
@[simp] theorem setGc_out (n : Nat) (g : Gc) : (d.setGc n g).out = d.out := rfl

@[simp] theorem setPair_regs (p : Nat) (x : Pair) : (d.setPair p x).regs = d.regs := rfl
@[simp] theorem setPair_phase (p : Nat) (x : Pair) : (d.setPair p x).phase = d.phase := rfl
@[simp] theorem setPair_cells (p : Nat) (x : Pair) : (d.setPair p x).cells = d.cells := rfl
@[simp] theorem setPair_tasks (p : Nat) (x : Pair) : (d.setPair p x).tasks = d.tasks := rfl
@[simp] theorem setPair_resubmit (p : Nat) (x : Pair) : (d.setPair p x).resubmit = d.resubmit := rfl
@[simp] theorem setPair_late (p : Nat) (x : Pair) : (d.setPair p x).late = d.late := rfl
@[simp] theorem setPair_skipScan (p : Nat) (x : Pair) : (d.setPair p x).skipScan = d.skipScan := rfl
@[simp] theorem setPair_frameHigh (p : Nat) (x : Pair) : (d.setPair p x).frameHigh = d.frameHigh := rfl
@[simp] theorem setPair_inputs (p : Nat) (x : Pair) : (d.setPair p x).inputs = d.inputs := rfl
@[simp] theorem setPair_bist (p : Nat) (x : Pair) : (d.setPair p x).bist = d.bist := rfl
@[simp] theorem setPair_wdt (p : Nat) (x : Pair) : (d.setPair p x).wdt = d.wdt := rfl
@[simp] theorem setPair_baro (p : Nat) (x : Pair) : (d.setPair p x).baro = d.baro := rfl
@[simp] theorem setPair_cnt (p : Nat) (x : Pair) : (d.setPair p x).cnt = d.cnt := rfl
@[simp] theorem setPair_fns (p : Nat) (x : Pair) : (d.setPair p x).fns = d.fns := rfl
@[simp] theorem setPair_hostUse (p : Nat) (x : Pair) : (d.setPair p x).hostUse = d.hostUse := rfl
@[simp] theorem setPair_ops (p : Nat) (x : Pair) : (d.setPair p x).ops = d.ops := rfl
@[simp] theorem setPair_cpls (p : Nat) (x : Pair) : (d.setPair p x).cpls = d.cpls := rfl
@[simp] theorem setPair_mbx0 (p : Nat) (x : Pair) : (d.setPair p x).mbx0 = d.mbx0 := rfl
@[simp] theorem setPair_mbx1 (p : Nat) (x : Pair) : (d.setPair p x).mbx1 = d.mbx1 := rfl
@[simp] theorem setPair_gcs (p : Nat) (x : Pair) : (d.setPair p x).gcs = d.gcs := rfl
@[simp] theorem setPair_comps (p : Nat) (x : Pair) : (d.setPair p x).comps = d.comps := rfl
@[simp] theorem setPair_snow (p : Nat) (x : Pair) : (d.setPair p x).snow = d.snow := rfl
@[simp] theorem setPair_pol (p : Nat) (x : Pair) : (d.setPair p x).pol = d.pol := rfl
@[simp] theorem setPair_fuses (p : Nat) (x : Pair) : (d.setPair p x).fuses = d.fuses := rfl
@[simp] theorem setPair_mon (p : Nat) (x : Pair) : (d.setPair p x).mon = d.mon := rfl
@[simp] theorem setPair_pwr (p : Nat) (x : Pair) : (d.setPair p x).pwr = d.pwr := rfl
@[simp] theorem setPair_driz (p : Nat) (x : Pair) : (d.setPair p x).driz = d.driz := rfl
@[simp] theorem setPair_own (p : Nat) (x : Pair) : (d.setPair p x).own = d.own := rfl
@[simp] theorem setPair_vault (p : Nat) (x : Pair) : (d.setPair p x).vault = d.vault := rfl
@[simp] theorem setPair_crypto (p : Nat) (x : Pair) : (d.setPair p x).crypto = d.crypto := rfl
@[simp] theorem setPair_otpx (p : Nat) (x : Pair) : (d.setPair p x).otpx = d.otpx := rfl
@[simp] theorem setPair_dbg (p : Nat) (x : Pair) : (d.setPair p x).dbg = d.dbg := rfl
@[simp] theorem setPair_att (p : Nat) (x : Pair) : (d.setPair p x).att = d.att := rfl
@[simp] theorem setPair_fw (p : Nat) (x : Pair) : (d.setPair p x).fw = d.fw := rfl
@[simp] theorem setPair_link0 (p : Nat) (x : Pair) : (d.setPair p x).link0 = d.link0 := rfl
@[simp] theorem setPair_link1 (p : Nat) (x : Pair) : (d.setPair p x).link1 = d.link1 := rfl
@[simp] theorem setPair_front (p : Nat) (x : Pair) : (d.setPair p x).front = d.front := rfl
@[simp] theorem setPair_chain (p : Nat) (x : Pair) : (d.setPair p x).chain = d.chain := rfl
@[simp] theorem setPair_run (p : Nat) (x : Pair) : (d.setPair p x).run = d.run := rfl
@[simp] theorem setPair_started (p : Nat) (x : Pair) : (d.setPair p x).started = d.started := rfl
@[simp] theorem setPair_free (p : Nat) (x : Pair) : (d.setPair p x).free = d.free := rfl
@[simp] theorem setPair_out (p : Nat) (x : Pair) : (d.setPair p x).out = d.out := rfl

@[simp] theorem setComp_regs (n : Nat) (c : Comp) : (d.setComp n c).regs = d.regs := rfl
@[simp] theorem setComp_phase (n : Nat) (c : Comp) : (d.setComp n c).phase = d.phase := rfl
@[simp] theorem setComp_cells (n : Nat) (c : Comp) : (d.setComp n c).cells = d.cells := rfl
@[simp] theorem setComp_tasks (n : Nat) (c : Comp) : (d.setComp n c).tasks = d.tasks := rfl
@[simp] theorem setComp_resubmit (n : Nat) (c : Comp) : (d.setComp n c).resubmit = d.resubmit := rfl
@[simp] theorem setComp_late (n : Nat) (c : Comp) : (d.setComp n c).late = d.late := rfl
@[simp] theorem setComp_skipScan (n : Nat) (c : Comp) : (d.setComp n c).skipScan = d.skipScan := rfl
@[simp] theorem setComp_frameHigh (n : Nat) (c : Comp) : (d.setComp n c).frameHigh = d.frameHigh := rfl
@[simp] theorem setComp_inputs (n : Nat) (c : Comp) : (d.setComp n c).inputs = d.inputs := rfl
@[simp] theorem setComp_bist (n : Nat) (c : Comp) : (d.setComp n c).bist = d.bist := rfl
@[simp] theorem setComp_wdt (n : Nat) (c : Comp) : (d.setComp n c).wdt = d.wdt := rfl
@[simp] theorem setComp_baro (n : Nat) (c : Comp) : (d.setComp n c).baro = d.baro := rfl
@[simp] theorem setComp_cnt (n : Nat) (c : Comp) : (d.setComp n c).cnt = d.cnt := rfl
@[simp] theorem setComp_fns (n : Nat) (c : Comp) : (d.setComp n c).fns = d.fns := rfl
@[simp] theorem setComp_hostUse (n : Nat) (c : Comp) : (d.setComp n c).hostUse = d.hostUse := rfl
@[simp] theorem setComp_ops (n : Nat) (c : Comp) : (d.setComp n c).ops = d.ops := rfl
@[simp] theorem setComp_cpls (n : Nat) (c : Comp) : (d.setComp n c).cpls = d.cpls := rfl
@[simp] theorem setComp_mbx0 (n : Nat) (c : Comp) : (d.setComp n c).mbx0 = d.mbx0 := rfl
@[simp] theorem setComp_mbx1 (n : Nat) (c : Comp) : (d.setComp n c).mbx1 = d.mbx1 := rfl
@[simp] theorem setComp_pairs (n : Nat) (c : Comp) : (d.setComp n c).pairs = d.pairs := rfl
@[simp] theorem setComp_gcs (n : Nat) (c : Comp) : (d.setComp n c).gcs = d.gcs := rfl
@[simp] theorem setComp_snow (n : Nat) (c : Comp) : (d.setComp n c).snow = d.snow := rfl
@[simp] theorem setComp_pol (n : Nat) (c : Comp) : (d.setComp n c).pol = d.pol := rfl
@[simp] theorem setComp_fuses (n : Nat) (c : Comp) : (d.setComp n c).fuses = d.fuses := rfl
@[simp] theorem setComp_mon (n : Nat) (c : Comp) : (d.setComp n c).mon = d.mon := rfl
@[simp] theorem setComp_pwr (n : Nat) (c : Comp) : (d.setComp n c).pwr = d.pwr := rfl
@[simp] theorem setComp_driz (n : Nat) (c : Comp) : (d.setComp n c).driz = d.driz := rfl
@[simp] theorem setComp_own (n : Nat) (c : Comp) : (d.setComp n c).own = d.own := rfl
@[simp] theorem setComp_vault (n : Nat) (c : Comp) : (d.setComp n c).vault = d.vault := rfl
@[simp] theorem setComp_crypto (n : Nat) (c : Comp) : (d.setComp n c).crypto = d.crypto := rfl
@[simp] theorem setComp_otpx (n : Nat) (c : Comp) : (d.setComp n c).otpx = d.otpx := rfl
@[simp] theorem setComp_dbg (n : Nat) (c : Comp) : (d.setComp n c).dbg = d.dbg := rfl
@[simp] theorem setComp_att (n : Nat) (c : Comp) : (d.setComp n c).att = d.att := rfl
@[simp] theorem setComp_fw (n : Nat) (c : Comp) : (d.setComp n c).fw = d.fw := rfl
@[simp] theorem setComp_link0 (n : Nat) (c : Comp) : (d.setComp n c).link0 = d.link0 := rfl
@[simp] theorem setComp_link1 (n : Nat) (c : Comp) : (d.setComp n c).link1 = d.link1 := rfl
@[simp] theorem setComp_front (n : Nat) (c : Comp) : (d.setComp n c).front = d.front := rfl
@[simp] theorem setComp_chain (n : Nat) (c : Comp) : (d.setComp n c).chain = d.chain := rfl
@[simp] theorem setComp_run (n : Nat) (c : Comp) : (d.setComp n c).run = d.run := rfl
@[simp] theorem setComp_started (n : Nat) (c : Comp) : (d.setComp n c).started = d.started := rfl
@[simp] theorem setComp_free (n : Nat) (c : Comp) : (d.setComp n c).free = d.free := rfl
@[simp] theorem setComp_out (n : Nat) (c : Comp) : (d.setComp n c).out = d.out := rfl

@[simp] theorem setFn_regs (f : Nat) (x : Fn) : (d.setFn f x).regs = d.regs := rfl
@[simp] theorem setFn_phase (f : Nat) (x : Fn) : (d.setFn f x).phase = d.phase := rfl
@[simp] theorem setFn_cells (f : Nat) (x : Fn) : (d.setFn f x).cells = d.cells := rfl
@[simp] theorem setFn_tasks (f : Nat) (x : Fn) : (d.setFn f x).tasks = d.tasks := rfl
@[simp] theorem setFn_resubmit (f : Nat) (x : Fn) : (d.setFn f x).resubmit = d.resubmit := rfl
@[simp] theorem setFn_late (f : Nat) (x : Fn) : (d.setFn f x).late = d.late := rfl
@[simp] theorem setFn_skipScan (f : Nat) (x : Fn) : (d.setFn f x).skipScan = d.skipScan := rfl
@[simp] theorem setFn_frameHigh (f : Nat) (x : Fn) : (d.setFn f x).frameHigh = d.frameHigh := rfl
@[simp] theorem setFn_inputs (f : Nat) (x : Fn) : (d.setFn f x).inputs = d.inputs := rfl
@[simp] theorem setFn_bist (f : Nat) (x : Fn) : (d.setFn f x).bist = d.bist := rfl
@[simp] theorem setFn_wdt (f : Nat) (x : Fn) : (d.setFn f x).wdt = d.wdt := rfl
@[simp] theorem setFn_baro (f : Nat) (x : Fn) : (d.setFn f x).baro = d.baro := rfl
@[simp] theorem setFn_cnt (f : Nat) (x : Fn) : (d.setFn f x).cnt = d.cnt := rfl
@[simp] theorem setFn_hostUse (f : Nat) (x : Fn) : (d.setFn f x).hostUse = d.hostUse := rfl
@[simp] theorem setFn_ops (f : Nat) (x : Fn) : (d.setFn f x).ops = d.ops := rfl
@[simp] theorem setFn_cpls (f : Nat) (x : Fn) : (d.setFn f x).cpls = d.cpls := rfl
@[simp] theorem setFn_mbx0 (f : Nat) (x : Fn) : (d.setFn f x).mbx0 = d.mbx0 := rfl
@[simp] theorem setFn_mbx1 (f : Nat) (x : Fn) : (d.setFn f x).mbx1 = d.mbx1 := rfl
@[simp] theorem setFn_pairs (f : Nat) (x : Fn) : (d.setFn f x).pairs = d.pairs := rfl
@[simp] theorem setFn_gcs (f : Nat) (x : Fn) : (d.setFn f x).gcs = d.gcs := rfl
@[simp] theorem setFn_comps (f : Nat) (x : Fn) : (d.setFn f x).comps = d.comps := rfl
@[simp] theorem setFn_snow (f : Nat) (x : Fn) : (d.setFn f x).snow = d.snow := rfl
@[simp] theorem setFn_pol (f : Nat) (x : Fn) : (d.setFn f x).pol = d.pol := rfl
@[simp] theorem setFn_fuses (f : Nat) (x : Fn) : (d.setFn f x).fuses = d.fuses := rfl
@[simp] theorem setFn_mon (f : Nat) (x : Fn) : (d.setFn f x).mon = d.mon := rfl
@[simp] theorem setFn_pwr (f : Nat) (x : Fn) : (d.setFn f x).pwr = d.pwr := rfl
@[simp] theorem setFn_driz (f : Nat) (x : Fn) : (d.setFn f x).driz = d.driz := rfl
@[simp] theorem setFn_own (f : Nat) (x : Fn) : (d.setFn f x).own = d.own := rfl
@[simp] theorem setFn_vault (f : Nat) (x : Fn) : (d.setFn f x).vault = d.vault := rfl
@[simp] theorem setFn_crypto (f : Nat) (x : Fn) : (d.setFn f x).crypto = d.crypto := rfl
@[simp] theorem setFn_otpx (f : Nat) (x : Fn) : (d.setFn f x).otpx = d.otpx := rfl
@[simp] theorem setFn_dbg (f : Nat) (x : Fn) : (d.setFn f x).dbg = d.dbg := rfl
@[simp] theorem setFn_att (f : Nat) (x : Fn) : (d.setFn f x).att = d.att := rfl
@[simp] theorem setFn_fw (f : Nat) (x : Fn) : (d.setFn f x).fw = d.fw := rfl
@[simp] theorem setFn_link0 (f : Nat) (x : Fn) : (d.setFn f x).link0 = d.link0 := rfl
@[simp] theorem setFn_link1 (f : Nat) (x : Fn) : (d.setFn f x).link1 = d.link1 := rfl
@[simp] theorem setFn_front (f : Nat) (x : Fn) : (d.setFn f x).front = d.front := rfl
@[simp] theorem setFn_chain (f : Nat) (x : Fn) : (d.setFn f x).chain = d.chain := rfl
@[simp] theorem setFn_run (f : Nat) (x : Fn) : (d.setFn f x).run = d.run := rfl
@[simp] theorem setFn_started (f : Nat) (x : Fn) : (d.setFn f x).started = d.started := rfl
@[simp] theorem setFn_free (f : Nat) (x : Fn) : (d.setFn f x).free = d.free := rfl
@[simp] theorem setFn_out (f : Nat) (x : Fn) : (d.setFn f x).out = d.out := rfl

@[simp] theorem setInput_regs (k : Nat) (x : Inp) : (d.setInput k x).regs = d.regs := rfl
@[simp] theorem setInput_phase (k : Nat) (x : Inp) : (d.setInput k x).phase = d.phase := rfl
@[simp] theorem setInput_cells (k : Nat) (x : Inp) : (d.setInput k x).cells = d.cells := rfl
@[simp] theorem setInput_tasks (k : Nat) (x : Inp) : (d.setInput k x).tasks = d.tasks := rfl
@[simp] theorem setInput_resubmit (k : Nat) (x : Inp) : (d.setInput k x).resubmit = d.resubmit := rfl
@[simp] theorem setInput_late (k : Nat) (x : Inp) : (d.setInput k x).late = d.late := rfl
@[simp] theorem setInput_skipScan (k : Nat) (x : Inp) : (d.setInput k x).skipScan = d.skipScan := rfl
@[simp] theorem setInput_frameHigh (k : Nat) (x : Inp) : (d.setInput k x).frameHigh = d.frameHigh := rfl
@[simp] theorem setInput_bist (k : Nat) (x : Inp) : (d.setInput k x).bist = d.bist := rfl
@[simp] theorem setInput_wdt (k : Nat) (x : Inp) : (d.setInput k x).wdt = d.wdt := rfl
@[simp] theorem setInput_baro (k : Nat) (x : Inp) : (d.setInput k x).baro = d.baro := rfl
@[simp] theorem setInput_cnt (k : Nat) (x : Inp) : (d.setInput k x).cnt = d.cnt := rfl
@[simp] theorem setInput_fns (k : Nat) (x : Inp) : (d.setInput k x).fns = d.fns := rfl
@[simp] theorem setInput_hostUse (k : Nat) (x : Inp) : (d.setInput k x).hostUse = d.hostUse := rfl
@[simp] theorem setInput_ops (k : Nat) (x : Inp) : (d.setInput k x).ops = d.ops := rfl
@[simp] theorem setInput_cpls (k : Nat) (x : Inp) : (d.setInput k x).cpls = d.cpls := rfl
@[simp] theorem setInput_mbx0 (k : Nat) (x : Inp) : (d.setInput k x).mbx0 = d.mbx0 := rfl
@[simp] theorem setInput_mbx1 (k : Nat) (x : Inp) : (d.setInput k x).mbx1 = d.mbx1 := rfl
@[simp] theorem setInput_pairs (k : Nat) (x : Inp) : (d.setInput k x).pairs = d.pairs := rfl
@[simp] theorem setInput_gcs (k : Nat) (x : Inp) : (d.setInput k x).gcs = d.gcs := rfl
@[simp] theorem setInput_comps (k : Nat) (x : Inp) : (d.setInput k x).comps = d.comps := rfl
@[simp] theorem setInput_snow (k : Nat) (x : Inp) : (d.setInput k x).snow = d.snow := rfl
@[simp] theorem setInput_pol (k : Nat) (x : Inp) : (d.setInput k x).pol = d.pol := rfl
@[simp] theorem setInput_fuses (k : Nat) (x : Inp) : (d.setInput k x).fuses = d.fuses := rfl
@[simp] theorem setInput_mon (k : Nat) (x : Inp) : (d.setInput k x).mon = d.mon := rfl
@[simp] theorem setInput_pwr (k : Nat) (x : Inp) : (d.setInput k x).pwr = d.pwr := rfl
@[simp] theorem setInput_driz (k : Nat) (x : Inp) : (d.setInput k x).driz = d.driz := rfl
@[simp] theorem setInput_own (k : Nat) (x : Inp) : (d.setInput k x).own = d.own := rfl
@[simp] theorem setInput_vault (k : Nat) (x : Inp) : (d.setInput k x).vault = d.vault := rfl
@[simp] theorem setInput_crypto (k : Nat) (x : Inp) : (d.setInput k x).crypto = d.crypto := rfl
@[simp] theorem setInput_otpx (k : Nat) (x : Inp) : (d.setInput k x).otpx = d.otpx := rfl
@[simp] theorem setInput_dbg (k : Nat) (x : Inp) : (d.setInput k x).dbg = d.dbg := rfl
@[simp] theorem setInput_att (k : Nat) (x : Inp) : (d.setInput k x).att = d.att := rfl
@[simp] theorem setInput_fw (k : Nat) (x : Inp) : (d.setInput k x).fw = d.fw := rfl
@[simp] theorem setInput_link0 (k : Nat) (x : Inp) : (d.setInput k x).link0 = d.link0 := rfl
@[simp] theorem setInput_link1 (k : Nat) (x : Inp) : (d.setInput k x).link1 = d.link1 := rfl
@[simp] theorem setInput_front (k : Nat) (x : Inp) : (d.setInput k x).front = d.front := rfl
@[simp] theorem setInput_chain (k : Nat) (x : Inp) : (d.setInput k x).chain = d.chain := rfl
@[simp] theorem setInput_run (k : Nat) (x : Inp) : (d.setInput k x).run = d.run := rfl
@[simp] theorem setInput_started (k : Nat) (x : Inp) : (d.setInput k x).started = d.started := rfl
@[simp] theorem setInput_free (k : Nat) (x : Inp) : (d.setInput k x).free = d.free := rfl
@[simp] theorem setInput_out (k : Nat) (x : Inp) : (d.setInput k x).out = d.out := rfl

@[simp] theorem setCellx_regs (c : Cell) (x : CellX) : (d.setCellx c x).regs = d.regs := rfl
@[simp] theorem setCellx_phase (c : Cell) (x : CellX) : (d.setCellx c x).phase = d.phase := rfl
@[simp] theorem setCellx_tasks (c : Cell) (x : CellX) : (d.setCellx c x).tasks = d.tasks := rfl
@[simp] theorem setCellx_resubmit (c : Cell) (x : CellX) : (d.setCellx c x).resubmit = d.resubmit := rfl
@[simp] theorem setCellx_late (c : Cell) (x : CellX) : (d.setCellx c x).late = d.late := rfl
@[simp] theorem setCellx_skipScan (c : Cell) (x : CellX) : (d.setCellx c x).skipScan = d.skipScan := rfl
@[simp] theorem setCellx_frameHigh (c : Cell) (x : CellX) : (d.setCellx c x).frameHigh = d.frameHigh := rfl
@[simp] theorem setCellx_inputs (c : Cell) (x : CellX) : (d.setCellx c x).inputs = d.inputs := rfl
@[simp] theorem setCellx_bist (c : Cell) (x : CellX) : (d.setCellx c x).bist = d.bist := rfl
@[simp] theorem setCellx_wdt (c : Cell) (x : CellX) : (d.setCellx c x).wdt = d.wdt := rfl
@[simp] theorem setCellx_baro (c : Cell) (x : CellX) : (d.setCellx c x).baro = d.baro := rfl
@[simp] theorem setCellx_cnt (c : Cell) (x : CellX) : (d.setCellx c x).cnt = d.cnt := rfl
@[simp] theorem setCellx_fns (c : Cell) (x : CellX) : (d.setCellx c x).fns = d.fns := rfl
@[simp] theorem setCellx_hostUse (c : Cell) (x : CellX) : (d.setCellx c x).hostUse = d.hostUse := rfl
@[simp] theorem setCellx_ops (c : Cell) (x : CellX) : (d.setCellx c x).ops = d.ops := rfl
@[simp] theorem setCellx_cpls (c : Cell) (x : CellX) : (d.setCellx c x).cpls = d.cpls := rfl
@[simp] theorem setCellx_mbx0 (c : Cell) (x : CellX) : (d.setCellx c x).mbx0 = d.mbx0 := rfl
@[simp] theorem setCellx_mbx1 (c : Cell) (x : CellX) : (d.setCellx c x).mbx1 = d.mbx1 := rfl
@[simp] theorem setCellx_pairs (c : Cell) (x : CellX) : (d.setCellx c x).pairs = d.pairs := rfl
@[simp] theorem setCellx_gcs (c : Cell) (x : CellX) : (d.setCellx c x).gcs = d.gcs := rfl
@[simp] theorem setCellx_comps (c : Cell) (x : CellX) : (d.setCellx c x).comps = d.comps := rfl
@[simp] theorem setCellx_snow (c : Cell) (x : CellX) : (d.setCellx c x).snow = d.snow := rfl
@[simp] theorem setCellx_pol (c : Cell) (x : CellX) : (d.setCellx c x).pol = d.pol := rfl
@[simp] theorem setCellx_fuses (c : Cell) (x : CellX) : (d.setCellx c x).fuses = d.fuses := rfl
@[simp] theorem setCellx_mon (c : Cell) (x : CellX) : (d.setCellx c x).mon = d.mon := rfl
@[simp] theorem setCellx_pwr (c : Cell) (x : CellX) : (d.setCellx c x).pwr = d.pwr := rfl
@[simp] theorem setCellx_driz (c : Cell) (x : CellX) : (d.setCellx c x).driz = d.driz := rfl
@[simp] theorem setCellx_own (c : Cell) (x : CellX) : (d.setCellx c x).own = d.own := rfl
@[simp] theorem setCellx_vault (c : Cell) (x : CellX) : (d.setCellx c x).vault = d.vault := rfl
@[simp] theorem setCellx_crypto (c : Cell) (x : CellX) : (d.setCellx c x).crypto = d.crypto := rfl
@[simp] theorem setCellx_otpx (c : Cell) (x : CellX) : (d.setCellx c x).otpx = d.otpx := rfl
@[simp] theorem setCellx_dbg (c : Cell) (x : CellX) : (d.setCellx c x).dbg = d.dbg := rfl
@[simp] theorem setCellx_att (c : Cell) (x : CellX) : (d.setCellx c x).att = d.att := rfl
@[simp] theorem setCellx_fw (c : Cell) (x : CellX) : (d.setCellx c x).fw = d.fw := rfl
@[simp] theorem setCellx_link0 (c : Cell) (x : CellX) : (d.setCellx c x).link0 = d.link0 := rfl
@[simp] theorem setCellx_link1 (c : Cell) (x : CellX) : (d.setCellx c x).link1 = d.link1 := rfl
@[simp] theorem setCellx_front (c : Cell) (x : CellX) : (d.setCellx c x).front = d.front := rfl
@[simp] theorem setCellx_chain (c : Cell) (x : CellX) : (d.setCellx c x).chain = d.chain := rfl
@[simp] theorem setCellx_run (c : Cell) (x : CellX) : (d.setCellx c x).run = d.run := rfl
@[simp] theorem setCellx_started (c : Cell) (x : CellX) : (d.setCellx c x).started = d.started := rfl
@[simp] theorem setCellx_free (c : Cell) (x : CellX) : (d.setCellx c x).free = d.free := rfl
@[simp] theorem setCellx_out (c : Cell) (x : CellX) : (d.setCellx c x).out = d.out := rfl

@[simp] theorem tally_regs (source n : Nat) : (d.tally source n).regs = d.regs := rfl
@[simp] theorem tally_phase (source n : Nat) : (d.tally source n).phase = d.phase := rfl
@[simp] theorem tally_cells (source n : Nat) : (d.tally source n).cells = d.cells := rfl
@[simp] theorem tally_tasks (source n : Nat) : (d.tally source n).tasks = d.tasks := rfl
@[simp] theorem tally_resubmit (source n : Nat) : (d.tally source n).resubmit = d.resubmit := rfl
@[simp] theorem tally_late (source n : Nat) : (d.tally source n).late = d.late := rfl
@[simp] theorem tally_skipScan (source n : Nat) : (d.tally source n).skipScan = d.skipScan := rfl
@[simp] theorem tally_frameHigh (source n : Nat) : (d.tally source n).frameHigh = d.frameHigh := rfl
@[simp] theorem tally_inputs (source n : Nat) : (d.tally source n).inputs = d.inputs := rfl
@[simp] theorem tally_bist (source n : Nat) : (d.tally source n).bist = d.bist := rfl
@[simp] theorem tally_wdt (source n : Nat) : (d.tally source n).wdt = d.wdt := rfl
@[simp] theorem tally_baro (source n : Nat) : (d.tally source n).baro = d.baro := rfl
@[simp] theorem tally_fns (source n : Nat) : (d.tally source n).fns = d.fns := rfl
@[simp] theorem tally_hostUse (source n : Nat) : (d.tally source n).hostUse = d.hostUse := rfl
@[simp] theorem tally_ops (source n : Nat) : (d.tally source n).ops = d.ops := rfl
@[simp] theorem tally_cpls (source n : Nat) : (d.tally source n).cpls = d.cpls := rfl
@[simp] theorem tally_mbx0 (source n : Nat) : (d.tally source n).mbx0 = d.mbx0 := rfl
@[simp] theorem tally_mbx1 (source n : Nat) : (d.tally source n).mbx1 = d.mbx1 := rfl
@[simp] theorem tally_pairs (source n : Nat) : (d.tally source n).pairs = d.pairs := rfl
@[simp] theorem tally_gcs (source n : Nat) : (d.tally source n).gcs = d.gcs := rfl
@[simp] theorem tally_comps (source n : Nat) : (d.tally source n).comps = d.comps := rfl
@[simp] theorem tally_snow (source n : Nat) : (d.tally source n).snow = d.snow := rfl
@[simp] theorem tally_pol (source n : Nat) : (d.tally source n).pol = d.pol := rfl
@[simp] theorem tally_fuses (source n : Nat) : (d.tally source n).fuses = d.fuses := rfl
@[simp] theorem tally_mon (source n : Nat) : (d.tally source n).mon = d.mon := rfl
@[simp] theorem tally_pwr (source n : Nat) : (d.tally source n).pwr = d.pwr := rfl
@[simp] theorem tally_driz (source n : Nat) : (d.tally source n).driz = d.driz := rfl
@[simp] theorem tally_own (source n : Nat) : (d.tally source n).own = d.own := rfl
@[simp] theorem tally_vault (source n : Nat) : (d.tally source n).vault = d.vault := rfl
@[simp] theorem tally_crypto (source n : Nat) : (d.tally source n).crypto = d.crypto := rfl
@[simp] theorem tally_otpx (source n : Nat) : (d.tally source n).otpx = d.otpx := rfl
@[simp] theorem tally_dbg (source n : Nat) : (d.tally source n).dbg = d.dbg := rfl
@[simp] theorem tally_att (source n : Nat) : (d.tally source n).att = d.att := rfl
@[simp] theorem tally_fw (source n : Nat) : (d.tally source n).fw = d.fw := rfl
@[simp] theorem tally_link0 (source n : Nat) : (d.tally source n).link0 = d.link0 := rfl
@[simp] theorem tally_link1 (source n : Nat) : (d.tally source n).link1 = d.link1 := rfl
@[simp] theorem tally_front (source n : Nat) : (d.tally source n).front = d.front := rfl
@[simp] theorem tally_chain (source n : Nat) : (d.tally source n).chain = d.chain := rfl
@[simp] theorem tally_run (source n : Nat) : (d.tally source n).run = d.run := rfl
@[simp] theorem tally_started (source n : Nat) : (d.tally source n).started = d.started := rfl
@[simp] theorem tally_free (source n : Nat) : (d.tally source n).free = d.free := rfl
@[simp] theorem tally_out (source n : Nat) : (d.tally source n).out = d.out := rfl

@[simp] theorem raise_phase (f : Fld) : (d.raise f).phase = d.phase := rfl
@[simp] theorem raise_cells (f : Fld) : (d.raise f).cells = d.cells := rfl
@[simp] theorem raise_tasks (f : Fld) : (d.raise f).tasks = d.tasks := rfl
@[simp] theorem raise_resubmit (f : Fld) : (d.raise f).resubmit = d.resubmit := rfl
@[simp] theorem raise_late (f : Fld) : (d.raise f).late = d.late := rfl
@[simp] theorem raise_skipScan (f : Fld) : (d.raise f).skipScan = d.skipScan := rfl
@[simp] theorem raise_frameHigh (f : Fld) : (d.raise f).frameHigh = d.frameHigh := rfl
@[simp] theorem raise_inputs (f : Fld) : (d.raise f).inputs = d.inputs := rfl
@[simp] theorem raise_bist (f : Fld) : (d.raise f).bist = d.bist := rfl
@[simp] theorem raise_wdt (f : Fld) : (d.raise f).wdt = d.wdt := rfl
@[simp] theorem raise_baro (f : Fld) : (d.raise f).baro = d.baro := rfl
@[simp] theorem raise_cnt (f : Fld) : (d.raise f).cnt = d.cnt := rfl
@[simp] theorem raise_fns (f : Fld) : (d.raise f).fns = d.fns := rfl
@[simp] theorem raise_hostUse (f : Fld) : (d.raise f).hostUse = d.hostUse := rfl
@[simp] theorem raise_ops (f : Fld) : (d.raise f).ops = d.ops := rfl
@[simp] theorem raise_cpls (f : Fld) : (d.raise f).cpls = d.cpls := rfl
@[simp] theorem raise_mbx0 (f : Fld) : (d.raise f).mbx0 = d.mbx0 := rfl
@[simp] theorem raise_mbx1 (f : Fld) : (d.raise f).mbx1 = d.mbx1 := rfl
@[simp] theorem raise_pairs (f : Fld) : (d.raise f).pairs = d.pairs := rfl
@[simp] theorem raise_gcs (f : Fld) : (d.raise f).gcs = d.gcs := rfl
@[simp] theorem raise_comps (f : Fld) : (d.raise f).comps = d.comps := rfl
@[simp] theorem raise_snow (f : Fld) : (d.raise f).snow = d.snow := rfl
@[simp] theorem raise_pol (f : Fld) : (d.raise f).pol = d.pol := rfl
@[simp] theorem raise_fuses (f : Fld) : (d.raise f).fuses = d.fuses := rfl
@[simp] theorem raise_mon (f : Fld) : (d.raise f).mon = d.mon := rfl
@[simp] theorem raise_pwr (f : Fld) : (d.raise f).pwr = d.pwr := rfl
@[simp] theorem raise_driz (f : Fld) : (d.raise f).driz = d.driz := rfl
@[simp] theorem raise_own (f : Fld) : (d.raise f).own = d.own := rfl
@[simp] theorem raise_vault (f : Fld) : (d.raise f).vault = d.vault := rfl
@[simp] theorem raise_crypto (f : Fld) : (d.raise f).crypto = d.crypto := rfl
@[simp] theorem raise_otpx (f : Fld) : (d.raise f).otpx = d.otpx := rfl
@[simp] theorem raise_dbg (f : Fld) : (d.raise f).dbg = d.dbg := rfl
@[simp] theorem raise_att (f : Fld) : (d.raise f).att = d.att := rfl
@[simp] theorem raise_fw (f : Fld) : (d.raise f).fw = d.fw := rfl
@[simp] theorem raise_link0 (f : Fld) : (d.raise f).link0 = d.link0 := rfl
@[simp] theorem raise_link1 (f : Fld) : (d.raise f).link1 = d.link1 := rfl
@[simp] theorem raise_front (f : Fld) : (d.raise f).front = d.front := rfl
@[simp] theorem raise_chain (f : Fld) : (d.raise f).chain = d.chain := rfl
@[simp] theorem raise_run (f : Fld) : (d.raise f).run = d.run := rfl
@[simp] theorem raise_started (f : Fld) : (d.raise f).started = d.started := rfl
@[simp] theorem raise_free (f : Fld) : (d.raise f).free = d.free := rfl
@[simp] theorem raise_out (f : Fld) : (d.raise f).out = d.out := rfl

@[simp] theorem clear_phase (f : Fld) : (d.clear f).phase = d.phase := rfl
@[simp] theorem clear_cells (f : Fld) : (d.clear f).cells = d.cells := rfl
@[simp] theorem clear_tasks (f : Fld) : (d.clear f).tasks = d.tasks := rfl
@[simp] theorem clear_resubmit (f : Fld) : (d.clear f).resubmit = d.resubmit := rfl
@[simp] theorem clear_late (f : Fld) : (d.clear f).late = d.late := rfl
@[simp] theorem clear_skipScan (f : Fld) : (d.clear f).skipScan = d.skipScan := rfl
@[simp] theorem clear_frameHigh (f : Fld) : (d.clear f).frameHigh = d.frameHigh := rfl
@[simp] theorem clear_inputs (f : Fld) : (d.clear f).inputs = d.inputs := rfl
@[simp] theorem clear_bist (f : Fld) : (d.clear f).bist = d.bist := rfl
@[simp] theorem clear_wdt (f : Fld) : (d.clear f).wdt = d.wdt := rfl
@[simp] theorem clear_baro (f : Fld) : (d.clear f).baro = d.baro := rfl
@[simp] theorem clear_cnt (f : Fld) : (d.clear f).cnt = d.cnt := rfl
@[simp] theorem clear_fns (f : Fld) : (d.clear f).fns = d.fns := rfl
@[simp] theorem clear_hostUse (f : Fld) : (d.clear f).hostUse = d.hostUse := rfl
@[simp] theorem clear_ops (f : Fld) : (d.clear f).ops = d.ops := rfl
@[simp] theorem clear_cpls (f : Fld) : (d.clear f).cpls = d.cpls := rfl
@[simp] theorem clear_mbx0 (f : Fld) : (d.clear f).mbx0 = d.mbx0 := rfl
@[simp] theorem clear_mbx1 (f : Fld) : (d.clear f).mbx1 = d.mbx1 := rfl
@[simp] theorem clear_pairs (f : Fld) : (d.clear f).pairs = d.pairs := rfl
@[simp] theorem clear_gcs (f : Fld) : (d.clear f).gcs = d.gcs := rfl
@[simp] theorem clear_comps (f : Fld) : (d.clear f).comps = d.comps := rfl
@[simp] theorem clear_snow (f : Fld) : (d.clear f).snow = d.snow := rfl
@[simp] theorem clear_pol (f : Fld) : (d.clear f).pol = d.pol := rfl
@[simp] theorem clear_fuses (f : Fld) : (d.clear f).fuses = d.fuses := rfl
@[simp] theorem clear_mon (f : Fld) : (d.clear f).mon = d.mon := rfl
@[simp] theorem clear_pwr (f : Fld) : (d.clear f).pwr = d.pwr := rfl
@[simp] theorem clear_driz (f : Fld) : (d.clear f).driz = d.driz := rfl
@[simp] theorem clear_own (f : Fld) : (d.clear f).own = d.own := rfl
@[simp] theorem clear_vault (f : Fld) : (d.clear f).vault = d.vault := rfl
@[simp] theorem clear_crypto (f : Fld) : (d.clear f).crypto = d.crypto := rfl
@[simp] theorem clear_otpx (f : Fld) : (d.clear f).otpx = d.otpx := rfl
@[simp] theorem clear_dbg (f : Fld) : (d.clear f).dbg = d.dbg := rfl
@[simp] theorem clear_att (f : Fld) : (d.clear f).att = d.att := rfl
@[simp] theorem clear_fw (f : Fld) : (d.clear f).fw = d.fw := rfl
@[simp] theorem clear_link0 (f : Fld) : (d.clear f).link0 = d.link0 := rfl
@[simp] theorem clear_link1 (f : Fld) : (d.clear f).link1 = d.link1 := rfl
@[simp] theorem clear_front (f : Fld) : (d.clear f).front = d.front := rfl
@[simp] theorem clear_chain (f : Fld) : (d.clear f).chain = d.chain := rfl
@[simp] theorem clear_run (f : Fld) : (d.clear f).run = d.run := rfl
@[simp] theorem clear_started (f : Fld) : (d.clear f).started = d.started := rfl
@[simp] theorem clear_free (f : Fld) : (d.clear f).free = d.free := rfl
@[simp] theorem clear_out (f : Fld) : (d.clear f).out = d.out := rfl

@[simp] theorem add_phase (f : Fld) (n : Nat) : (d.add f n).phase = d.phase := rfl
@[simp] theorem add_cells (f : Fld) (n : Nat) : (d.add f n).cells = d.cells := rfl
@[simp] theorem add_tasks (f : Fld) (n : Nat) : (d.add f n).tasks = d.tasks := rfl
@[simp] theorem add_resubmit (f : Fld) (n : Nat) : (d.add f n).resubmit = d.resubmit := rfl
@[simp] theorem add_late (f : Fld) (n : Nat) : (d.add f n).late = d.late := rfl
@[simp] theorem add_skipScan (f : Fld) (n : Nat) : (d.add f n).skipScan = d.skipScan := rfl
@[simp] theorem add_frameHigh (f : Fld) (n : Nat) : (d.add f n).frameHigh = d.frameHigh := rfl
@[simp] theorem add_inputs (f : Fld) (n : Nat) : (d.add f n).inputs = d.inputs := rfl
@[simp] theorem add_bist (f : Fld) (n : Nat) : (d.add f n).bist = d.bist := rfl
@[simp] theorem add_wdt (f : Fld) (n : Nat) : (d.add f n).wdt = d.wdt := rfl
@[simp] theorem add_baro (f : Fld) (n : Nat) : (d.add f n).baro = d.baro := rfl
@[simp] theorem add_cnt (f : Fld) (n : Nat) : (d.add f n).cnt = d.cnt := rfl
@[simp] theorem add_fns (f : Fld) (n : Nat) : (d.add f n).fns = d.fns := rfl
@[simp] theorem add_hostUse (f : Fld) (n : Nat) : (d.add f n).hostUse = d.hostUse := rfl
@[simp] theorem add_ops (f : Fld) (n : Nat) : (d.add f n).ops = d.ops := rfl
@[simp] theorem add_cpls (f : Fld) (n : Nat) : (d.add f n).cpls = d.cpls := rfl
@[simp] theorem add_mbx0 (f : Fld) (n : Nat) : (d.add f n).mbx0 = d.mbx0 := rfl
@[simp] theorem add_mbx1 (f : Fld) (n : Nat) : (d.add f n).mbx1 = d.mbx1 := rfl
@[simp] theorem add_pairs (f : Fld) (n : Nat) : (d.add f n).pairs = d.pairs := rfl
@[simp] theorem add_gcs (f : Fld) (n : Nat) : (d.add f n).gcs = d.gcs := rfl
@[simp] theorem add_comps (f : Fld) (n : Nat) : (d.add f n).comps = d.comps := rfl
@[simp] theorem add_snow (f : Fld) (n : Nat) : (d.add f n).snow = d.snow := rfl
@[simp] theorem add_pol (f : Fld) (n : Nat) : (d.add f n).pol = d.pol := rfl
@[simp] theorem add_fuses (f : Fld) (n : Nat) : (d.add f n).fuses = d.fuses := rfl
@[simp] theorem add_mon (f : Fld) (n : Nat) : (d.add f n).mon = d.mon := rfl
@[simp] theorem add_pwr (f : Fld) (n : Nat) : (d.add f n).pwr = d.pwr := rfl
@[simp] theorem add_driz (f : Fld) (n : Nat) : (d.add f n).driz = d.driz := rfl
@[simp] theorem add_own (f : Fld) (n : Nat) : (d.add f n).own = d.own := rfl
@[simp] theorem add_vault (f : Fld) (n : Nat) : (d.add f n).vault = d.vault := rfl
@[simp] theorem add_crypto (f : Fld) (n : Nat) : (d.add f n).crypto = d.crypto := rfl
@[simp] theorem add_otpx (f : Fld) (n : Nat) : (d.add f n).otpx = d.otpx := rfl
@[simp] theorem add_dbg (f : Fld) (n : Nat) : (d.add f n).dbg = d.dbg := rfl
@[simp] theorem add_att (f : Fld) (n : Nat) : (d.add f n).att = d.att := rfl
@[simp] theorem add_fw (f : Fld) (n : Nat) : (d.add f n).fw = d.fw := rfl
@[simp] theorem add_link0 (f : Fld) (n : Nat) : (d.add f n).link0 = d.link0 := rfl
@[simp] theorem add_link1 (f : Fld) (n : Nat) : (d.add f n).link1 = d.link1 := rfl
@[simp] theorem add_front (f : Fld) (n : Nat) : (d.add f n).front = d.front := rfl
@[simp] theorem add_chain (f : Fld) (n : Nat) : (d.add f n).chain = d.chain := rfl
@[simp] theorem add_run (f : Fld) (n : Nat) : (d.add f n).run = d.run := rfl
@[simp] theorem add_started (f : Fld) (n : Nat) : (d.add f n).started = d.started := rfl
@[simp] theorem add_free (f : Fld) (n : Nat) : (d.add f n).free = d.free := rfl
@[simp] theorem add_out (f : Fld) (n : Nat) : (d.add f n).out = d.out := rfl

@[simp] theorem inc_phase (f : Fld) : (d.inc f).phase = d.phase := rfl
@[simp] theorem inc_cells (f : Fld) : (d.inc f).cells = d.cells := rfl
@[simp] theorem inc_tasks (f : Fld) : (d.inc f).tasks = d.tasks := rfl
@[simp] theorem inc_resubmit (f : Fld) : (d.inc f).resubmit = d.resubmit := rfl
@[simp] theorem inc_late (f : Fld) : (d.inc f).late = d.late := rfl
@[simp] theorem inc_skipScan (f : Fld) : (d.inc f).skipScan = d.skipScan := rfl
@[simp] theorem inc_frameHigh (f : Fld) : (d.inc f).frameHigh = d.frameHigh := rfl
@[simp] theorem inc_inputs (f : Fld) : (d.inc f).inputs = d.inputs := rfl
@[simp] theorem inc_bist (f : Fld) : (d.inc f).bist = d.bist := rfl
@[simp] theorem inc_wdt (f : Fld) : (d.inc f).wdt = d.wdt := rfl
@[simp] theorem inc_baro (f : Fld) : (d.inc f).baro = d.baro := rfl
@[simp] theorem inc_cnt (f : Fld) : (d.inc f).cnt = d.cnt := rfl
@[simp] theorem inc_fns (f : Fld) : (d.inc f).fns = d.fns := rfl
@[simp] theorem inc_hostUse (f : Fld) : (d.inc f).hostUse = d.hostUse := rfl
@[simp] theorem inc_ops (f : Fld) : (d.inc f).ops = d.ops := rfl
@[simp] theorem inc_cpls (f : Fld) : (d.inc f).cpls = d.cpls := rfl
@[simp] theorem inc_mbx0 (f : Fld) : (d.inc f).mbx0 = d.mbx0 := rfl
@[simp] theorem inc_mbx1 (f : Fld) : (d.inc f).mbx1 = d.mbx1 := rfl
@[simp] theorem inc_pairs (f : Fld) : (d.inc f).pairs = d.pairs := rfl
@[simp] theorem inc_gcs (f : Fld) : (d.inc f).gcs = d.gcs := rfl
@[simp] theorem inc_comps (f : Fld) : (d.inc f).comps = d.comps := rfl
@[simp] theorem inc_snow (f : Fld) : (d.inc f).snow = d.snow := rfl
@[simp] theorem inc_pol (f : Fld) : (d.inc f).pol = d.pol := rfl
@[simp] theorem inc_fuses (f : Fld) : (d.inc f).fuses = d.fuses := rfl
@[simp] theorem inc_mon (f : Fld) : (d.inc f).mon = d.mon := rfl
@[simp] theorem inc_pwr (f : Fld) : (d.inc f).pwr = d.pwr := rfl
@[simp] theorem inc_driz (f : Fld) : (d.inc f).driz = d.driz := rfl
@[simp] theorem inc_own (f : Fld) : (d.inc f).own = d.own := rfl
@[simp] theorem inc_vault (f : Fld) : (d.inc f).vault = d.vault := rfl
@[simp] theorem inc_crypto (f : Fld) : (d.inc f).crypto = d.crypto := rfl
@[simp] theorem inc_otpx (f : Fld) : (d.inc f).otpx = d.otpx := rfl
@[simp] theorem inc_dbg (f : Fld) : (d.inc f).dbg = d.dbg := rfl
@[simp] theorem inc_att (f : Fld) : (d.inc f).att = d.att := rfl
@[simp] theorem inc_fw (f : Fld) : (d.inc f).fw = d.fw := rfl
@[simp] theorem inc_link0 (f : Fld) : (d.inc f).link0 = d.link0 := rfl
@[simp] theorem inc_link1 (f : Fld) : (d.inc f).link1 = d.link1 := rfl
@[simp] theorem inc_front (f : Fld) : (d.inc f).front = d.front := rfl
@[simp] theorem inc_chain (f : Fld) : (d.inc f).chain = d.chain := rfl
@[simp] theorem inc_run (f : Fld) : (d.inc f).run = d.run := rfl
@[simp] theorem inc_started (f : Fld) : (d.inc f).started = d.started := rfl
@[simp] theorem inc_free (f : Fld) : (d.inc f).free = d.free := rfl
@[simp] theorem inc_out (f : Fld) : (d.inc f).out = d.out := rfl

@[simp] theorem incWrap_phase (f : Fld) : (d.incWrap f).phase = d.phase := rfl
@[simp] theorem incWrap_cells (f : Fld) : (d.incWrap f).cells = d.cells := rfl
@[simp] theorem incWrap_tasks (f : Fld) : (d.incWrap f).tasks = d.tasks := rfl
@[simp] theorem incWrap_resubmit (f : Fld) : (d.incWrap f).resubmit = d.resubmit := rfl
@[simp] theorem incWrap_late (f : Fld) : (d.incWrap f).late = d.late := rfl
@[simp] theorem incWrap_skipScan (f : Fld) : (d.incWrap f).skipScan = d.skipScan := rfl
@[simp] theorem incWrap_frameHigh (f : Fld) : (d.incWrap f).frameHigh = d.frameHigh := rfl
@[simp] theorem incWrap_inputs (f : Fld) : (d.incWrap f).inputs = d.inputs := rfl
@[simp] theorem incWrap_bist (f : Fld) : (d.incWrap f).bist = d.bist := rfl
@[simp] theorem incWrap_wdt (f : Fld) : (d.incWrap f).wdt = d.wdt := rfl
@[simp] theorem incWrap_baro (f : Fld) : (d.incWrap f).baro = d.baro := rfl
@[simp] theorem incWrap_cnt (f : Fld) : (d.incWrap f).cnt = d.cnt := rfl
@[simp] theorem incWrap_fns (f : Fld) : (d.incWrap f).fns = d.fns := rfl
@[simp] theorem incWrap_hostUse (f : Fld) : (d.incWrap f).hostUse = d.hostUse := rfl
@[simp] theorem incWrap_ops (f : Fld) : (d.incWrap f).ops = d.ops := rfl
@[simp] theorem incWrap_cpls (f : Fld) : (d.incWrap f).cpls = d.cpls := rfl
@[simp] theorem incWrap_mbx0 (f : Fld) : (d.incWrap f).mbx0 = d.mbx0 := rfl
@[simp] theorem incWrap_mbx1 (f : Fld) : (d.incWrap f).mbx1 = d.mbx1 := rfl
@[simp] theorem incWrap_pairs (f : Fld) : (d.incWrap f).pairs = d.pairs := rfl
@[simp] theorem incWrap_gcs (f : Fld) : (d.incWrap f).gcs = d.gcs := rfl
@[simp] theorem incWrap_comps (f : Fld) : (d.incWrap f).comps = d.comps := rfl
@[simp] theorem incWrap_snow (f : Fld) : (d.incWrap f).snow = d.snow := rfl
@[simp] theorem incWrap_pol (f : Fld) : (d.incWrap f).pol = d.pol := rfl
@[simp] theorem incWrap_fuses (f : Fld) : (d.incWrap f).fuses = d.fuses := rfl
@[simp] theorem incWrap_mon (f : Fld) : (d.incWrap f).mon = d.mon := rfl
@[simp] theorem incWrap_pwr (f : Fld) : (d.incWrap f).pwr = d.pwr := rfl
@[simp] theorem incWrap_driz (f : Fld) : (d.incWrap f).driz = d.driz := rfl
@[simp] theorem incWrap_own (f : Fld) : (d.incWrap f).own = d.own := rfl
@[simp] theorem incWrap_vault (f : Fld) : (d.incWrap f).vault = d.vault := rfl
@[simp] theorem incWrap_crypto (f : Fld) : (d.incWrap f).crypto = d.crypto := rfl
@[simp] theorem incWrap_otpx (f : Fld) : (d.incWrap f).otpx = d.otpx := rfl
@[simp] theorem incWrap_dbg (f : Fld) : (d.incWrap f).dbg = d.dbg := rfl
@[simp] theorem incWrap_att (f : Fld) : (d.incWrap f).att = d.att := rfl
@[simp] theorem incWrap_fw (f : Fld) : (d.incWrap f).fw = d.fw := rfl
@[simp] theorem incWrap_link0 (f : Fld) : (d.incWrap f).link0 = d.link0 := rfl
@[simp] theorem incWrap_link1 (f : Fld) : (d.incWrap f).link1 = d.link1 := rfl
@[simp] theorem incWrap_front (f : Fld) : (d.incWrap f).front = d.front := rfl
@[simp] theorem incWrap_chain (f : Fld) : (d.incWrap f).chain = d.chain := rfl
@[simp] theorem incWrap_run (f : Fld) : (d.incWrap f).run = d.run := rfl
@[simp] theorem incWrap_started (f : Fld) : (d.incWrap f).started = d.started := rfl
@[simp] theorem incWrap_free (f : Fld) : (d.incWrap f).free = d.free := rfl
@[simp] theorem incWrap_out (f : Fld) : (d.incWrap f).out = d.out := rfl

@[simp] theorem setBit_phase (f : Fld) (i : Nat) (b : Bool) : (d.setBit f i b).phase = d.phase := rfl
@[simp] theorem setBit_cells (f : Fld) (i : Nat) (b : Bool) : (d.setBit f i b).cells = d.cells := rfl
@[simp] theorem setBit_tasks (f : Fld) (i : Nat) (b : Bool) : (d.setBit f i b).tasks = d.tasks := rfl
@[simp] theorem setBit_resubmit (f : Fld) (i : Nat) (b : Bool) : (d.setBit f i b).resubmit = d.resubmit := rfl
@[simp] theorem setBit_late (f : Fld) (i : Nat) (b : Bool) : (d.setBit f i b).late = d.late := rfl
@[simp] theorem setBit_skipScan (f : Fld) (i : Nat) (b : Bool) : (d.setBit f i b).skipScan = d.skipScan := rfl
@[simp] theorem setBit_frameHigh (f : Fld) (i : Nat) (b : Bool) : (d.setBit f i b).frameHigh = d.frameHigh := rfl
@[simp] theorem setBit_inputs (f : Fld) (i : Nat) (b : Bool) : (d.setBit f i b).inputs = d.inputs := rfl
@[simp] theorem setBit_bist (f : Fld) (i : Nat) (b : Bool) : (d.setBit f i b).bist = d.bist := rfl
@[simp] theorem setBit_wdt (f : Fld) (i : Nat) (b : Bool) : (d.setBit f i b).wdt = d.wdt := rfl
@[simp] theorem setBit_baro (f : Fld) (i : Nat) (b : Bool) : (d.setBit f i b).baro = d.baro := rfl
@[simp] theorem setBit_cnt (f : Fld) (i : Nat) (b : Bool) : (d.setBit f i b).cnt = d.cnt := rfl
@[simp] theorem setBit_fns (f : Fld) (i : Nat) (b : Bool) : (d.setBit f i b).fns = d.fns := rfl
@[simp] theorem setBit_hostUse (f : Fld) (i : Nat) (b : Bool) : (d.setBit f i b).hostUse = d.hostUse := rfl
@[simp] theorem setBit_ops (f : Fld) (i : Nat) (b : Bool) : (d.setBit f i b).ops = d.ops := rfl
@[simp] theorem setBit_cpls (f : Fld) (i : Nat) (b : Bool) : (d.setBit f i b).cpls = d.cpls := rfl
@[simp] theorem setBit_mbx0 (f : Fld) (i : Nat) (b : Bool) : (d.setBit f i b).mbx0 = d.mbx0 := rfl
@[simp] theorem setBit_mbx1 (f : Fld) (i : Nat) (b : Bool) : (d.setBit f i b).mbx1 = d.mbx1 := rfl
@[simp] theorem setBit_pairs (f : Fld) (i : Nat) (b : Bool) : (d.setBit f i b).pairs = d.pairs := rfl
@[simp] theorem setBit_gcs (f : Fld) (i : Nat) (b : Bool) : (d.setBit f i b).gcs = d.gcs := rfl
@[simp] theorem setBit_comps (f : Fld) (i : Nat) (b : Bool) : (d.setBit f i b).comps = d.comps := rfl
@[simp] theorem setBit_snow (f : Fld) (i : Nat) (b : Bool) : (d.setBit f i b).snow = d.snow := rfl
@[simp] theorem setBit_pol (f : Fld) (i : Nat) (b : Bool) : (d.setBit f i b).pol = d.pol := rfl
@[simp] theorem setBit_fuses (f : Fld) (i : Nat) (b : Bool) : (d.setBit f i b).fuses = d.fuses := rfl
@[simp] theorem setBit_mon (f : Fld) (i : Nat) (b : Bool) : (d.setBit f i b).mon = d.mon := rfl
@[simp] theorem setBit_pwr (f : Fld) (i : Nat) (b : Bool) : (d.setBit f i b).pwr = d.pwr := rfl
@[simp] theorem setBit_driz (f : Fld) (i : Nat) (b : Bool) : (d.setBit f i b).driz = d.driz := rfl
@[simp] theorem setBit_own (f : Fld) (i : Nat) (b : Bool) : (d.setBit f i b).own = d.own := rfl
@[simp] theorem setBit_vault (f : Fld) (i : Nat) (b : Bool) : (d.setBit f i b).vault = d.vault := rfl
@[simp] theorem setBit_crypto (f : Fld) (i : Nat) (b : Bool) : (d.setBit f i b).crypto = d.crypto := rfl
@[simp] theorem setBit_otpx (f : Fld) (i : Nat) (b : Bool) : (d.setBit f i b).otpx = d.otpx := rfl
@[simp] theorem setBit_dbg (f : Fld) (i : Nat) (b : Bool) : (d.setBit f i b).dbg = d.dbg := rfl
@[simp] theorem setBit_att (f : Fld) (i : Nat) (b : Bool) : (d.setBit f i b).att = d.att := rfl
@[simp] theorem setBit_fw (f : Fld) (i : Nat) (b : Bool) : (d.setBit f i b).fw = d.fw := rfl
@[simp] theorem setBit_link0 (f : Fld) (i : Nat) (b : Bool) : (d.setBit f i b).link0 = d.link0 := rfl
@[simp] theorem setBit_link1 (f : Fld) (i : Nat) (b : Bool) : (d.setBit f i b).link1 = d.link1 := rfl
@[simp] theorem setBit_front (f : Fld) (i : Nat) (b : Bool) : (d.setBit f i b).front = d.front := rfl
@[simp] theorem setBit_chain (f : Fld) (i : Nat) (b : Bool) : (d.setBit f i b).chain = d.chain := rfl
@[simp] theorem setBit_run (f : Fld) (i : Nat) (b : Bool) : (d.setBit f i b).run = d.run := rfl
@[simp] theorem setBit_started (f : Fld) (i : Nat) (b : Bool) : (d.setBit f i b).started = d.started := rfl
@[simp] theorem setBit_free (f : Fld) (i : Nat) (b : Bool) : (d.setBit f i b).free = d.free := rfl
@[simp] theorem setBit_out (f : Fld) (i : Nat) (b : Bool) : (d.setBit f i b).out = d.out := rfl

@[simp] theorem resetWhere_phase (p : Nat → Bool) : (d.resetWhere p).phase = d.phase := rfl
@[simp] theorem resetWhere_cells (p : Nat → Bool) : (d.resetWhere p).cells = d.cells := rfl
@[simp] theorem resetWhere_tasks (p : Nat → Bool) : (d.resetWhere p).tasks = d.tasks := rfl
@[simp] theorem resetWhere_resubmit (p : Nat → Bool) : (d.resetWhere p).resubmit = d.resubmit := rfl
@[simp] theorem resetWhere_late (p : Nat → Bool) : (d.resetWhere p).late = d.late := rfl
@[simp] theorem resetWhere_skipScan (p : Nat → Bool) : (d.resetWhere p).skipScan = d.skipScan := rfl
@[simp] theorem resetWhere_frameHigh (p : Nat → Bool) : (d.resetWhere p).frameHigh = d.frameHigh := rfl
@[simp] theorem resetWhere_inputs (p : Nat → Bool) : (d.resetWhere p).inputs = d.inputs := rfl
@[simp] theorem resetWhere_bist (p : Nat → Bool) : (d.resetWhere p).bist = d.bist := rfl
@[simp] theorem resetWhere_wdt (p : Nat → Bool) : (d.resetWhere p).wdt = d.wdt := rfl
@[simp] theorem resetWhere_baro (p : Nat → Bool) : (d.resetWhere p).baro = d.baro := rfl
@[simp] theorem resetWhere_cnt (p : Nat → Bool) : (d.resetWhere p).cnt = d.cnt := rfl
@[simp] theorem resetWhere_fns (p : Nat → Bool) : (d.resetWhere p).fns = d.fns := rfl
@[simp] theorem resetWhere_hostUse (p : Nat → Bool) : (d.resetWhere p).hostUse = d.hostUse := rfl
@[simp] theorem resetWhere_ops (p : Nat → Bool) : (d.resetWhere p).ops = d.ops := rfl
@[simp] theorem resetWhere_cpls (p : Nat → Bool) : (d.resetWhere p).cpls = d.cpls := rfl
@[simp] theorem resetWhere_mbx0 (p : Nat → Bool) : (d.resetWhere p).mbx0 = d.mbx0 := rfl
@[simp] theorem resetWhere_mbx1 (p : Nat → Bool) : (d.resetWhere p).mbx1 = d.mbx1 := rfl
@[simp] theorem resetWhere_pairs (p : Nat → Bool) : (d.resetWhere p).pairs = d.pairs := rfl
@[simp] theorem resetWhere_gcs (p : Nat → Bool) : (d.resetWhere p).gcs = d.gcs := rfl
@[simp] theorem resetWhere_comps (p : Nat → Bool) : (d.resetWhere p).comps = d.comps := rfl
@[simp] theorem resetWhere_snow (p : Nat → Bool) : (d.resetWhere p).snow = d.snow := rfl
@[simp] theorem resetWhere_pol (p : Nat → Bool) : (d.resetWhere p).pol = d.pol := rfl
@[simp] theorem resetWhere_fuses (p : Nat → Bool) : (d.resetWhere p).fuses = d.fuses := rfl
@[simp] theorem resetWhere_mon (p : Nat → Bool) : (d.resetWhere p).mon = d.mon := rfl
@[simp] theorem resetWhere_pwr (p : Nat → Bool) : (d.resetWhere p).pwr = d.pwr := rfl
@[simp] theorem resetWhere_driz (p : Nat → Bool) : (d.resetWhere p).driz = d.driz := rfl
@[simp] theorem resetWhere_own (p : Nat → Bool) : (d.resetWhere p).own = d.own := rfl
@[simp] theorem resetWhere_vault (p : Nat → Bool) : (d.resetWhere p).vault = d.vault := rfl
@[simp] theorem resetWhere_crypto (p : Nat → Bool) : (d.resetWhere p).crypto = d.crypto := rfl
@[simp] theorem resetWhere_otpx (p : Nat → Bool) : (d.resetWhere p).otpx = d.otpx := rfl
@[simp] theorem resetWhere_dbg (p : Nat → Bool) : (d.resetWhere p).dbg = d.dbg := rfl
@[simp] theorem resetWhere_att (p : Nat → Bool) : (d.resetWhere p).att = d.att := rfl
@[simp] theorem resetWhere_fw (p : Nat → Bool) : (d.resetWhere p).fw = d.fw := rfl
@[simp] theorem resetWhere_link0 (p : Nat → Bool) : (d.resetWhere p).link0 = d.link0 := rfl
@[simp] theorem resetWhere_link1 (p : Nat → Bool) : (d.resetWhere p).link1 = d.link1 := rfl
@[simp] theorem resetWhere_front (p : Nat → Bool) : (d.resetWhere p).front = d.front := rfl
@[simp] theorem resetWhere_chain (p : Nat → Bool) : (d.resetWhere p).chain = d.chain := rfl
@[simp] theorem resetWhere_run (p : Nat → Bool) : (d.resetWhere p).run = d.run := rfl
@[simp] theorem resetWhere_started (p : Nat → Bool) : (d.resetWhere p).started = d.started := rfl
@[simp] theorem resetWhere_free (p : Nat → Bool) : (d.resetWhere p).free = d.free := rfl
@[simp] theorem resetWhere_out (p : Nat → Bool) : (d.resetWhere p).out = d.out := rfl

end Dev

end Sys2Proof.Machine
end

