-- ==== Sys2Proof/Laws/Ops.lean ====
section
/-! SUPPORT. What each shared operation can do, said once: registers, counters, flags, descriptors, operations, HOME and
the OTP array. -/

namespace Sys2Proof.Machine

/-! ## Answers -/

/-- A meaning over the device alone answers a next state and leaves HOME, the OTP array and the queue. -/
theorem act_next {s t : State} {f : Dev → Dev} (h : act s f = .next t) :
    t.dev = f s.dev ∧ t.home = s.home ∧ t.otp = s.otp ∧ t.pending = s.pending := by
  cases h; exact ⟨rfl, rfl, rfl, rfl⟩

/-! ## Registers (R11) -/

theorem rd_wr_self (d : Dev) (f : Fld) (v : Nat) : (d.wr f v).rd f = v % 2 ^ f.width := SMap.get_set_self ..

theorem rd_wr_ne (d : Dev) {f g : Fld} (v : Nat) (h : f.bit ≠ g.bit) : (d.wr f v).rd g = d.rd g := SMap.get_set_ne _ _ _ h

theorem rd_wr_fit (d : Dev) {f : Fld} {v : Nat} (h : v < 2 ^ f.width) : (d.wr f v).rd f = v := by
  rw [rd_wr_self, Nat.mod_eq_of_lt h]

/-- A write changes the register file alone, and there one field. -/
theorem wr_only (d : Dev) (f : Fld) (v : Nat) :
    ∃ r, d.wr f v = { d with regs := r } ∧ ∀ b, b ≠ f.bit → SMap.get resetVal r b = SMap.get resetVal d.regs b :=
  ⟨_, rfl, fun _ hb => SMap.get_set_ne _ _ _ fun h => hb h.symm⟩

theorem on_raise (d : Dev) {f : Fld} (h : 0 < f.width) : (d.raise f).on f = true := by
  have h1 : 1 % 2 ^ f.width = 1 := Nat.mod_eq_of_lt (Nat.one_lt_two_pow (by omega))
  simp only [Dev.on, Dev.raise, rd_wr_self, h1]; rfl

theorem on_clear (d : Dev) (f : Fld) : (d.clear f).on f = false := by
  simp [Dev.on, Dev.clear, rd_wr_self]

/-- A saturating counter adds, and stops at the largest value its field holds (R111, R145). -/
theorem rd_add_self (d : Dev) (f : Fld) (n : Nat) : (d.add f n).rd f = min (d.rd f + n) (2 ^ f.width - 1) :=
  rd_wr_fit _ (by have := Nat.two_pow_pos f.width; omega)

/-- A saturating counter never falls while it holds a value its field can hold. -/
theorem rd_add_ge (d : Dev) (f : Fld) (n : Nat) (h : d.rd f < 2 ^ f.width) : d.rd f ≤ (d.add f n).rd f := by
  rw [rd_add_self]; omega

theorem rd_incWrap_self (d : Dev) (f : Fld) : (d.incWrap f).rd f = (d.rd f + 1) % 2 ^ f.width := rd_wr_self ..

/-- The register file keeps its canonical form. -/
theorem wr_wf (d : Dev) (f : Fld) (v : Nat) (h : SMap.wf resetVal d.regs = true) : SMap.wf resetVal (d.wr f v).regs = true :=
  SMap.wf_set _ _ _ _ h

/-! ## Tables -/

@[simp] theorem gc_setGc (d : Dev) (n : Nat) (g : Gc) : (d.setGc n g).gc n = g := SMap.get_set_self ..
@[simp] theorem pair_setPair (d : Dev) (p : Nat) (x : Pair) : (d.setPair p x).pair p = x := SMap.get_set_self ..
@[simp] theorem comp_setComp (d : Dev) (n : Nat) (c : Comp) : (d.setComp n c).comp n = c := SMap.get_set_self ..
@[simp] theorem fn_setFn (d : Dev) (f : Nat) (x : Fn) : (d.setFn f x).fn f = x := SMap.get_set_self ..
@[simp] theorem input_setInput (d : Dev) (k : Nat) (x : Inp) : (d.setInput k x).input k = x := SMap.get_set_self ..

theorem gc_setGc_ne (d : Dev) {n m : Nat} (g : Gc) (h : n ≠ m) : (d.setGc n g).gc m = d.gc m := SMap.get_set_ne _ _ _ h
theorem pair_setPair_ne (d : Dev) {p q : Nat} (x : Pair) (h : p ≠ q) : (d.setPair p x).pair q = d.pair q := SMap.get_set_ne _ _ _ h
theorem comp_setComp_ne (d : Dev) {n m : Nat} (c : Comp) (h : n ≠ m) : (d.setComp n c).comp m = d.comp m := SMap.get_set_ne _ _ _ h
theorem fn_setFn_ne (d : Dev) {f g : Nat} (x : Fn) (h : f ≠ g) : (d.setFn f x).fn g = d.fn g := SMap.get_set_ne _ _ _ h
theorem input_setInput_ne (d : Dev) {k j : Nat} (x : Inp) (h : k ≠ j) : (d.setInput k x).input j = d.input j := SMap.get_set_ne _ _ _ h

/-! ## Admission to the Pilot cores (R37) -/

/-- A submission is refused with only its count kept, or binds the task to the lowest core with room, from the next frame to that of its last
slice (R37, R40). -/
theorem submit_cases (d : Dev) (of : TaskOf) (cost total : Nat) :
    (d.coreFor cost = none ∧ d.submit of cost total = (false, d.tally 263 1))
    ∨ ∃ c, d.coreFor cost = some c ∧
        d.submit of cost total = (true, ({ d with tasks := d.tasks ++ [({
          of := of, core := c, cost := cost, start := d.frame + 1, last := d.frame + Dev.sliceFrames cost total } : Task)] }.showLoads).tally 262 1) := by
  unfold Dev.submit
  cases h : d.coreFor cost with
  | none => exact .inl ⟨rfl, rfl⟩
  | some c => exact .inr ⟨c, rfl, rfl⟩

/-- The core that takes a task had room for it. -/
theorem coreFor_room {d : Dev} {cost c : Nat} (h : d.coreFor cost = some c) : c < 4 ∧ d.pilotLoad c + cost ≤ 1200 := by
  have hp := List.find?_some h
  have hm := List.mem_of_find?_eq_some h
  exact ⟨List.mem_range.mp hm, of_decide_eq_true hp⟩

/-! ## Descriptors and operations (R273) -/

/-- A command runs its body on the device that took it up and enters one operation, or stays where it was taken up. -/
theorem command_cases (d : Dev) (x : Desc) (o : Nat) (p : Bool) (body : Dev → Ans × Dev) :
    ((d.takeUp x o p).1 = true ∧
      d.command x o p body = (body (d.takeUp x o p).2).2.enterOp x o (body (d.takeUp x o p).2).1)
    ∨ ((d.takeUp x o p).1 = false ∧ d.command x o p body = (d.takeUp x o p).2) := by
  unfold Dev.command
  cases h : (d.takeUp x o p).1
  · exact .inr ⟨rfl, by simp [h]⟩
  · exact .inl ⟨rfl, by simp [h]⟩

/-- The same for a command that reaches HOME or the OTP array. -/
theorem state_command_cases (s : State) (x : Desc) (o : Nat) (p : Bool) (body : State → Ans × State) :
    ((s.dev.takeUp x o p).1 = true ∧
      s.command x o p body =
        (body { s with dev := (s.dev.takeUp x o p).2 }).2.onDev fun d => d.enterOp x o (body { s with dev := (s.dev.takeUp x o p).2 }).1)
    ∨ ((s.dev.takeUp x o p).1 = false ∧ s.command x o p body = { s with dev := (s.dev.takeUp x o p).2 }) := by
  unfold State.command
  cases h : (s.dev.takeUp x o p).1
  · exact .inr ⟨rfl, by simp [h]⟩
  · exact .inl ⟨rfl, by simp [h, State.onDev]⟩

/-- A port that may not issue, or a descriptor that must wait, changes nothing. -/
theorem takeUp_waits {d : Dev} {x : Desc} {o : Nat} {p : Bool} (h : d.canIssue x.ref = false ∨ d.mustWait x o = true) :
    d.takeUp x o p = (false, d) := by
  unfold Dev.takeUp; rcases h with h | h <;> simp [h]

/-- An operation joins the end of the list with its answer. -/
theorem enterOp_ops (d : Dev) (x : Desc) (o : Nat) (a : Ans) :
    ∃ y : Op, y.ref = x.ref ∧ y.opcode = o ∧ y.status = a.status ∧ y.work = a.work ∧
      d.enterOp x o a = { d with ops := d.ops ++ [y] } :=
  ⟨_, rfl, rfl, rfl, rfl, rfl⟩

/-- An answer reaches only operations of its own reference that have none. -/
theorem answerOp_other (d : Dev) (r : OpRef) (a : Ans) {o : Op} (ho : o ∈ d.ops) (h : o.ref ≠ r ∨ o.status.isNone = false) :
    o ∈ (d.answerOp r a).ops := by
  refine List.mem_map.mpr ⟨o, ho, ?_⟩
  rcases h with h | h <;> simp [h]

/-! ## HOME flash (R313, R314) -/

namespace SMap

variable {α : Type}

theorem sortedFrom_filter (m : List (Nat × α)) (p : Nat × α → Bool) (b : Nat) (hs : sortedFrom b m = true) :
    sortedFrom b (m.filter p) = true := by
  induction m generalizing b with
  | nil => rfl
  | cons e m ih =>
    obtain ⟨j, w⟩ := e
    simp only [sortedFrom, Bool.and_eq_true, decide_eq_true_eq] at hs
    by_cases h : p (j, w) = true
    · simp [List.filter, h, sortedFrom, hs.1, ih _ hs.2]
    · simp only [List.filter, h]
      exact sortedFrom_mono _ (by omega) (ih _ hs.2)

/-- Taking entries off keeps the canonical form. -/
theorem wf_filter [DecidableEq α] (dflt : Nat → α) (m : List (Nat × α)) (p : Nat × α → Bool) (h : wf dflt m = true) :
    wf dflt (m.filter p) = true := by
  simp only [wf, Bool.and_eq_true, List.all_eq_true, decide_eq_true_eq] at *
  exact ⟨sortedFrom_filter _ _ _ h.1, fun e he => h.2 e (List.mem_filter.mp he).1⟩

/-- So does writing a list of entries. -/
theorem wf_foldl_set [DecidableEq α] {β : Type} (dflt : Nat → α) (key : β → Nat) (val : β → α) (l : List β)
    (m : List (Nat × α)) (h : wf dflt m = true) :
    wf dflt (l.foldl (fun m e => set dflt m (key e) (val e)) m) = true := by
  induction l generalizing m with
  | nil => exact h
  | cons e l ih => exact ih _ (wf_set _ _ _ _ h)

/-- A key that a filter drops reads as unlisted, and one that it keeps reads as before. -/
theorem get_filter (dflt : Nat → α) (m : List (Nat × α)) (p : Nat → Bool) (k : Nat) :
    get dflt (m.filter fun e => p e.1) k = if p k then get dflt m k else dflt k := by
  induction m with
  | nil => simp [get]
  | cons e m ih =>
    obtain ⟨j, w⟩ := e
    by_cases hp : p j = true
    · by_cases hj : j = k
      · subst hj; simp [List.filter, hp, get]
      · simp [List.filter, hp, get, hj, ih]
    · by_cases hj : j = k
      · subst hj; simp [List.filter, hp, ih]
      · simp [List.filter, hp, get, hj, ih]

end SMap

/-- What a byte of HOME reads as. -/
abbrev State.homeByte (s : State) (a : Nat) : Byte := SMap.get (fun _ => (0xFF : Byte)) s.home a

/-- The canonical form of HOME, as a Bool. -/
abbrev State.homeWf (s : State) : Bool := SMap.wf (fun _ => (0xFF : Byte)) s.home

theorem homeErase_byte (s : State) (a n k : Nat) :
    (s.homeErase a n).homeByte k = if a ≤ k ∧ k < a + n then 0xFF else s.homeByte k := by
  show SMap.get _ (s.home.filter fun e => !(decide (a ≤ e.1 ∧ e.1 < a + n))) k = _
  rw [SMap.get_filter _ _ (fun i => !(decide (a ≤ i ∧ i < a + n)))]
  by_cases h : a ≤ k ∧ k < a + n
  · simp [h]
  · simp only [h, decide_false, Bool.not_false, if_true, if_false]

/-- A program leaves every byte outside its range. -/
theorem homeProgram_outside (b : Bytes) (s : State) (a k : Nat) (h : k < a ∨ a + b.length ≤ k) :
    (s.homeProgram a b).homeByte k = s.homeByte k := by
  induction b generalizing s a with
  | nil => rfl
  | cons x b ih =>
    rw [State.homeProgram, ih _ _ (by simp only [List.length_cons] at h; omega)]
    exact SMap.get_set_ne _ _ _ (by simp only [List.length_cons] at h; omega)

/-- A program leaves everything but HOME. -/
theorem homeProgram_rest (b : Bytes) (s : State) (a : Nat) :
    (s.homeProgram a b).dev = s.dev ∧ (s.homeProgram a b).otp = s.otp ∧ (s.homeProgram a b).pending = s.pending := by
  induction b generalizing s a with
  | nil => exact ⟨rfl, rfl, rfl⟩
  | cons x b ih => exact ih _ _

/-- A store leaves every byte of HOME outside what it erases and programs. -/
theorem homeStore_outside (s : State) (a n : Nat) (b : Bytes) (k : Nat) (h : k < a ∨ (a + n ≤ k ∧ a + b.length ≤ k)) :
    (s.homeStore a n b).homeByte k = s.homeByte k := by
  show ((s.homeErase a n).homeProgram a b).homeByte k = _
  rw [homeProgram_outside _ _ _ _ (by omega), homeErase_byte, if_neg (by omega)]

/-- A store leaves the OTP array and the queue. -/
theorem homeStore_rest (s : State) (a n : Nat) (b : Bytes) :
    (s.homeStore a n b).otp = s.otp ∧ (s.homeStore a n b).pending = s.pending :=
  (homeProgram_rest b (s.homeErase a n) a).2

theorem homeErase_wf (s : State) (a n : Nat) (h : s.homeWf = true) : (s.homeErase a n).homeWf = true :=
  SMap.wf_filter _ _ _ h

theorem homeProgram_wf (b : Bytes) (s : State) (a : Nat) (h : s.homeWf = true) : (s.homeProgram a b).homeWf = true := by
  induction b generalizing s a with
  | nil => exact h
  | cons x b ih => exact ih _ _ (SMap.wf_set _ _ _ _ h)

theorem homeStore_wf (s : State) (a n : Nat) (b : Bytes) (h : s.homeWf = true) : (s.homeStore a n b).homeWf = true :=
  homeProgram_wf b _ a (homeErase_wf s a n h)

theorem homeWrite_wf (s : State) (good : Bool) (a n : Nat) (b : Bytes) (h : s.homeWf = true) :
    (s.homeWrite good a n b).homeWf = true := by
  unfold State.homeWrite
  split
  · exact homeStore_wf _ _ _ _ h
  · exact homeStore_wf _ _ _ _ h

theorem homeCopy_wf (s : State) (src dst n : Nat) (h : s.homeWf = true) : (s.homeCopy src dst n).homeWf = true :=
  SMap.wf_foldl_set _ (fun e : Nat × Byte => e.1 - src + dst) Prod.snd _ _ (homeErase_wf s dst n h)

/-! ## The OTP array (R351) -/

@[simp] theorem word_setWord (s : State) (w : Nat) (x : OtpWord) : (s.setWord w x).word w = x := SMap.get_set_self ..

theorem word_setWord_ne (s : State) {w v : Nat} (x : OtpWord) (h : w ≠ v) : (s.setWord w x).word v = s.word v :=
  SMap.get_set_ne _ _ _ h

end Sys2Proof.Machine
end

