-- ==== Sys2Proof/Laws/PerInstr.lean ====
section
/-! SUPPORT. Per command: the descriptor of a well-formed command is well formed. -/

namespace Sys2Proof.Laws.Carries

open Machine

/-- What the family says of a command: if it is well formed, so is the descriptor that it brings. -/
def Statement (i : Instr) : Prop := i.wf = true → ∀ x, i.desc = some x → x.wf = true

theorem powerOnReset (straps : Straps) (x : BootIn) : Statement (.powerOnReset straps x) := fun _ _ e => by cases e
theorem pwrGoodQualifyingLow (ns : Nat) : Statement (.pwrGoodQualifyingLow ns) := fun _ _ e => by cases e
theorem deviceReset (x : Option Desc) (b : BootIn) : Statement (.deviceReset x b) := fun h _ e => by cases e; exact (Bool.and_eq_true_iff.mp h).1
theorem pilotReset : Statement (.pilotReset) := fun _ _ e => by cases e
theorem pilotStart (x : PilotIn) : Statement (.pilotStart x) := fun _ _ e => by cases e
theorem frameTick (x : TickIn) : Statement (.frameTick x) := fun _ _ e => by cases e
theorem inputLevelChange (k : Fin 99) : Statement (.inputLevelChange k) := fun _ _ e => by cases e
theorem inputChatter (k : Fin 99) : Statement (.inputChatter k) := fun _ _ e => by cases e
theorem inputStuck (k : Fin 99) : Statement (.inputStuck k) := fun _ _ e => by cases e
theorem icChatterClear (k : Fin 99) : Statement (.icChatterClear k) := fun _ _ e => by cases e
theorem frameCntLowRead (port : Port) : Statement (.frameCntLowRead port) := fun _ _ e => by cases e
theorem registerWrite (port : Port) (a : BitVec 26) (wide : Bool) (v : DWord) (good : Bool) : Statement (.registerWrite port a wide v good) := fun _ _ e => by cases e
theorem unsupportedAccess (f : Fin 256) (a : BitVec 26) : Statement (.unsupportedAccess f a) := fun _ _ e => by cases e
theorem cryptoBusError (parity : Bool) : Statement (.cryptoBusError parity) := fun _ _ e => by cases e
theorem offAccess (port : Port) (a size : Nat) (write : Bool) : Statement (.offAccess port a size write) := fun _ _ e => by cases e
theorem pilotTaskSubmit (id cost total : Nat) : Statement (.pilotTaskSubmit id cost total) := fun _ _ e => by cases e
theorem enable (c : Cell) (firmware : Bool) : Statement (.enable c firmware) := fun _ _ e => by cases e
theorem disable (c : Cell) : Statement (.disable c) := fun _ _ e => by cases e
theorem cellReset (c : Cell) : Statement (.cellReset c) := fun _ _ e => by cases e
theorem cellCmdUnsupported (c : Cell) : Statement (.cellCmdUnsupported c) := fun _ _ e => by cases e
theorem domainSwitchClose : Statement (.domainSwitchClose) := fun _ _ e => by cases e
theorem startSequenceComplete (c : Cell) (x : StartIn) : Statement (.startSequenceComplete c x) := fun _ _ e => by cases e
theorem startFail (c : Cell) : Statement (.startFail c) := fun _ _ e => by cases e
theorem drainComplete (c : Cell) : Statement (.drainComplete c) := fun _ _ e => by cases e
theorem drainLimit (c : Cell) : Statement (.drainLimit c) := fun _ _ e => by cases e
theorem dqsRetrain (p : Fin 48) (c : Fin 2) (pass : Bool) : Statement (.dqsRetrain p c pass) := fun _ _ e => by cases e
theorem zqRecalibration (p : Fin 48) (code : Byte) (idle : Bool) : Statement (.zqRecalibration p code idle) := fun _ _ e => by cases e
theorem bistRun (c : Cell) : Statement (.bistRun c) := fun _ _ e => by cases e
theorem bistEnd (c : Cell) (misr : DWord) : Statement (.bistEnd c misr) := fun _ _ e => by cases e
theorem bistBudgetExpiry (c : Cell) : Statement (.bistBudgetExpiry c) := fun _ _ e => by cases e
theorem read (t : UpTx) (a : BitVec 32) (flash : Bytes) (ecc : Option EccHit) : Statement (.read t a flash ecc) := fun _ _ e => by cases e
theorem fourByteRead (t : UpTx) (a : BitVec 32) (flash : Bytes) (ecc : Option EccHit) : Statement (.fourByteRead t a flash ecc) := fun _ _ e => by cases e
theorem fastRead (t : UpTx) (a : BitVec 32) (flash : Bytes) (ecc : Option EccHit) : Statement (.fastRead t a flash ecc) := fun _ _ e => by cases e
theorem fourByteFastRead (t : UpTx) (a : BitVec 32) (flash : Bytes) (ecc : Option EccHit) : Statement (.fourByteFastRead t a flash ecc) := fun _ _ e => by cases e
theorem quadOutputRead (t : UpTx) (a : BitVec 32) (flash : Bytes) (ecc : Option EccHit) : Statement (.quadOutputRead t a flash ecc) := fun _ _ e => by cases e
theorem fourByteQuadOutputRead (t : UpTx) (a : BitVec 32) (flash : Bytes) (ecc : Option EccHit) : Statement (.fourByteQuadOutputRead t a flash ecc) := fun _ _ e => by cases e
theorem quadIoRead (t : UpTx) (a : BitVec 32) (m : Byte) (flash : Bytes) (ecc : Option EccHit) : Statement (.quadIoRead t a m flash ecc) := fun _ _ e => by cases e
theorem fourByteQuadIoRead (t : UpTx) (a : BitVec 32) (m : Byte) (flash : Bytes) (ecc : Option EccHit) : Statement (.fourByteQuadIoRead t a m flash ecc) := fun _ _ e => by cases e
theorem dtrQuadIoRead (t : UpTx) (a : BitVec 32) (m : Byte) (flash : Bytes) (ecc : Option EccHit) : Statement (.dtrQuadIoRead t a m flash ecc) := fun _ _ e => by cases e
theorem octalDtrRead (t : UpTx) (a : BitVec 32) (m : Byte) (flash : Bytes) (ecc : Option EccHit) : Statement (.octalDtrRead t a m flash ecc) := fun _ _ e => by cases e
theorem continuousRead (t : UpTx) (a : BitVec 32) (m : Byte) (flash : Bytes) (ecc : Option EccHit) : Statement (.continuousRead t a m flash ecc) := fun _ _ e => by cases e
theorem pageProgram (t : UpTx) (a : BitVec 32) (data : Bytes) : Statement (.pageProgram t a data) := fun _ _ e => by cases e
theorem fourBytePageProgram (t : UpTx) (a : BitVec 32) (data : Bytes) : Statement (.fourBytePageProgram t a data) := fun _ _ e => by cases e
theorem quadInputPageProgram (t : UpTx) (a : BitVec 32) (data : Bytes) : Statement (.quadInputPageProgram t a data) := fun _ _ e => by cases e
theorem fourByteQuadInputPageProgram (t : UpTx) (a : BitVec 32) (data : Bytes) : Statement (.fourByteQuadInputPageProgram t a data) := fun _ _ e => by cases e
theorem quadIoPageProgram (t : UpTx) (a : BitVec 32) (data : Bytes) : Statement (.quadIoPageProgram t a data) := fun _ _ e => by cases e
theorem fourByteQuadIoPageProgram (t : UpTx) (a : BitVec 32) (data : Bytes) : Statement (.fourByteQuadIoPageProgram t a data) := fun _ _ e => by cases e
theorem erase4Kib (t : UpTx) (a : BitVec 32) : Statement (.erase4Kib t a) := fun _ _ e => by cases e
theorem fourByteErase4Kib (t : UpTx) (a : BitVec 32) : Statement (.fourByteErase4Kib t a) := fun _ _ e => by cases e
theorem erase32Kib (t : UpTx) (a : BitVec 32) : Statement (.erase32Kib t a) := fun _ _ e => by cases e
theorem fourByteErase32Kib (t : UpTx) (a : BitVec 32) : Statement (.fourByteErase32Kib t a) := fun _ _ e => by cases e
theorem erase64Kib (t : UpTx) (a : BitVec 32) : Statement (.erase64Kib t a) := fun _ _ e => by cases e
theorem fourByteErase64Kib (t : UpTx) (a : BitVec 32) : Statement (.fourByteErase64Kib t a) := fun _ _ e => by cases e
theorem chipErase (t : UpTx) : Statement (.chipErase t) := fun _ _ e => by cases e
theorem chipEraseC7 (t : UpTx) : Statement (.chipEraseC7 t) := fun _ _ e => by cases e
theorem readStatusRegister (t : UpTx) (len : Nat) : Statement (.readStatusRegister t len) := fun _ _ e => by cases e
theorem readFlagStatusRegister (t : UpTx) (len : Nat) : Statement (.readFlagStatusRegister t len) := fun _ _ e => by cases e
theorem clearFlagStatusRegister (t : UpTx) : Statement (.clearFlagStatusRegister t) := fun _ _ e => by cases e
theorem writeEnable (t : UpTx) : Statement (.writeEnable t) := fun _ _ e => by cases e
theorem writeDisable (t : UpTx) : Statement (.writeDisable t) := fun _ _ e => by cases e
theorem readId (t : UpTx) (len : Nat) : Statement (.readId t len) := fun _ _ e => by cases e
theorem readSfdp (t : UpTx) (a : BitVec 24) (len : Nat) : Statement (.readSfdp t a len) := fun _ _ e => by cases e
theorem setBurstWithWrap (t : UpTx) (data : Byte) : Statement (.setBurstWithWrap t data) := fun _ _ e => by cases e
theorem resetEnable (t : UpTx) : Statement (.resetEnable t) := fun _ _ e => by cases e
theorem reset (t : UpTx) : Statement (.reset t) := fun _ _ e => by cases e
theorem enter4ByteAddressMode (t : UpTx) : Statement (.enter4ByteAddressMode t) := fun _ _ e => by cases e
theorem exit4ByteAddressMode (t : UpTx) : Statement (.exit4ByteAddressMode t) := fun _ _ e => by cases e
theorem writeStatusRegister (t : UpTx) (a : BitVec 32) (data : Byte) : Statement (.writeStatusRegister t a data) := fun _ _ e => by cases e
theorem writeVolatileConfigurationRegister (t : UpTx) (a : BitVec 32) (data : Byte) : Statement (.writeVolatileConfigurationRegister t a data) := fun _ _ e => by cases e
theorem writeStatusRegister2 (t : UpTx) (data : Byte) : Statement (.writeStatusRegister2 t data) := fun _ _ e => by cases e
theorem writeNonvolatileConfigRegister (t : UpTx) (a : BitVec 32) (data : Byte) : Statement (.writeNonvolatileConfigRegister t a data) := fun _ _ e => by cases e
theorem programSecurityRegisters (t : UpTx) (a : BitVec 32) (data : Bytes) : Statement (.programSecurityRegisters t a data) := fun _ _ e => by cases e
theorem eraseSecurityRegisters (t : UpTx) (a : BitVec 32) : Statement (.eraseSecurityRegisters t a) := fun _ _ e => by cases e
theorem modeSwitch (t : UpTx) (a : BitVec 32) (data : Bytes) : Statement (.modeSwitch t a data) := fun _ _ e => by cases e
theorem unsupportedOpcode (t : UpTx) (opc : Byte) : Statement (.unsupportedOpcode t opc) := fun _ _ e => by cases e
theorem downstreamOpComplete (n : Fin 96) (failed : Bool) : Statement (.downstreamOpComplete n failed) := fun _ _ e => by cases e
theorem dnTimeout (n : Fin 96) : Statement (.dnTimeout n) := fun _ _ e => by cases e
theorem completionFetch (n : Fin 96) (e : Fin 32) (b : Bytes) : Statement (.completionFetch n e b) := fun _ _ e => by cases e
theorem checkResult (n : Fin 96) (e : Fin 32) : Statement (.checkResult n e) := fun _ _ e => by cases e
theorem horizonExpiry (n : Fin 96) (e : Fin 32) : Statement (.horizonExpiry n e) := fun _ _ e => by cases e
theorem containmentReleaseFall (n : Fin 96) (csHigh : Bool) : Statement (.containmentReleaseFall n csHigh) := fun _ _ e => by cases e
theorem containedThawRequest (n : Fin 96) : Statement (.containedThawRequest n) := fun _ _ e => by cases e
theorem verifyStreamRead (n : Fin 96) (b : Bytes) : Statement (.verifyStreamRead n b) := fun _ _ e => by cases e
theorem pinFetch (n : Fin 96) (b : Bytes) : Statement (.pinFetch n b) := fun _ _ e => by cases e
theorem refetch (n : Fin 96) (g : Fin 131072) (b : Bytes) : Statement (.refetch n g b) := fun _ _ e => by cases e
theorem prefetchComplete (n : Fin 96) (g : Fin 131072) (b : Bytes) : Statement (.prefetchComplete n g b) := fun _ _ e => by cases e
theorem goldenAudit (n : Fin 96) : Statement (.goldenAudit n) := fun _ _ e => by cases e
theorem startTick (oxms : List (Fin 96 × Bytes)) : Statement (.startTick oxms) := fun _ _ e => by cases e
theorem componentRelease (n : Fin 96) : Statement (.componentRelease n) := fun _ _ e => by cases e
theorem minHoldExpiry (n : Fin 96) : Statement (.minHoldExpiry n) := fun _ _ e => by cases e
theorem thawPassEnd (n : Fin 96) (units : List UnitIn) (erase64 : Bool) (flash : Bytes) (stored : Bool) : Statement (.thawPassEnd n units erase64 flash stored) := fun _ _ e => by cases e
theorem revocationExamination : Statement (.revocationExamination) := fun _ _ e => by cases e
theorem compHold (x : Desc) : Statement (.compHold x) := fun h _ e => by cases e; exact h
theorem compRelease (x : Desc) : Statement (.compRelease x) := fun h _ e => by cases e; exact h
theorem compReverify (x : Desc) (flash : Bytes) : Statement (.compReverify x flash) := fun h _ e => by cases e; exact h
theorem compThaw (x : Desc) : Statement (.compThaw x) := fun h _ e => by cases e; exact h
theorem compImageWrite (x : Desc) (oxm : Bytes) : Statement (.compImageWrite x oxm) := fun h _ e => by cases e; exact (Bool.and_eq_true_iff.mp h).1
theorem imageWriteComplete (n : Fin 96) (erase64 : Bool) (units sectors : List Bytes) (flash : Bytes) : Statement (.imageWriteComplete n erase64 units sectors flash) := fun _ _ e => by cases e
theorem compSvnCommit (x : Desc) : Statement (.compSvnCommit x) := fun h _ e => by cases e; exact h
theorem compForceRelease (x : Desc) : Statement (.compForceRelease x) := fun h _ e => by cases e; exact h
theorem policyLoad (x : Desc) (oxms : List (Fin 96 × Bytes)) : Statement (.policyLoad x oxms) := fun h _ e => by cases e; exact h
theorem policyRead (x : Desc) : Statement (.policyRead x) := fun h _ e => by cases e; exact h
theorem policyStore (good : Bool) : Statement (.policyStore good) := fun _ _ e => by cases e
theorem policySwap (n : Fin 96) (flash : Bytes) : Statement (.policySwap n flash) := fun _ _ e => by cases e
theorem disagreeHold (p : Fin 48) : Statement (.disagreeHold p) := fun _ _ e => by cases e
theorem digest (x : Desc) (expect : Bytes) : Statement (.digest x expect) := fun h _ e => by cases e; exact (Bool.and_eq_true_iff.mp h).1
theorem digestInit (x : Desc) : Statement (.digestInit x) := fun h _ e => by cases e; exact h
theorem digestUpdate (x : Desc) : Statement (.digestUpdate x) := fun h _ e => by cases e; exact h
theorem digestFinal (x : Desc) (expect : Bytes) : Statement (.digestFinal x expect) := fun h _ e => by cases e; exact (Bool.and_eq_true_iff.mp h).1
theorem ctxExport (x : Desc) : Statement (.ctxExport x) := fun h _ e => by cases e; exact h
theorem ctxImport (x : Desc) : Statement (.ctxImport x) := fun h _ e => by cases e; exact h
theorem ctxDestroy (x : Desc) : Statement (.ctxDestroy x) := fun h _ e => by cases e; exact h
theorem contextAutoImport (h : BitVec 32) (record : Bytes) : Statement (.contextAutoImport h record) := fun _ _ e => by cases e
theorem noContextTimeout (h : BitVec 32) : Statement (.noContextTimeout h) := fun _ _ e => by cases e
theorem kdf (x : Desc) : Statement (.kdf x) := fun h _ e => by cases e; exact h
theorem ksGenerate (x : Desc) (pairwise : Bool) : Statement (.ksGenerate x pairwise) := fun h _ e => by cases e; exact h
theorem ksUnwrap (x : Desc) : Statement (.ksUnwrap x) := fun h _ e => by cases e; exact h
theorem ksWrap (x : Desc) : Statement (.ksWrap x) := fun h _ e => by cases e; exact h
theorem ksErase (x : Desc) : Statement (.ksErase x) := fun h _ e => by cases e; exact h
theorem ksAssign (x : Desc) : Statement (.ksAssign x) := fun h _ e => by cases e; exact h
theorem keyLoad : Statement (.keyLoad) := fun _ _ e => by cases e
theorem aesGcmEnc (x : Desc) : Statement (.aesGcmEnc x) := fun h _ e => by cases e; exact h
theorem aesGcmDec (x : Desc) : Statement (.aesGcmDec x) := fun h _ e => by cases e; exact h
theorem sigSign (x : Desc) : Statement (.sigSign x) := fun h _ e => by cases e; exact h
theorem sigVerify (x : Desc) (pk sig : Bytes) : Statement (.sigVerify x pk sig) := fun h _ e => by cases e; exact (Bool.and_eq_true_iff.mp (Bool.and_eq_true_iff.mp h).1).1
theorem rngGet (x : Desc) : Statement (.rngGet x) := fun h _ e => by cases e; exact h
theorem cryptoSelftest (x : Desc) (failed : BitVec 16) : Statement (.cryptoSelftest x failed) := fun h _ e => by cases e; exact h
theorem operationComplete (r : OpRef) : Statement (.operationComplete r) := fun _ _ e => by cases e
theorem squallSelftestDone (failed : BitVec 11) : Statement (.squallSelftestDone failed) := fun _ _ e => by cases e
theorem clockVoltageExcursion (kind : Fin 3) : Statement (.clockVoltageExcursion kind) := fun _ _ e => by cases e
theorem rngHealthFail (apt : Bool) : Statement (.rngHealthFail apt) := fun _ _ e => by cases e
theorem drbgReseed : Statement (.drbgReseed) := fun _ _ e => by cases e
theorem functionEnable (f : Fin 256) : Statement (.functionEnable f) := fun _ _ e => by cases e
theorem functionDisable (f : Fin 256) : Statement (.functionDisable f) := fun _ _ e => by cases e
theorem ringEnable (f : Fin 256) (entry : BitVec 384) (line : BitVec 512) (failAddr : Option Nat) : Statement (.ringEnable f entry line failAddr) := fun _ _ e => by cases e
theorem ringDisable (f : Fin 256) : Statement (.ringDisable f) := fun _ _ e => by cases e
theorem ringDrainComplete (f r : Fin 256) : Statement (.ringDrainComplete f r) := fun _ _ e => by cases e
theorem fnKick (f : Fin 256) : Statement (.fnKick f) := fun _ _ e => by cases e
theorem functionDrowsy (x : Scan) : Statement (.functionDrowsy x) := fun _ _ e => by cases e
theorem drowsyScan (f : Fin 256) (dbSeq : Word) : Statement (.drowsyScan f dbSeq) := fun _ _ e => by cases e
theorem flr (f : Fin 256) : Statement (.flr f) := fun _ _ e => by cases e
theorem busMasterEnableChange (f : Fin 256) (bme mse msix mask : Bool) : Statement (.busMasterEnableChange f bme mse msix mask) := fun _ _ e => by cases e
theorem msixUnmask (f v : Fin 256) : Statement (.msixUnmask f v) := fun _ _ e => by cases e
theorem hostMemory (f : Fin 256) (what : HostRead) (addr : BitVec 64) : Statement (.hostMemory f what addr) := fun _ _ e => by cases e
theorem perstNAssert : Statement (.perstNAssert) := fun _ _ e => by cases e
theorem perstNRelease : Statement (.perstNRelease) := fun _ _ e => by cases e
theorem nop (x : Desc) : Statement (.nop x) := fun h _ e => by cases e; exact h
theorem write32 (k : Fin 2) (whole : Bool) (a v : Word) (good : Bool) : Statement (.write32 k whole a v good) := fun _ _ e => by cases e
theorem write64 (k : Fin 2) (whole : Bool) (a : Word) (v : DWord) (good : Bool) : Statement (.write64 k whole a v good) := fun _ _ e => by cases e
theorem read32 (k : Fin 2) (whole : Bool) (a : Word) : Statement (.read32 k whole a) := fun _ _ e => by cases e
theorem read64 (k : Fin 2) (whole : Bool) (a : Word) : Statement (.read64 k whole a) := fun _ _ e => by cases e
theorem writeBlock (k : Fin 2) (whole : Bool) (a : Word) (ws : List Word) (good : Bool) : Statement (.writeBlock k whole a ws good) := fun _ _ e => by cases e
theorem windowStatus (k : Fin 2) : Statement (.windowStatus k) := fun _ _ e => by cases e
theorem mbxAppend (k : Fin 2) : Statement (.mbxAppend k) := fun _ _ e => by cases e
theorem mbxGo (k : Fin 2) : Statement (.mbxGo k) := fun _ _ e => by cases e
theorem mbxAbort (k : Fin 2) : Statement (.mbxAbort k) := fun _ _ e => by cases e
theorem mctpMessage (e : Fin 3) (type : Byte) (length : Nat) (inSequence : Bool) : Statement (.mctpMessage e type length inSequence) := fun _ _ e => by cases e
theorem setEndpointId (e : Fin 3) (eid : Byte) : Statement (.setEndpointId e eid) := fun _ _ e => by cases e
theorem getVersion (e : Fin 3) (sess : Option Nat) (h : ReqHead) : Statement (.getVersion e sess h) := fun _ _ e => by cases e
theorem getCapabilities (e : Fin 3) (sess : Option Nat) (h : ReqHead) (transfer : Nat) : Statement (.getCapabilities e sess h transfer) := fun _ _ e => by cases e
theorem negotiateAlgorithms (e : Fin 3) (sess : Option Nat) (h : ReqHead) (offers : Bool) : Statement (.negotiateAlgorithms e sess h offers) := fun _ _ e => by cases e
theorem getDigests (e : Fin 3) (sess : Option Nat) (h : ReqHead) (late : Bool) : Statement (.getDigests e sess h late) := fun _ _ e => by cases e
theorem getCertificate (e : Fin 3) (sess : Option Nat) (h : ReqHead) (slot offset len : Nat) (late : Bool) : Statement (.getCertificate e sess h slot offset len late) := fun _ _ e => by cases e
theorem challenge (e : Fin 3) (sess : Option Nat) (h : ReqHead) (slot type : Nat) (late : Bool) : Statement (.challenge e sess h slot type late) := fun _ _ e => by cases e
theorem getMeasurements (e : Fin 3) (sess : Option Nat) (h : ReqHead) (index : Byte) (signed late : Bool) (nonce : Bytes) : Statement (.getMeasurements e sess h index signed late nonce) := fun _ _ e => by cases e
theorem keyExchange (e : Fin 3) (sess : Option Nat) (h : ReqHead) (type : Nat) (late : Bool) : Statement (.keyExchange e sess h type late) := fun _ _ e => by cases e
theorem finish (e : Fin 3) (sess : Nat) (h : ReqHead) (verified late : Bool) : Statement (.finish e sess h verified late) := fun _ _ e => by cases e
theorem endSession (e : Fin 3) (sess : Nat) (h : ReqHead) : Statement (.endSession e sess h) := fun _ _ e => by cases e
theorem respondIfReady (e : Fin 3) (sess : Option Nat) (h : ReqHead) (ready : Bool) : Statement (.respondIfReady e sess h ready) := fun _ _ e => by cases e
theorem chunkSend (e : Fin 3) (sess : Option Nat) (h : ReqHead) (handle seq : Nat) (last : Bool) (large size : Nat) (data : Bytes) : Statement (.chunkSend e sess h handle seq last large size data) := fun _ _ e => by cases e
theorem chunkGet (e : Fin 3) (sess : Option Nat) (h : ReqHead) (handle seq : Nat) : Statement (.chunkGet e sess h handle seq) := fun _ _ e => by cases e
theorem unsupportedRequest (e : Fin 3) (sess : Option Nat) (h : ReqHead) : Statement (.unsupportedRequest e sess h) := fun _ _ e => by cases e
theorem sessionTimeout (e : Fin 3) (id : Nat) : Statement (.sessionTimeout e id) := fun _ _ e => by cases e
theorem chunkTimeout (e : Fin 3) : Statement (.chunkTimeout e) := fun _ _ e => by cases e
theorem measReport (x : Desc) : Statement (.measReport x) := fun h _ e => by cases e; exact h
theorem measRead (x : Desc) : Statement (.measRead x) := fun h _ e => by cases e; exact h
theorem certChainRead (x : Desc) : Statement (.certChainRead x) := fun h _ e => by cases e; exact h
theorem fwUpdate (x : Desc) (copied written : Bool) : Statement (.fwUpdate x copied written) := fun h _ e => by cases e; exact h
theorem fwStatus (x : Desc) : Statement (.fwStatus x) := fun h _ e => by cases e; exact h
theorem healthConfirm (home : Bool) : Statement (.healthConfirm home) := fun _ _ e => by cases e
theorem healthWindowEnd : Statement (.healthWindowEnd) := fun _ _ e => by cases e
theorem settingsSave : Statement (.settingsSave) := fun _ _ e => by cases e
theorem recStart : Statement (.recStart) := fun _ _ e => by cases e
theorem recPush (len : Fin 8192) : Statement (.recPush len) := fun _ _ e => by cases e
theorem recFinish (written : Bool) : Statement (.recFinish written) := fun _ _ e => by cases e
theorem recAbort : Statement (.recAbort) := fun _ _ e => by cases e
theorem recoverySourceTimeout : Statement (.recoverySourceTimeout) := fun _ _ e => by cases e
theorem bootSourceRetry : Statement (.bootSourceRetry) := fun _ _ e => by cases e
theorem relayData (r : Fin 2) (f : RFrame) (written : Bool) : Statement (.relayData r f written) := fun _ _ e => by cases e
theorem relayAck (r : Fin 2) (ack : BitVec 16) : Statement (.relayAck r ack) := fun _ _ e => by cases e
theorem relayNak (r : Fin 2) (seq : BitVec 16) (chunk : Option Nat) : Statement (.relayNak r seq chunk) := fun _ _ e => by cases e
theorem relayTime (r : Fin 2) (t1 t2 t3 t4 : BitVec 64) (err : BitVec 16) : Statement (.relayTime r t1 t2 t3 t4 err) := fun _ _ e => by cases e
theorem relayControl (r : Fin 2) (f : RFrame) : Statement (.relayControl r f) := fun _ _ e => by cases e
theorem relayRecover (r : Fin 2) (f : RFrame) : Statement (.relayRecover r f) := fun _ _ e => by cases e
theorem relayRetransmit (r : Fin 2) : Statement (.relayRetransmit r) := fun _ _ e => by cases e
theorem relayLinkChange (r : Fin 2) (link : Fin 3) (peer : Byte) (position : Option (Fin 64)) (units : Fin 256) : Statement (.relayLinkChange r link peer position units) := fun _ _ e => by cases e
theorem timeExchange : Statement (.timeExchange) := fun _ _ e => by cases e
theorem frontLaunch (x : Desc) : Statement (.frontLaunch x) := fun h _ e => by cases e; exact h
theorem frontStatus (x : Desc) : Statement (.frontStatus x) := fun h _ e => by cases e; exact h
theorem frontManifest (l : BitVec 64) : Statement (.frontManifest l) := fun _ _ e => by cases e
theorem frontChunk (good : Bool) (oxms : List (Fin 96 × Bytes)) : Statement (.frontChunk good oxms) := fun _ _ e => by cases e
theorem armed (k : Fin 64) : Statement (.armed k) := fun _ _ e => by cases e
theorem armedEvaluation : Statement (.armedEvaluation) := fun _ _ e => by cases e
theorem commit : Statement (.commit) := fun _ _ e => by cases e
theorem landfall : Statement (.landfall) := fun _ _ e => by cases e
theorem landed (k : Fin 64) : Statement (.landed k) := fun _ _ e => by cases e
theorem notHealthy (k : Fin 64) : Statement (.notHealthy k) := fun _ _ e => by cases e
theorem aborted (k : Fin 64) (st : Status) : Statement (.aborted k st) := fun _ _ e => by cases e
theorem landedDeadline : Statement (.landedDeadline) := fun _ _ e => by cases e
theorem settled : Statement (.settled) := fun _ _ e => by cases e
theorem abort (st : Status) : Statement (.abort st) := fun _ _ e => by cases e
theorem fellBack (k : Fin 64) : Statement (.fellBack k) := fun _ _ e => by cases e
theorem catchUp (good : Bool) : Statement (.catchUp good) := fun _ _ e => by cases e
theorem otpRead (x : Desc) : Statement (.otpRead x) := fun h _ e => by cases e; exact h
theorem otpProgram (x : Desc) : Statement (.otpProgram x) := fun h _ e => by cases e; exact h
theorem otpReburn (x : Desc) : Statement (.otpReburn x) := fun h _ e => by cases e; exact h
theorem otpLock (x : Desc) : Statement (.otpLock x) := fun h _ e => by cases e; exact h
theorem keyRevoke (x : Desc) : Statement (.keyRevoke x) := fun h _ e => by cases e; exact h
theorem lcTransition (x : Desc) : Statement (.lcTransition x) := fun h _ e => by cases e; exact h
theorem debugChallenge (x : Desc) : Statement (.debugChallenge x) := fun h _ e => by cases e; exact h
theorem debugResponse (x : Desc) : Statement (.debugResponse x) := fun h _ e => by cases e; exact h
theorem challengeExpiry : Statement (.challengeExpiry) := fun _ _ e => by cases e
theorem zeroise (x : Desc) : Statement (.zeroise x) := fun h _ e => by cases e; exact h
theorem otpRecheck (hi lo : Word) : Statement (.otpRecheck hi lo) := fun _ _ e => by cases e
theorem repairRetry : Statement (.repairRetry) := fun _ _ e => by cases e
theorem lcRepairRetry : Statement (.lcRepairRetry) := fun _ _ e => by cases e
theorem repairCtlGo : Statement (.repairCtlGo) := fun _ _ e => by cases e
theorem wdtArm : Statement (.wdtArm) := fun _ _ e => by cases e
theorem wdtService : Statement (.wdtService) := fun _ _ e => by cases e
theorem wdtCheckin (t : Fin 32) : Statement (.wdtCheckin t) := fun _ _ e => by cases e
theorem wdtWindowClose : Statement (.wdtWindowClose) := fun _ _ e => by cases e
theorem wdtHardTimer : Statement (.wdtHardTimer) := fun _ _ e => by cases e
theorem barographWrite (good : Bool) : Statement (.barographWrite good) := fun _ _ e => by cases e
theorem baroRead (x : Desc) : Statement (.baroRead x) := fun h _ e => by cases e; exact h
theorem baroClear (x : Desc) (good : Bool) : Statement (.baroClear x good) := fun h _ e => by cases e; exact h
theorem opSecondsAdvance : Statement (.opSecondsAdvance) := fun _ _ e => by cases e
theorem cntConfig (x : Desc) : Statement (.cntConfig x) := fun h _ e => by cases e; exact h
theorem cntSnapshot (x : Desc) : Statement (.cntSnapshot x) := fun h _ e => by cases e; exact h
theorem snapshotTake : Statement (.snapshotTake) := fun _ _ e => by cases e
theorem pairBind (x : Desc) : Statement (.pairBind x) := fun h _ e => by cases e; exact h
theorem vaultStatus (x : Desc) : Statement (.vaultStatus x) := fun h _ e => by cases e; exact h
theorem standbyReturn (x : Desc) (good : Bool) : Statement (.standbyReturn x good) := fun h _ e => by cases e; exact h
theorem checkpointWrite (good : Bool) : Statement (.checkpointWrite good) := fun _ _ e => by cases e
theorem dirtyMark : Statement (.dirtyMark) := fun _ _ e => by cases e
theorem heartbeatToggle : Statement (.heartbeatToggle) := fun _ _ e => by cases e
theorem releaseTristate : Statement (.releaseTristate) := fun _ _ e => by cases e
theorem returningEnd : Statement (.returningEnd) := fun _ _ e => by cases e
theorem takeoverReleaseSample (levels : BitVec 96) (rec : Option TkRec) (newer : Bool) : Statement (.takeoverReleaseSample levels rec newer) := fun _ _ e => by cases e
theorem takingComplete : Statement (.takingComplete) := fun _ _ e => by cases e
theorem takeoverHoldClear (n : Fin 96) : Statement (.takeoverHoldClear n) := fun _ _ e => by cases e
theorem drizzleEnter (x : Desc) (good : Bool) : Statement (.drizzleEnter x good) := fun h _ e => by cases e; exact h
theorem drizzleExit : Statement (.drizzleExit) := fun _ _ e => by cases e
theorem governorStepDown : Statement (.governorStepDown) := fun _ _ e => by cases e
theorem currentWarn : Statement (.currentWarn) := fun _ _ e => by cases e
theorem thermalShutdown : Statement (.thermalShutdown) := fun _ _ e => by cases e
theorem calCommit (written : Bool) : Statement (.calCommit written) := fun _ _ e => by cases e
theorem jtagInstruction (j : Jtag) : Statement (.jtagInstruction j) := fun _ _ e => by cases e
theorem relayBadCrc (r : Fin 2) (seq : BitVec 16) : Statement (.relayBadCrc r seq) := fun _ _ e => by cases e
theorem entropyStartUpTestDone : Statement (.entropyStartUpTestDone) := fun _ _ e => by cases e
theorem powerUpTestsDone (failed : BitVec 11) : Statement (.powerUpTestsDone failed) := fun _ _ e => by cases e
theorem thermalShutdownHalt : Statement (.thermalShutdownHalt) := fun _ _ e => by cases e
theorem vfEnableChange (en : Bool) (n : Fin 256) : Statement (.vfEnableChange en n) := fun _ _ e => by cases e
theorem otpPulseEnd (nrm hi lo : Bool) : Statement (.otpPulseEnd nrm hi lo) := fun _ _ e => by cases e

end Sys2Proof.Laws.Carries
end

