-- ==== Sys2Proof/Tests/Slice0.lean ====
section
/-! SUPPORT. Tests of the model's own: ill-formed commands that WellFormed refuses, and for every obligation with hypotheses a
state and operands that meet them, clause by clause. -/

namespace Sys2Proof.Tests

open Machine Reg

set_option Elab.async false

/-! ## Small states -/

def lk (d : Dev) (r : Fin 2) : Dev := (d.wr (RL_LINK r) 2).wr (CELL_STATE (Cell.offset (.relay r))) 2
def tx (q n : Nat) : TxFrame := ⟨⟨1, 3, q, 0, 0, 0, 0, [1]⟩, 0, n⟩
def run : Dev := { Dev.atReset with phase := .running, crypto := { Dev.atReset.crypto with seeded := true } }
def stOf (d : Dev) : State := { State.reset with dev := d }
def dsc (r : OpRef) (o par : Nat) (src : Bytes) (dst : Nat) : Desc :=
  ⟨r, BitVec.ofNat 512 (o + 2 ^ 32 * 5 + 2 ^ 128 * src.length + 2 ^ 160 * dst + 2 ^ 256 * par), [], [], src, none⟩
def fwd (o par : Nat) (src : Bytes) (dst : Nat) : Desc := dsc ⟨.fw, 0, 0⟩ o par src dst
def vq : Dev := run.wr OTP_STATUS_VQPS_OK 1
def otp (d : Dev) (l : List (Nat × OtpWord)) : State := { stOf d with otp := l }
def bw (v : Nat) : OtpWord := ⟨v, v, v⟩
def hd : Dev := run.wr CH_HEAD 1
def ix (d : Dev) (l : List Bytes) : Dev := { d with front := { d.front with inbox := l } }
def oxb : Bytes := leBytes 4 0x4D4F5846 ++ List.replicate 60 0
def act' (d : Dev) (c : Cell) : Dev := d.wr (CELL_STATE c.offset) 2
def reg (b l k : Nat) : Region := ⟨b, l, k, 0, 0⟩
def rec0 (k : Nat) : CompRec := ⟨0, 0, 100, 24, 0, 0, 0, 0, 0, 3, [1, 2, 3], 0xFF, 24, 8, 7, 0, 0, 0, 0, 0, [reg 0 0xFFFFFF k], [⟨0, 0xFFFFFF, 3⟩]⟩
def up0 (k m : Nat) : Dev :=
  { ((run.wr (COMP_STATUS_RELEASE 0) 1).wr (COMP_STATUS_STATE 0) 2).wr (UP_STATE_MODE 0 0) m |>.wr (UP_STATE_WEL 0 0) 1 |>.wr (UP_CFG_DENSITY_LOG2 0 0) 24 with gcs := [(0, { entry := some (rec0 k) })] }
def tx0 (opc : Byte) : UpTx := ⟨0, ~~~ opc, none, false⟩
def body : Bytes := leBytes 4 0x4C435846 ++ leBytes 2 1 ++ List.replicate (0xFFC - 6) 0
def pg : Bytes := body ++ leBytes 4 (crc32 body)
def sx : Straps := ⟨false, 0, false, 0, false⟩
def off0 : Dev := { ((Dev.atReset.wr (COMP_STATUS_RELEASE 4) 1).wr FS_FRAME_CNT 9) with phase := .off, tasks := [⟨.work 3, 0, 5, 0, 20⟩] }
def rr : Dev := { ((run.wr (COMP_STATUS_RELEASE 4) 1).wr FS_FRAME_CNT 9) with tasks := [⟨.work 3, 0, 5, 0, 20⟩], ops := [⟨⟨.fw,0,0⟩, 0x703, 0, false, false, none, 0, 0, 0, [], 0, 0, 0⟩] }
def cells (d : Dev) : Dev := (((act' d (.dn 0)) |> (act' · .digest)) |> (act' · .crypto)).wr CR_STATE 1
def b0 : Dev := (cells run).wr FS_FRAME_CNT 10
def dop (e : Bool) (fr : Nat) : Dev := { b0 with gcs := [(1, { op := some ⟨e, fr, false, []⟩ })] }
def pt0 : Part := ⟨true, 1, 0, 2048, 0x10000, 768, List.replicate 48 0⟩
def pd (k : Nat) : Pend := ⟨1, 0, 0, k, 64, [pt0], 4⟩
def pdv (k : Nat) (nodes : List Node) (frames : List Sys2Proof.Machine.Frame) : Dev :=
  { ((b0.wr (COMP_STATUS_STATE 1) 2).wr (COMP_STATUS_RELEASE 1) 1) with snow := { pend := [pd k], nodes := nodes, frames := frames }, gcs := [(1, { entry := some (rec0 1) })] }
def nd0 : Node := ⟨1, 0, List.replicate 48 0, 1, 0, 0, true, List.replicate 768 0⟩
def ndb : Node := ⟨1, 0, List.replicate 48 0, 1, 0, 0, true, List.replicate 768 1⟩
def fr0 (l : Nat) : Sys2Proof.Machine.Frame := ⟨1, 0, 0, .pending, (List.range l).map (fun i => (i, 0)), false⟩
def cfd : Dev := { pdv 0 [ndb] [fr0 2048] with gcs := [(1, { entry := some (rec0 1), fails := [⟨0, 0, 3, 7⟩], poisoned := true })] }
def polb : Bytes := List.replicate 0x15 0 ++ [2] ++ List.replicate 20 0
def sdv (k : Nat) (nodes : List Node) (frames : List Sys2Proof.Machine.Frame) (str : Option Stream) : Dev :=
  { (((act' b0 (.spBank 0)).wr (COMP_STATUS_STATE 1) k).wr (COMP_STATUS_RELEASE 1) 0) with snow := { nodes := nodes, frames := frames }, gcs := [(1, { entry := some (rec0 1), stream := str })], comps := [(1, { oxm := some ⟨0, 0, 0, 1, [pt0], []⟩ })] }
def svs (dn : Bool) : Stream := ⟨.verify, [(true, pt0)], 0, dn, false⟩
def rec2 : CompRec := { rec0 0 with regions := [reg 0 2047 0] }
def spin (nodes : List Node) : Dev := { sdv 2 nodes [] none with gcs := [(1, { entry := some rec2 })] } |>.wr (COMP_STATUS_READY 1) 1
def rfr : Sys2Proof.Machine.Frame := ⟨1, 0, 0, .refetch, [], false⟩
def pt1 : Part := { pt0 with len := 8192 }
def pfd (k : Nat) (nodes : List Node) : Dev := { (sdv 2 nodes [⟨1, 0, 0, .pinned, [], true⟩] none).wr (UP_CFG_DENSITY_LOG2 0 1) 24 with gcs := [(1, { entry := some (rec0 k), stream := none, lastGranule := some 0 })], comps := [(1, { oxm := some ⟨0, 0, 0, 1, [pt1], []⟩ })] }
def gad : Dev := { ((b0.wr (COMP_STATUS_STATE 1) 2).wr (COMP_STATUS_GOLDEN 1) 1) with started := true, gcs := [(1, { entry := some (rec0 1) })], comps := [(1, { golden := some ⟨1, 0, 0, 1, [pt0], []⟩ })] }
def rec9 : CompRec := { rec0 1 with regions := [reg 0 0xFFFFFF 1] }
def ow : Dev := { b0 with pol := { bytes := [1] } }
def cm (k : Nat) (hold : Nat) (rdy : Nat) : Dev := { ((b0.wr (COMP_STATUS_STATE 1) k).wr (COMP_STATUS_HOLD 1) hold).wr (COMP_STATUS_READY 1) rdy with gcs := [(1, { entry := some rec9 })] }
def rec8 : CompRec := { rec0 1 with densityLog2 := 16, regions := [⟨0, 0xFFFF, 1, 0, 1⟩] }
def th (k : Nat) (str : Option Stream) : Dev := { cm 4 0 0 with gcs := [(1, { entry := some rec8, thaw := some { pass := k }, stream := str })], comps := [(1, { golden := some ⟨1, 0, 0, 1, [pt0], []⟩ })] }
def th2 (w : Writes) : Dev := { cm 4 0 0 with gcs := [(1, { entry := some rec8, thaw := some ⟨2, w⟩ })], comps := [(1, { golden := some ⟨1, 0, 0, 1, [], []⟩ })] }
def unitIn (n : Nat) : UnitIn := ⟨List.replicate n 0, List.replicate n 0, []⟩
def th3 (w : Writes) (l : Nat) : Dev := { cm 4 0 0 with gcs := [(1, { entry := some { rec8 with oxmLoc := l }, thaw := some ⟨3, w⟩, stream := some ⟨.thaw3, [], 0, false, false⟩ })], comps := [(1, { golden := some ⟨1, 0, 0, 1, [pt0], [4, 5]⟩ })] }
def rv (k : Nat) : Dev := { cm k 0 1 with comps := [(1, { revoked := some 1, oxm := some ⟨1, 0, 1, 1, [pt0], []⟩ })] }
def wr0 (g : Bool) (n : Nat) (w : Writes) : ImgWrite := ⟨g, List.replicate 300 0, List.replicate 4096 0, n, ⟨.fw,0,0⟩, false, w, true⟩
def iw (g : Bool) (n : Nat) (w : Writes) : Dev := { cm 0 0 0 with gcs := [(1, { entry := some rec8, write := some (wr0 g n w) })], ops := [⟨⟨.fw,0,0⟩, 0x204, 0, false, false, none, 0, 0, 0, [], 0, 0, 0⟩] }
def pb : Bytes := List.replicate 40 0
def cr0 : Dev := ((act' (act' (act' (act' (b0.wr RNG_STATE 1) .ks) .aes) .se) .rng).wr SE_STATE 1)
def dpar (alg keyed keySlot total chunk outLen expectLen dest destSlot handle save : Nat) : Nat :=
  alg + 2 ^ 4 * keyed + 2 ^ 5 * dest + 2 ^ 8 * expectLen + 2 ^ 16 * outLen + 2 ^ 32 * keySlot + 2 ^ 48 * destSlot + 2 ^ 64 * total + 2 ^ 128 * chunk
    + 2 ^ 160 * handle + 2 ^ 192 * save
def vk (d : Dev) (s a t : Nat) : Dev := (((d.setKeyData s { bytes := List.replicate 32 5 }).wr (KS_SLOT_VALID s) 1).wr (KS_SLOT_ATTR s) a).wr (KS_SLOT_TYPE s) t
def c0 : Ctx := ⟨7, 0, 0, 1, false, 0, 0, 6, [], [1], 1, 512, .internal, false, 0, true⟩
def wc (c : Ctx) : Dev := { cr0 with crypto := { cr0.crypto with ctxs := [c] } }
def h7 (k s : Nat) : Nat := dpar 1 0 0 3 k 0 0 1 0 7 s
def many : Dev := { cr0 with crypto := { cr0.crypto with ctxs := (List.range 64).map fun i => { c0 with handle := i + 1, once := true } } }
def c6 : Ctx := { c0 with count := 6 }
def wrec : Bytes := padTo 512 ((leBytes 2 1 ++ [0, 1] ++ leBytes 4 0) ++ (leBytes 2 0 ++ leBytes 2 0 ++ leBytes 4 9 ++ leBytes 8 6 ++ leBytes 8 1 ++ [1, 0] ++ leBytes 2 0 ++ [1, 0, 0, 0] ++ List.replicate 368 3))
def cx : Ctx := { c0 with place := .exported }
def cw : Ctx := { c0 with place := .waiting 3 }
def opx (k : Nat) (c : Nat) : Op := ⟨⟨.fw,0,0⟩, k, 0, false, false, none, 0, 0, 0, [], c, 0, 0⟩
def dfd (o k : Nat) (src : Bytes) : Deferred := ⟨fwd o (h7 k 0) src 4, o, (fwd o (h7 k 0) src 4).digest, []⟩
def kk : Dev := vk (vk cr0 70 0xFF 1) 72 0x4C 0
def cev : Dev := { wc c0 with ops := [opx 0x102 7, opx 0x121 0, opx 0x700 0] }
def fl (f : Nat) (x : Fn) : Dev := { (run.wr FS_FRAME_CNT 10) with run := { run.run with perst := true, vfEnable := true, numVfs := 20 }, fns := [(f, { x with mse := true })] }
def rct0 : Rct := ⟨0x1000, 0x2000, 4, 4, 0, 1, 3, 1, 5, true⟩
def rgx (s : CellState) : Ring := { Dev.freshRing rct0 3 with state := s }
def fct (op : Nat) (rs : List (Nat × Ring)) : Dev := ((fl 7 { bme := true, ctl := [(4, op, 3)], rings := rs }).wr (FN_STATE_STATE 7) 2).wr (RCT_RINGS 7) 5 |>.wr (RING_RESULT_RING 7) 4
def opf (o : Nat) (f : Fin 256) (stt : Option Status) : Op := ⟨⟨.fn f, 2, 5⟩, o, 9, false, true, stt, 0, 0, 0, [1,2], 0, 0, 0⟩
def fdr (dr idle sq : Nat) (c : Option Nat) : Dev := ((fl 7 { bme := true, msix := true, msixMask := true, idle := idle, dbSeq := sq, confirm := c }).wr (FN_STATE_STATE 7) 2).wr (FN_STATE_DROWSY 7) dr |>.wr FS_FRAME_CNT 1003
def frs : Dev := { (((fl 7 { rings := [(4, rgx .active)] }).wr (FN_STATE_STATE 7) 2).wr (KS_SLOT_OWNER 70) 7).wr (KS_SLOT_VALID 70) 1 with ops := [opf 0x700 7 none, opf 0x120 7 none, opf 0x702 8 none], crypto := { seeded := true, ctxs := [⟨7, 7, 0, 1, false, 0, 0, 6, [], [1], 1, 512, .internal, false, 0, false⟩] } }
def opq (p : Port) (q : Bool) : Op := ⟨⟨p, 2, 5⟩, 0x700, 9, q, true, some .ok, 0, 0, 0, [1,2], 0, 0, 0⟩
def mbd (o n : Nat) (f : Nat) : Dev := { act' run (.i3c 1) with mbx1 := { desc := leBytes 64 (o + 2 ^ 20 * f + 2 ^ 128 * n), data := List.replicate 65536 1, appended := [1] } }
def xr (o : Nat) (b : Nat) (fa : Option Nat) (p : Port) : Desc := ⟨⟨p, 0, 0⟩, BitVec.ofNat 512 (o + 2 ^ 32 * 5 + 2 ^ 23 * b), [], [], [], fa⟩
def cr1 : Dev := { (cr0.wr RNG_STATE 1) with mbx1 := { busy := true, desc := leBytes 64 (0x10A + 2 ^ 32 * 5) } }
def fv : Dev := { (fl 7 { rings := [(0, { rgx .active with sqTail := 1 })], bme := true }).wr (FN_STATE_STATE 7) 2 with crypto := cr1.crypto }
def ad (x : Ep) : Dev := { (((act' (run.wr ATT_ID_STATE 1) (.i3c 0)).wr (KS_SLOT_VALID 1) 1).wr (KS_SLOT_VALID 2) 1).wr CR_STATE 1 |>.wr FS_FRAME_CNT 10 with run := { run.run with perst := true }, att := { eps := [(1, x), (0, x)], entries := [(1, List.replicate 64 3), (6, List.replicate 64 9), (0x10, List.replicate 64 7)], session := 5 } }
def ah : List (Nat × Byte) := [(0x1330000, 5), (0x1330001, 0), (0x1330002, 0), (0x1330003, 0), (0x1330004, 77)]
def sn (d : Bool) (l : Nat) : Session := ⟨3, d, l⟩
def hl (t : Nat) : Held := ⟨none, 4, 1, List.replicate 100 7, t⟩
def cq : ChunkReq := ⟨none, 4, 1, 4090, 4080, 2⟩
def mrd (o par : Nat) (dst : Nat) (x : Dev) : Dev := { x with ops := [⟨⟨.fw,0,0⟩, o, 0, false, false, none, 0, 0, 0, [], 0, 0, 0⟩] }

/-- The next state of an outcome, where it has one. -/
def nextOf (o : Result) : State := match o with
  | .next t => t
  | _ => State.reset

/-! ## Hypotheses that evaluation alone does not show -/

/-- Under `rec0 2` every address of the first 16 MiB lies in an OPEN region and in a window for programs and erases. -/
theorem open_window (d : Dev) (n a k : Nat) (hf : d.on (COMP_STATUS_FORCED n) = false) (he : (d.gc n).entry = some (rec0 2)) (hk : k < 2)
    (ha : a ≤ 0xFFFFFF) : d.inWindow n a k = true := by
  have : k = 0 ∨ k = 1 := by omega
  rcases this with rfl | rfl <;> simp [Dev.inWindow, hf, he, rec0, CompRec.region, reg, ha, bit]
  decide

theorem frame_full : Dev.missingBytes (fr0 2048) = [] := by
  simp only [Dev.missingBytes, List.filter_eq_nil_iff]
  intro i hi
  simp [fr0, List.mem_range.mp hi]

/-- A region with a blank seal word is not badly sealed, whatever its computed seal. -/
theorem unsealed (s : State) (g : Nat) (h : s.value (64 * g + 62) = 0) : s.sealBad g = false := by
  simp [State.sealBad, h, subset]

theorem ok_of {ε α : Type} [DecidableEq α] {e : Except ε α} {a : α} (h : (e.toOption == some a) = true) : e = .ok a := by
  cases e <;> simp_all [Except.toOption]

/-! ## States that meet the hypotheses of the obligations -/

theorem witness_DeviceIdReads :
    (let k : Fin 2 := 0; let s : State := stOf ((run.wr (CELL_STATE (Cell.offset .device)) 2).wr (CELL_STATE (Cell.offset (.i3c 0))) 2); let port : Port := .fn 0; let wide : Bool := false; let v : DWord := 5; let good : Bool := true; let t : State := nextOf (exec (.registerWrite port 0x40 wide v good) s); s.dev.windowUp k = true ∧ s.dev.phase = Phase.running ∧ s.dev.cst Cell.device = CellState.active ∧ s.dev.bistOf Cell.device = none ∧ s.dev.rd DEVICE_ID_PART = 38464 ∧ s.dev.rd DEVICE_ID_STEP_MAJOR = 11 ∧ s.dev.rd DEVICE_ID_STEP_MINOR = 0 ∧ exec (Instr.registerWrite port 64 wide v good) s = Host.Outcome.next t) :=
  by and_intros <;> first | decide +kernel | rfl

theorem witness_CapabilityRefused :
    (let c : Cell := .pilot; let s : State := stOf run; s.dev.conditions = true ∧ s.dev.refusedTree c = false ∧ s.dev.canEnable c = false) ∧
    (let c : Cell := .device; let s : State := stOf run; s.dev.conditions = true ∧ s.dev.refusedTree c = false ∧ s.dev.canEnable c = false) ∧
    (let c : Cell := .wdt; let s : State := stOf run; s.dev.conditions = true ∧ s.dev.refusedTree c = false ∧ c.capR = false) :=
  ⟨by decide +kernel, by decide +kernel, by decide +kernel⟩

theorem witness_CellCommands :
    (let c : Cell := .relay 0; let s : State := stOf run; c.children = [] ∧ s.dev.conditions = true ∧ s.dev.refusedTree c = false ∧ s.dev.canEnable c = true ∧ c.startCost = none ∧ s.dev.cst c = CellState.off ∧ s.dev.aboveDraining c = false ∧ ∀ (p : Cell), c.upper = some p → s.dev.ownActive p = true ∧ s.dev.bist = [] ∧ s.dev.guardedNow c = false ∧ c.capR = true ∧ c ≠ Cell.pilot) ∧
    (let c : Cell := .relay 0; let s : State := stOf (act' run (.relay 0)); c.children = [] ∧ s.dev.conditions = true ∧ s.dev.refusedTree c = false ∧ s.dev.canEnable c = true ∧ c.startCost = none ∧ s.dev.cst c = CellState.active ∧ s.dev.bist = [] ∧ s.dev.guardedNow c = false) ∧
    (let dom : Nat := 7; let rest : List Nat := [9]; let s : State := stOf { run with pwr := { run.pwr with queue := [7, 9] } }; s.dev.pwr.queue = dom :: rest ∧ s.dev.pwr.closed < 4) :=
  ⟨by decide +kernel, by decide +kernel, by decide +kernel⟩

theorem witness_CellOutcomes :
    (let c : Cell := .i3c 0; let s : State := stOf ((act' run .keeper |> fun d => act' d .host).wr (CELL_STATE (Cell.offset (.i3c 0))) 1); c.children = [] ∧ c.pair? = none ∧ c.startCost = none ∧ s.dev.startDone c = true ∧ (s.dev.cellx c).enabling = false) ∧
    (let c : Cell := .aes; let s : State := stOf { act' (act' ((run.wr FS_FRAME_CNT 100000).wr (CELL_STATE (Cell.offset .aes)) 1) .crypto) .device with pwr := { run.pwr with on := List.range 200 } }; c.children = [] ∧ s.dev.cst c = CellState.starting ∧ c.capW = true ∧ (s.dev.cellx c).waitParent = false ∧ (s.dev.cellx c).ownUp = false ∧ s.dev.powered c = true ∧ (s.dev.cellx c).since + (Config.startFrames c.offset).toNat ≤ s.dev.frame ∧ s.dev.on (CELL_PENDING_ENABLE c.offset) = false) ∧
    (let c : Cell := .relay 0; let s : State := stOf ((run.wr FS_FRAME_CNT 100000).wr (CELL_STATE (Cell.offset (.relay 0))) 3); c.children = [] ∧ s.dev.cst c = CellState.draining ∧ s.dev.on (CELL_PENDING_ENABLE c.offset) = false ∧ (∀ (r : Fin 2), c = Cell.relay r → s.dev.rd (RL_LINK ↑r) = 0) ∧ s.dev.busyWork c = false ∧ (s.dev.cellx c).since + 5000 ≤ s.dev.frame) :=
  ⟨by decide +kernel, ⟨by decide +kernel, by decide +kernel, by decide +kernel, by decide +kernel, by decide +kernel, by decide +kernel, Nat.le_trans (Nat.le_of_lt (Nat.add_lt_add_left (BitVec.isLt _) _)) (by decide), by decide +kernel⟩, by decide +kernel⟩

theorem witness_BistRuns :
    (let c : Cell := .cnt; let s : State := stOf (act' run .cnt); s.dev.conditions = true ∧ s.dev.refusedPort c = false ∧ (∀ (r : Fin 2), c = Cell.relay r → s.dev.rd (RL_LINK ↑r) = 1) ∧ c.capB = true ∧ s.dev.bistOf c = none ∧ (List.map (fun x => Dev.bistCost x.cell) s.dev.bist).sum + Dev.bistCost c ≤ 80 ∧ s.dev.bistRefusal c = none) ∧
    (let c : Cell := .device; let s : State := stOf (act' run .device); s.dev.conditions = true ∧ s.dev.refusedPort c = false ∧ (∀ (r : Fin 2), c = Cell.relay r → s.dev.rd (RL_LINK ↑r) = 1) ∧ c.capB = false) ∧
    (let c : Cell := .cnt; let r : BistRun := ⟨.cnt, 5, false⟩; let s : State := stOf { act' run .cnt with bist := [⟨.cnt, 5, false⟩] }; s.dev.bistOf c = some r ∧ r.waiting = false ∧ r.frames ≠ 0) ∧
    (let c : Cell := .cnt; let r : BistRun := ⟨.cnt, 5, false⟩; let s : State := stOf { (act' run .cnt).wr (CELL_BIST_BUDGET (Cell.offset .cnt)) 3 with bist := [⟨.cnt, 5, false⟩] }; s.dev.bistOf c = some r ∧ s.dev.rd (CELL_BIST_BUDGET c.offset) ≤ r.frames) :=
  ⟨by decide +kernel, by decide +kernel, by decide +kernel, by decide +kernel⟩

theorem witness_PilotTasks :
    (let cost : Nat := 400; let k : Nat := 0; let s : State := stOf run; s.dev.up = true ∧ s.dev.coreFor cost = some k) ∧
    (let cost : Nat := 1201; let s : State := stOf run; s.dev.up = true ∧ s.dev.coreFor cost = none) ∧
    (let c : Cell := .cnt; let s : State := stOf { act' run .cnt with bist := [⟨.digest, 5, false⟩, ⟨.pcie, 5, false⟩, ⟨.ks, 5, false⟩, ⟨.aes, 5, false⟩, ⟨.se, 5, false⟩] }; s.dev.conditions = true ∧ s.dev.refusedPort c = false ∧ (∀ (r : Fin 2), c = Cell.relay r → s.dev.rd (RL_LINK ↑r) = 1) ∧ c.capB = true ∧ s.dev.bistOf c = none ∧ (80 < (List.map (fun x => Dev.bistCost x.cell) s.dev.bist).sum + Dev.bistCost c ∨ (s.dev.bistRefusal c).isSome = true)) ∧
    (let c : Cell := .cnt; let s : State := stOf (act' run .cnt); s.dev.conditions = true ∧ s.dev.refusedPort c = false ∧ (∀ (r : Fin 2), c = Cell.relay r → s.dev.rd (RL_LINK ↑r) = 1) ∧ c.capB = true ∧ s.dev.bistOf c = none ∧ (List.map (fun x => Dev.bistCost x.cell) s.dev.bist).sum + Dev.bistCost c ≤ 80 ∧ s.dev.bistRefusal c = none) :=
  ⟨by decide +kernel, by decide +kernel, by decide +kernel, by decide +kernel⟩

theorem witness_OffAccess :
    (let a : Nat := 0x4e048; let c : Cell := .aes; let s : State := stOf { act' run (.i3c 0) with run := { run.run with perst := true }, fns := [(0, { mse := true })] }; let f : Fin 256 := 0; let wide : Bool := false; let k : Fin 2 := 0; let w : Word := 0x4e048; cellAt a = none ∧ ownerAt a = some c ∧ s.dev.cst c ≠ CellState.active ∧ f = 0 ∧ a < 2 ^ 26 ∧ s.dev.conditions = true ∧ s.dev.fnLive ↑f = true ∧ (s.dev.fn ↑f).mse = true ∧ aligned a (if wide = true then 8 else 4) = true ∧ BitVec.toNat w = a ∧ a % 4 = 0 ∧ (a < 589824 ∨ 606208 ≤ a) ∧ s.dev.windowUp k = true ∧ s.dev.phase = Phase.running) :=
  by decide +kernel

theorem witness_TickAdvancesFrame :
    (let s : State := stOf run; s.dev.awake = true) :=
  by decide +kernel

theorem witness_FrameCountLow :
    (let s : State := stOf (act' (run.wr FS_FRAME_CNT 0x500000007) (.i3c 0)); let k : Fin 2 := 0; s.dev.conditions = true ∧ s.dev.windowUp k = true) :=
  by decide +kernel

theorem witness_InputsCondition :
    (let k : Fin 99 := 7; let s : State := stOf { run with inputs := [(7, { run := 200, raw := true })] }; s.dev.conditions = true ∧ s.dev.icChatter ↑k = false ∧ s.dev.chatterDue ↑k = false ∧ s.dev.rd (FS_IC_CFG_DEBOUNCE ↑k) ≤ (s.dev.input ↑k).run ∧ (s.dev.input ↑k).run ≠ 0) ∧
    (let k : Fin 99 := 7; let s : State := stOf { run with inputs := [(7, { changes := 100, raw := true })] }; s.dev.conditions = true ∧ s.dev.chatterDue ↑k = true) ∧
    (let k : Fin 99 := 7; let s : State := stOf { (run.wr (FS_IC_LEVEL 0) 128).wr (FS_IC_CFG_STUCK_LIMIT 7) 3 with inputs := [(7, { active := 3000, raw := true })] }; s.dev.conditions = true ∧ s.dev.icLevel ↑k = true ∧ s.dev.rd (FS_IC_CFG_STUCK_LIMIT ↑k) ≠ 0 ∧ 1000 * s.dev.rd (FS_IC_CFG_STUCK_LIMIT ↑k) ≤ (s.dev.input ↑k).active ∧ bit (s.dev.rd (FS_IC_STUCK (↑k / 32))) (↑k % 32) = false) :=
  ⟨by decide +kernel, by decide +kernel, by decide +kernel⟩

theorem witness_ChatterClears :
    (let k : Fin 99 := 7; let s : State := stOf { run.wr (FS_IC_CHATTER 0) 0x1F0 with inputs := [(7, { steady := 500000, changes := 4 })] }; s.dev.conditions = true ∧ s.dev.icChatter ↑k = true ∧ 500000 ≤ (s.dev.input ↑k).steady) ∧
    (let k : Fin 99 := 7; let s : State := stOf { run.wr (FS_IC_CHATTER 0) 0x1F0 with inputs := [(7, { steady := 499999, changes := 4 })] }; s.dev.conditions = true ∧ s.dev.icChatter ↑k = true ∧ (s.dev.input ↑k).steady < 500000) :=
  ⟨by decide +kernel, by decide +kernel⟩

theorem witness_TimersRun :
    (let f : Nat := 5; let esc : Bool := true; let s : State := stOf { (run.wr FS_FRAME_CNT 5).wr WDT_STATE 2 with wdt := { trapEnd := some (5, true) } }; s.dev.awake = true ∧ s.dev.wdt.trapEnd = some (f, esc) ∧ f ≤ s.dev.frame ∧ s.dev.rd WDT_STATE = 2) ∧
    (let s : State := stOf { (run.wr BARO_OP_SECONDS 3599) with baro := { ticks := 500000 } }; s.dev.phase ≠ Phase.off ∧ 500000 ≤ s.dev.baro.ticks) ∧
    (let s : State := stOf { (run.wr MON_GOV_STEP 3) with mon := { cool := 250000 } }; s.dev.awake = true ∧ 250000 ≤ s.dev.mon.cool ∧ s.dev.currentHigh = false ∧ s.dev.mon.staged = none ∧ 0 < s.dev.rd MON_GOV_STEP) ∧
    (let s : State := stOf { (run.wr MON_GOV_STEP 2) with mon := { warn := 8, hot := 2 } }; s.dev.awake = true ∧ 8 ≤ s.dev.mon.warn ∧ s.dev.mon.staged = none ∧ s.dev.rd MON_GOV_STEP < 3 ∧ s.dev.phase ≠ Phase.shutdown ∧ 2 ≤ s.dev.mon.hot) ∧
    (let f : Nat := 0; let s : State := stOf { (run.wr FS_FRAME_CNT 2500) with phase := .shutdown, mon := { shutAt := some 0 } }; s.dev.mon.shutAt = some f ∧ s.dev.phase = Phase.shutdown ∧ f + 2500 ≤ s.dev.frame) :=
  ⟨by decide +kernel, by decide +kernel, by decide +kernel, by decide +kernel, by decide +kernel⟩

theorem witness_DrizzleEntersAndExits :
    (let x : Desc := fwd 1800 0 [] 0; let s : State := stOf run; Taken x 1800 s ∧ s.dev.ops = [] ∧ s.dev.cpls = [] ∧ (found x 1800 s).drizzleRefusal (List.length x.src) = none) ∧
    (let x : Desc := fwd 1800 0 [1] 0; let s : State := stOf run; let st : Status := .lengthMismatch; Taken x 1800 s ∧ s.dev.ops = [] ∧ s.dev.cpls = [] ∧ (found x 1800 s).drizzleRefusal (List.length x.src) = some st) ∧
    (let cause : Nat := 3; let s : State := stOf { run.wr DRZ_STATE 2 |>.wr FS_FRAME_CNT 9 with driz := { wake := some 3, wakeAt := 8 } }; s.dev.driz.wake = some cause ∧ s.dev.up = true ∧ s.dev.rd DRZ_STATE = 2 ∧ s.dev.driz.wakeAt < s.dev.frame) :=
  ⟨by decide +kernel, by decide +kernel, by decide +kernel⟩

theorem witness_RegisterWritesByType :
    (let f : Fin 256 := 0; let s : State := stOf { run with run := { run.run with perst := true }, fns := [(0, { mse := true })] }; f = 0 ∧ s.dev.conditions = true ∧ s.dev.fnLive ↑f = true ∧ (s.dev.fn ↑f).mse = true ∧ s.dev.offCell 159824 = none ∧ s.dev.offCell 65608 = none) :=
  by decide +kernel

theorem witness_WindowWrites :
    (let k : Fin 2 := 1; let o : Nat := 65528; let s : State := stOf { act' run (.i3c 1) with mbx1 := { data := List.replicate 65536 9 } }; let ws : List Word := [1, 2]; s.dev.windowUp k = true ∧ s.dev.phase = Phase.running ∧ (s.dev.mbx ↑k).busy = false ∧ List.length (s.dev.mbx ↑k).data = 65536 ∧ o % 4 = 0 ∧ o + 4 ≤ 65536 ∧ o % 8 = 0 ∧ o + 8 ≤ 65536 ∧ 1 ≤ ws.length ∧ ws.length ≤ 64 ∧ o + 4 * ws.length ≤ 65536) :=
  by decide +kernel

theorem witness_TapAndUnsupported :
    (let s : State := stOf (run.wr DBG_STATE_LEVEL 2); s.dev.awake = true ∧ 2 ≤ s.dev.rd DBG_STATE_LEVEL) ∧
    (let s : State := stOf (run.wr DBG_STATE_LEVEL 1); s.dev.awake = true ∧ s.dev.rd DBG_STATE_LEVEL < 2) ∧
    (let f : Fin 256 := 0; let a : BitVec 26 := 0x80000; let s : State := stOf { run with run := { run.run with perst := true }, fns := [(0, { mse := true })] }; s.dev.conditions = true ∧ s.dev.fnLive ↑f = true ∧ (f ≠ 0 ∨ a.toNat < 262144 ∨ 524288 ≤ a.toNat)) :=
  ⟨by decide +kernel, by decide +kernel, by decide +kernel⟩

theorem witness_OpenReadsForward :
    (let t : UpTx := tx0 0x0B; let a : BitVec 32 := 0x100; let flash : Bytes := [1,2,3]; let s : State := stOf (up0 2 0); let i := (Instr.fastRead t a flash none, 11, [0, 3, 5], false); UpReady s.dev t i.snd.fst i.snd.snd.fst ∧ s.dev.ndRead (↑t.gc) i.snd.fst = false ∧ OpenServed s.dev (↑t.gc) (s.dev.readAddrs (↑t.gc) (s.dev.upAddr (↑t.gc) i.snd.snd.snd a) (List.length flash))) ∧
    (let t : UpTx := tx0 0x0B; let a : BitVec 32 := 0x100; let flash : Bytes := [1,2,3]; let s : State := stOf (up0 2 0); let i := (Instr.fourByteFastRead t a flash none, 12, [0, 3, 5, 6], true); UpReady s.dev t i.snd.fst i.snd.snd.fst ∧ s.dev.ndRead (↑t.gc) i.snd.fst = false ∧ OpenServed s.dev (↑t.gc) (s.dev.readAddrs (↑t.gc) (s.dev.upAddr (↑t.gc) i.snd.snd.snd a) (List.length flash))) ∧
    (let t : UpTx := tx0 0x6B; let a : BitVec 32 := 0x100; let flash : Bytes := [1,2,3]; let s : State := stOf (up0 2 1); let i := (Instr.quadOutputRead t a flash none, 107, [1], false); UpReady s.dev t i.snd.fst i.snd.snd.fst ∧ s.dev.ndRead (↑t.gc) i.snd.fst = false ∧ OpenServed s.dev (↑t.gc) (s.dev.readAddrs (↑t.gc) (s.dev.upAddr (↑t.gc) i.snd.snd.snd a) (List.length flash))) ∧
    (let t : UpTx := tx0 0x6B; let a : BitVec 32 := 0x100; let flash : Bytes := [1,2,3]; let s : State := stOf (up0 2 1); let i := (Instr.fourByteQuadOutputRead t a flash none, 108, [1], true); UpReady s.dev t i.snd.fst i.snd.snd.fst ∧ s.dev.ndRead (↑t.gc) i.snd.fst = false ∧ OpenServed s.dev (↑t.gc) (s.dev.readAddrs (↑t.gc) (s.dev.upAddr (↑t.gc) i.snd.snd.snd a) (List.length flash))) ∧
    (let t : UpTx := tx0 0xEB; let a : BitVec 32 := 0x100; let m : Byte := 0xA5; let flash : Bytes := [1,2,3]; let s : State := stOf (up0 2 2); let i := (Instr.quadIoRead t a m flash none, 235, [2, 3], false); UpReady s.dev t i.snd.fst i.snd.snd.fst ∧ s.dev.ndRead (↑t.gc) i.snd.fst = false ∧ OpenServed s.dev (↑t.gc) (s.dev.readAddrs (↑t.gc) (s.dev.upAddr (↑t.gc) i.snd.snd.snd a) (List.length flash))) :=
  ⟨⟨by decide +kernel, by decide +kernel, ⟨by decide, by decide, _, rfl, by decide⟩⟩, ⟨by decide +kernel, by decide +kernel, ⟨by decide, by decide, _, rfl, by decide⟩⟩, ⟨by decide +kernel, by decide +kernel, ⟨by decide, by decide, _, rfl, by decide⟩⟩, ⟨by decide +kernel, by decide +kernel, ⟨by decide, by decide, _, rfl, by decide⟩⟩, ⟨by decide +kernel, by decide +kernel, ⟨by decide, by decide, _, rfl, by decide⟩⟩⟩

theorem witness_OpenReadsForward_2 :
    (let t : UpTx := tx0 0xEB; let a : BitVec 32 := 0x100; let m : Byte := 0xA5; let flash : Bytes := [1,2,3]; let s : State := stOf (up0 2 2); let i := (Instr.fourByteQuadIoRead t a m flash none, 236, [2, 3, 5], true); UpReady s.dev t i.snd.fst i.snd.snd.fst ∧ s.dev.ndRead (↑t.gc) i.snd.fst = false ∧ OpenServed s.dev (↑t.gc) (s.dev.readAddrs (↑t.gc) (s.dev.upAddr (↑t.gc) i.snd.snd.snd a) (List.length flash))) ∧
    (let t : UpTx := tx0 0xED; let a : BitVec 32 := 0x100; let m : Byte := 0xA5; let flash : Bytes := [1,2,3]; let s : State := stOf (up0 2 4); let i := (Instr.dtrQuadIoRead t a m flash none, 237, [4], false); UpReady s.dev t i.snd.fst i.snd.snd.fst ∧ s.dev.ndRead (↑t.gc) i.snd.fst = false ∧ OpenServed s.dev (↑t.gc) (s.dev.readAddrs (↑t.gc) (s.dev.upAddr (↑t.gc) i.snd.snd.snd a) (List.length flash))) ∧
    (let t : UpTx := tx0 0xED; let a : BitVec 32 := 0x100; let m : Byte := 0xA5; let flash : Bytes := [1,2,3]; let s : State := stOf (up0 2 4); let i := (Instr.octalDtrRead t a m flash none, 238, [4, 6], true); UpReady s.dev t i.snd.fst i.snd.snd.fst ∧ s.dev.ndRead (↑t.gc) i.snd.fst = false ∧ OpenServed s.dev (↑t.gc) (s.dev.readAddrs (↑t.gc) (s.dev.upAddr (↑t.gc) i.snd.snd.snd a) (List.length flash))) ∧
    (let t : UpTx := tx0 0xEE; let a : BitVec 32 := 0x100; let flash : Bytes := [1,2,3]; let s : State := stOf (((up0 2 6).wr (UP_STATE_CONT 0 0) 1).wr (UP_CFG_CONT_EN 0 0) 1); s.dev.awake = true ∧ s.dev.ownsPorts = true ∧ s.dev.on (COMP_STATUS_RELEASE ↑t.gc) = true ∧ s.dev.on (UP_STATE_CONT (↑t.gc / 2) (↑t.gc % 2)) = true ∧ t.decB = none ∧ t.bgBusy = false ∧ s.dev.on (UP_CFG_CONT_EN (↑t.gc / 2) (↑t.gc % 2)) = true ∧ OpenServed s.dev (↑t.gc) (s.dev.readAddrs (↑t.gc) (s.dev.upAddr (↑t.gc) (decide ((s.dev.gc ↑t.gc).contOpc = 236) || decide ((s.dev.gc ↑t.gc).contOpc = 238)) a) (List.length flash))) :=
  ⟨⟨by decide +kernel, by decide +kernel, ⟨by decide, by decide, _, rfl, by decide⟩⟩, ⟨by decide +kernel, by decide +kernel, ⟨by decide, by decide, _, rfl, by decide⟩⟩, ⟨by decide +kernel, by decide +kernel, ⟨by decide, by decide, _, rfl, by decide⟩⟩, ⟨by decide +kernel, by decide +kernel, by decide +kernel, by decide +kernel, by decide +kernel, by decide +kernel, by decide +kernel, ⟨by decide, by decide, _, rfl, by decide⟩⟩⟩

theorem witness_PinnedReadsServe :
    (let t : UpTx := tx0 0x03; let a : BitVec 32 := 0x900; let flash : Bytes := [1,2,3]; let g : Nat := 1; let e : CompRec := rec0 0; let s : State := stOf { up0 0 0 with snow := { frames := [⟨0, 1, 0, .pinned, [(256, 77)], true⟩] } }; let i := (Instr.read t a flash none, 3, false); let n : Nat := ↑t.gc; let xs := (s.dev.readAddrs n (s.dev.upAddr n i.snd.snd a) (List.length flash)).zip flash; let f : Frame := ⟨0, 1, 0, .pinned, [(256, 77)], true⟩; UpReady s.dev t i.snd.fst [0] ∧ (s.dev.gc n).entry = some e ∧ (s.dev.gc n).poisoned = false ∧ s.dev.on (UP_STATE_WIP (n / 2) (n % 2)) = false ∧ (∀ (x : Nat × Byte), x ∈ xs → x.fst / 2048 = g ∧ (e.region x.fst).isSome = true ∧ s.dev.classAt n x.fst ≤ 2) ∧ s.dev.frameOf n g = some f ∧ f.state = GState.pinned) ∧
    (let t : UpTx := tx0 0x03; let a : BitVec 32 := 0x900; let flash : Bytes := [1,2,3]; let g : Nat := 1; let e : CompRec := rec0 1; let s : State := stOf (up0 1 0); let i := (Instr.read t a flash none, 3, false); let n : Nat := ↑t.gc; let xs := (s.dev.readAddrs n (s.dev.upAddr n i.snd.snd a) (List.length flash)).zip flash; UpReady s.dev t i.snd.fst [0] ∧ (s.dev.gc n).entry = some e ∧ (s.dev.gc n).poisoned = false ∧ s.dev.on (UP_STATE_WIP (n / 2) (n % 2)) = false ∧ (∀ (x : Nat × Byte), x ∈ xs → x.fst / 2048 = g ∧ (e.region x.fst).isSome = true ∧ s.dev.classAt n x.fst ≤ 2) ∧ s.dev.frameOf n g = none ∧ xs ≠ [] ∧ ∀ (x : Nat × Byte), x ∈ xs → s.dev.classAt n x.fst = 1 ∨ s.dev.classAt n x.fst = 2) ∧
    (let t : UpTx := tx0 0x03; let a : BitVec 32 := 0x900; let flash : Bytes := [1,2,3]; let g : Nat := 1; let e : CompRec := rec0 0; let s : State := stOf { up0 0 0 with snow := { frames := [⟨0, 1, 0, .pinned, [(256, 77)], true⟩] } }; let i := (Instr.fourByteRead t a flash none, 19, true); let n : Nat := ↑t.gc; let xs := (s.dev.readAddrs n (s.dev.upAddr n i.snd.snd a) (List.length flash)).zip flash; let f : Frame := ⟨0, 1, 0, .pinned, [(256, 77)], true⟩; UpReady s.dev t i.snd.fst [0] ∧ (s.dev.gc n).entry = some e ∧ (s.dev.gc n).poisoned = false ∧ s.dev.on (UP_STATE_WIP (n / 2) (n % 2)) = false ∧ (∀ (x : Nat × Byte), x ∈ xs → x.fst / 2048 = g ∧ (e.region x.fst).isSome = true ∧ s.dev.classAt n x.fst ≤ 2) ∧ s.dev.frameOf n g = some f ∧ f.state = GState.pinned) ∧
    (let t : UpTx := tx0 0x03; let a : BitVec 32 := 0x900; let flash : Bytes := [1,2,3]; let g : Nat := 1; let e : CompRec := rec0 1; let s : State := stOf (up0 1 0); let i := (Instr.fourByteRead t a flash none, 19, true); let n : Nat := ↑t.gc; let xs := (s.dev.readAddrs n (s.dev.upAddr n i.snd.snd a) (List.length flash)).zip flash; UpReady s.dev t i.snd.fst [0] ∧ (s.dev.gc n).entry = some e ∧ (s.dev.gc n).poisoned = false ∧ s.dev.on (UP_STATE_WIP (n / 2) (n % 2)) = false ∧ (∀ (x : Nat × Byte), x ∈ xs → x.fst / 2048 = g ∧ (e.region x.fst).isSome = true ∧ s.dev.classAt n x.fst ≤ 2) ∧ s.dev.frameOf n g = none ∧ xs ≠ [] ∧ ∀ (x : Nat × Byte), x ∈ xs → s.dev.classAt n x.fst = 1 ∨ s.dev.classAt n x.fst = 2) :=
  ⟨⟨by decide +kernel, by decide +kernel, by decide +kernel, by decide +kernel, by decide +kernel, rfl, by decide +kernel⟩, by decide +kernel, ⟨by decide +kernel, by decide +kernel, by decide +kernel, by decide +kernel, by decide +kernel, rfl, by decide +kernel⟩, by decide +kernel⟩

theorem witness_WritesForward :
    (let t : UpTx := tx0 0x02; let a : BitVec 32 := 0x900; let data : Bytes := [1,2,3]; let s : State := stOf ((up0 2 0).wr (DN_FLASH_PAGE_LOG2 0 0) 8); let i := (Instr.pageProgram t a data, 2, [0, 3, 4], false); let n : Nat := ↑t.gc; let pg := 2 ^ s.dev.rd (DN_FLASH_PAGE_LOG2 (n / 2) (n % 2)); let base := s.dev.upAddr n i.snd.snd.snd a / pg * pg; UpReady s.dev t i.snd.fst i.snd.snd.fst ∧ s.dev.on (UP_STATE_WIP (n / 2) (n % 2)) = false ∧ s.dev.on (UP_STATE_WEL (n / 2) (n % 2)) = true ∧ data ≠ [] ∧ ∀ (y : Nat), base ≤ y → y < base + pg → s.dev.inWindow n y 0 = true) ∧
    (let t : UpTx := tx0 0x02; let a : BitVec 32 := 0x900; let data : Bytes := [1,2,3]; let s : State := stOf ((up0 2 0).wr (DN_FLASH_PAGE_LOG2 0 0) 8); let i := (Instr.fourBytePageProgram t a data, 18, [0, 3, 4, 5, 6], true); let n : Nat := ↑t.gc; let pg := 2 ^ s.dev.rd (DN_FLASH_PAGE_LOG2 (n / 2) (n % 2)); let base := s.dev.upAddr n i.snd.snd.snd a / pg * pg; UpReady s.dev t i.snd.fst i.snd.snd.fst ∧ s.dev.on (UP_STATE_WIP (n / 2) (n % 2)) = false ∧ s.dev.on (UP_STATE_WEL (n / 2) (n % 2)) = true ∧ data ≠ [] ∧ ∀ (y : Nat), base ≤ y → y < base + pg → s.dev.inWindow n y 0 = true) ∧
    (let t : UpTx := tx0 0x32; let a : BitVec 32 := 0x900; let data : Bytes := [1,2,3]; let s : State := stOf ((up0 2 1).wr (DN_FLASH_PAGE_LOG2 0 0) 8); let i := (Instr.quadInputPageProgram t a data, 50, [1], false); let n : Nat := ↑t.gc; let pg := 2 ^ s.dev.rd (DN_FLASH_PAGE_LOG2 (n / 2) (n % 2)); let base := s.dev.upAddr n i.snd.snd.snd a / pg * pg; UpReady s.dev t i.snd.fst i.snd.snd.fst ∧ s.dev.on (UP_STATE_WIP (n / 2) (n % 2)) = false ∧ s.dev.on (UP_STATE_WEL (n / 2) (n % 2)) = true ∧ data ≠ [] ∧ ∀ (y : Nat), base ≤ y → y < base + pg → s.dev.inWindow n y 0 = true) ∧
    (let t : UpTx := tx0 0x32; let a : BitVec 32 := 0x900; let data : Bytes := [1,2,3]; let s : State := stOf ((up0 2 1).wr (DN_FLASH_PAGE_LOG2 0 0) 8); let i := (Instr.fourByteQuadInputPageProgram t a data, 52, [1], true); let n : Nat := ↑t.gc; let pg := 2 ^ s.dev.rd (DN_FLASH_PAGE_LOG2 (n / 2) (n % 2)); let base := s.dev.upAddr n i.snd.snd.snd a / pg * pg; UpReady s.dev t i.snd.fst i.snd.snd.fst ∧ s.dev.on (UP_STATE_WIP (n / 2) (n % 2)) = false ∧ s.dev.on (UP_STATE_WEL (n / 2) (n % 2)) = true ∧ data ≠ [] ∧ ∀ (y : Nat), base ≤ y → y < base + pg → s.dev.inWindow n y 0 = true) ∧
    (let t : UpTx := tx0 0x38; let a : BitVec 32 := 0x900; let data : Bytes := [1,2,3]; let s : State := stOf ((up0 2 2).wr (DN_FLASH_PAGE_LOG2 0 0) 8); let i := (Instr.quadIoPageProgram t a data, 56, [2], false); let n : Nat := ↑t.gc; let pg := 2 ^ s.dev.rd (DN_FLASH_PAGE_LOG2 (n / 2) (n % 2)); let base := s.dev.upAddr n i.snd.snd.snd a / pg * pg; UpReady s.dev t i.snd.fst i.snd.snd.fst ∧ s.dev.on (UP_STATE_WIP (n / 2) (n % 2)) = false ∧ s.dev.on (UP_STATE_WEL (n / 2) (n % 2)) = true ∧ data ≠ [] ∧ ∀ (y : Nat), base ≤ y → y < base + pg → s.dev.inWindow n y 0 = true) :=
  ⟨⟨by decide +kernel, by decide +kernel, by decide +kernel, by decide +kernel, fun _ _ h => open_window _ _ _ _ (by decide) rfl (by decide) (Nat.le_of_lt_succ (Nat.lt_of_lt_of_le h (by decide)))⟩, ⟨by decide +kernel, by decide +kernel, by decide +kernel, by decide +kernel, fun _ _ h => open_window _ _ _ _ (by decide) rfl (by decide) (Nat.le_of_lt_succ (Nat.lt_of_lt_of_le h (by decide)))⟩, ⟨by decide +kernel, by decide +kernel, by decide +kernel, by decide +kernel, fun _ _ h => open_window _ _ _ _ (by decide) rfl (by decide) (Nat.le_of_lt_succ (Nat.lt_of_lt_of_le h (by decide)))⟩, ⟨by decide +kernel, by decide +kernel, by decide +kernel, by decide +kernel, fun _ _ h => open_window _ _ _ _ (by decide) rfl (by decide) (Nat.le_of_lt_succ (Nat.lt_of_lt_of_le h (by decide)))⟩, ⟨by decide +kernel, by decide +kernel, by decide +kernel, by decide +kernel, fun _ _ h => open_window _ _ _ _ (by decide) rfl (by decide) (Nat.le_of_lt_succ (Nat.lt_of_lt_of_le h (by decide)))⟩⟩

theorem witness_WritesForward_2 :
    (let t : UpTx := tx0 0x38; let a : BitVec 32 := 0x900; let data : Bytes := [1,2,3]; let s : State := stOf ((up0 2 2).wr (DN_FLASH_PAGE_LOG2 0 0) 8); let i := (Instr.fourByteQuadIoPageProgram t a data, 62, [2], true); let n : Nat := ↑t.gc; let pg := 2 ^ s.dev.rd (DN_FLASH_PAGE_LOG2 (n / 2) (n % 2)); let base := s.dev.upAddr n i.snd.snd.snd a / pg * pg; UpReady s.dev t i.snd.fst i.snd.snd.fst ∧ s.dev.on (UP_STATE_WIP (n / 2) (n % 2)) = false ∧ s.dev.on (UP_STATE_WEL (n / 2) (n % 2)) = true ∧ data ≠ [] ∧ ∀ (y : Nat), base ≤ y → y < base + pg → s.dev.inWindow n y 0 = true) ∧
    (let t : UpTx := tx0 0x02; let a : BitVec 32 := 0x900; let s : State := stOf ((up0 2 0).wr (DN_FLASH_PAGE_LOG2 0 0) 8); let i := (Instr.erase4Kib t a, 32, Dev.sdrModes, false, 4096, 0); let n : Nat := ↑t.gc; let base := s.dev.upAddr n i.snd.snd.snd.fst a / i.snd.snd.snd.snd.fst * i.snd.snd.snd.snd.fst; UpReady s.dev t i.snd.fst i.snd.snd.fst ∧ s.dev.on (UP_STATE_WIP (n / 2) (n % 2)) = false ∧ s.dev.on (UP_STATE_WEL (n / 2) (n % 2)) = true ∧ (∀ (e : CompRec), (s.dev.gc n).entry = some e → bit e.eraseTypes i.snd.snd.snd.snd.snd = true) ∧ ∀ (y : Nat), base ≤ y → y < base + i.snd.snd.snd.snd.fst → s.dev.inWindow n y 1 = true) ∧
    (let t : UpTx := tx0 0x02; let a : BitVec 32 := 0x900; let s : State := stOf ((up0 2 0).wr (DN_FLASH_PAGE_LOG2 0 0) 8); let i := (Instr.fourByteErase4Kib t a, 33, Dev.allModes, true, 4096, 0); let n : Nat := ↑t.gc; let base := s.dev.upAddr n i.snd.snd.snd.fst a / i.snd.snd.snd.snd.fst * i.snd.snd.snd.snd.fst; UpReady s.dev t i.snd.fst i.snd.snd.fst ∧ s.dev.on (UP_STATE_WIP (n / 2) (n % 2)) = false ∧ s.dev.on (UP_STATE_WEL (n / 2) (n % 2)) = true ∧ (∀ (e : CompRec), (s.dev.gc n).entry = some e → bit e.eraseTypes i.snd.snd.snd.snd.snd = true) ∧ ∀ (y : Nat), base ≤ y → y < base + i.snd.snd.snd.snd.fst → s.dev.inWindow n y 1 = true) ∧
    (let t : UpTx := tx0 0x02; let a : BitVec 32 := 0x900; let s : State := stOf ((up0 2 0).wr (DN_FLASH_PAGE_LOG2 0 0) 8); let i := (Instr.erase32Kib t a, 82, Dev.sdrModes, false, 32768, 1); let n : Nat := ↑t.gc; let base := s.dev.upAddr n i.snd.snd.snd.fst a / i.snd.snd.snd.snd.fst * i.snd.snd.snd.snd.fst; UpReady s.dev t i.snd.fst i.snd.snd.fst ∧ s.dev.on (UP_STATE_WIP (n / 2) (n % 2)) = false ∧ s.dev.on (UP_STATE_WEL (n / 2) (n % 2)) = true ∧ (∀ (e : CompRec), (s.dev.gc n).entry = some e → bit e.eraseTypes i.snd.snd.snd.snd.snd = true) ∧ ∀ (y : Nat), base ≤ y → y < base + i.snd.snd.snd.snd.fst → s.dev.inWindow n y 1 = true) ∧
    (let t : UpTx := tx0 0x02; let a : BitVec 32 := 0x900; let s : State := stOf ((up0 2 0).wr (DN_FLASH_PAGE_LOG2 0 0) 8); let i := (Instr.fourByteErase32Kib t a, 92, Dev.sdrModes, true, 32768, 1); let n : Nat := ↑t.gc; let base := s.dev.upAddr n i.snd.snd.snd.fst a / i.snd.snd.snd.snd.fst * i.snd.snd.snd.snd.fst; UpReady s.dev t i.snd.fst i.snd.snd.fst ∧ s.dev.on (UP_STATE_WIP (n / 2) (n % 2)) = false ∧ s.dev.on (UP_STATE_WEL (n / 2) (n % 2)) = true ∧ (∀ (e : CompRec), (s.dev.gc n).entry = some e → bit e.eraseTypes i.snd.snd.snd.snd.snd = true) ∧ ∀ (y : Nat), base ≤ y → y < base + i.snd.snd.snd.snd.fst → s.dev.inWindow n y 1 = true) :=
  ⟨⟨by decide +kernel, by decide +kernel, by decide +kernel, by decide +kernel, fun _ _ h => open_window _ _ _ _ (by decide) rfl (by decide) (Nat.le_of_lt_succ (Nat.lt_of_lt_of_le h (by decide)))⟩, ⟨by decide +kernel, by decide +kernel, by decide +kernel, fun _ h => Option.some.inj (h : some (rec0 2) = some _) ▸ (by decide), fun _ _ h => open_window _ _ _ _ (by decide) rfl (by decide) (Nat.le_of_lt_succ (Nat.lt_of_lt_of_le h (by decide)))⟩, ⟨by decide +kernel, by decide +kernel, by decide +kernel, fun _ h => Option.some.inj (h : some (rec0 2) = some _) ▸ (by decide), fun _ _ h => open_window _ _ _ _ (by decide) rfl (by decide) (Nat.le_of_lt_succ (Nat.lt_of_lt_of_le h (by decide)))⟩, ⟨by decide +kernel, by decide +kernel, by decide +kernel, fun _ h => Option.some.inj (h : some (rec0 2) = some _) ▸ (by decide), fun _ _ h => open_window _ _ _ _ (by decide) rfl (by decide) (Nat.le_of_lt_succ (Nat.lt_of_lt_of_le h (by decide)))⟩, ⟨by decide +kernel, by decide +kernel, by decide +kernel, fun _ h => Option.some.inj (h : some (rec0 2) = some _) ▸ (by decide), fun _ _ h => open_window _ _ _ _ (by decide) rfl (by decide) (Nat.le_of_lt_succ (Nat.lt_of_lt_of_le h (by decide)))⟩⟩

theorem witness_WritesForward_3 :
    (let t : UpTx := tx0 0x02; let a : BitVec 32 := 0x900; let s : State := stOf ((up0 2 0).wr (DN_FLASH_PAGE_LOG2 0 0) 8); let i := (Instr.erase64Kib t a, 216, Dev.sdrModes, false, 65536, 2); let n : Nat := ↑t.gc; let base := s.dev.upAddr n i.snd.snd.snd.fst a / i.snd.snd.snd.snd.fst * i.snd.snd.snd.snd.fst; UpReady s.dev t i.snd.fst i.snd.snd.fst ∧ s.dev.on (UP_STATE_WIP (n / 2) (n % 2)) = false ∧ s.dev.on (UP_STATE_WEL (n / 2) (n % 2)) = true ∧ (∀ (e : CompRec), (s.dev.gc n).entry = some e → bit e.eraseTypes i.snd.snd.snd.snd.snd = true) ∧ ∀ (y : Nat), base ≤ y → y < base + i.snd.snd.snd.snd.fst → s.dev.inWindow n y 1 = true) ∧
    (let t : UpTx := tx0 0x02; let a : BitVec 32 := 0x900; let s : State := stOf ((up0 2 0).wr (DN_FLASH_PAGE_LOG2 0 0) 8); let i := (Instr.fourByteErase64Kib t a, 220, Dev.allModes, true, 65536, 2); let n : Nat := ↑t.gc; let base := s.dev.upAddr n i.snd.snd.snd.fst a / i.snd.snd.snd.snd.fst * i.snd.snd.snd.snd.fst; UpReady s.dev t i.snd.fst i.snd.snd.fst ∧ s.dev.on (UP_STATE_WIP (n / 2) (n % 2)) = false ∧ s.dev.on (UP_STATE_WEL (n / 2) (n % 2)) = true ∧ (∀ (e : CompRec), (s.dev.gc n).entry = some e → bit e.eraseTypes i.snd.snd.snd.snd.snd = true) ∧ ∀ (y : Nat), base ≤ y → y < base + i.snd.snd.snd.snd.fst → s.dev.inWindow n y 1 = true) :=
  ⟨⟨by decide +kernel, by decide +kernel, by decide +kernel, fun _ h => Option.some.inj (h : some (rec0 2) = some _) ▸ (by decide), fun _ _ h => open_window _ _ _ _ (by decide) rfl (by decide) (Nat.le_of_lt_succ (Nat.lt_of_lt_of_le h (by decide)))⟩, ⟨by decide +kernel, by decide +kernel, by decide +kernel, fun _ h => Option.some.inj (h : some (rec0 2) = some _) ▸ (by decide), fun _ _ h => open_window _ _ _ _ (by decide) rfl (by decide) (Nat.le_of_lt_succ (Nat.lt_of_lt_of_le h (by decide)))⟩⟩

theorem witness_BusyDropsWrites :
    (let t : UpTx := tx0 0x02; let a : BitVec 32 := 0x900; let data : Bytes := [1,2,3]; let s : State := stOf ((up0 2 0).wr (UP_STATE_WIP 0 0) 1); let i := (Instr.pageProgram t a data, 2, [0, 3, 4]); UpReady s.dev t i.snd.fst i.snd.snd ∧ s.dev.on (UP_STATE_WIP (↑t.gc / 2) (↑t.gc % 2)) = true) ∧
    (let t : UpTx := tx0 0x02; let a : BitVec 32 := 0x900; let data : Bytes := [1,2,3]; let s : State := stOf ((up0 2 0).wr (UP_STATE_WIP 0 0) 1); let i := (Instr.fourBytePageProgram t a data, 18, [0, 3, 4, 5, 6]); UpReady s.dev t i.snd.fst i.snd.snd ∧ s.dev.on (UP_STATE_WIP (↑t.gc / 2) (↑t.gc % 2)) = true) ∧
    (let t : UpTx := tx0 0x02; let a : BitVec 32 := 0x900; let s : State := stOf ((up0 2 0).wr (UP_STATE_WIP 0 0) 1); let i := (Instr.erase64Kib t a, 216, Dev.sdrModes); UpReady s.dev t i.snd.fst i.snd.snd ∧ s.dev.on (UP_STATE_WIP (↑t.gc / 2) (↑t.gc % 2)) = true) ∧
    (let t : UpTx := tx0 0x02; let a : BitVec 32 := 0x900; let s : State := stOf ((up0 2 0).wr (UP_STATE_WIP 0 0) 1); let i := (Instr.fourByteErase64Kib t a, 220, Dev.allModes); UpReady s.dev t i.snd.fst i.snd.snd ∧ s.dev.on (UP_STATE_WIP (↑t.gc / 2) (↑t.gc % 2)) = true) ∧
    (let t : UpTx := tx0 0x02; let s : State := stOf ((up0 2 0).wr (UP_STATE_WIP 0 0) 1); let i := (Instr.chipErase t, 96, Dev.allModes); UpReady s.dev t i.snd.fst i.snd.snd ∧ s.dev.on (UP_STATE_WIP (↑t.gc / 2) (↑t.gc % 2)) = true) :=
  ⟨by decide +kernel, by decide +kernel, by decide +kernel, by decide +kernel, by decide +kernel⟩

theorem witness_BusyDropsWrites_2 :
    (let t : UpTx := tx0 0x02; let s : State := stOf ((up0 2 0).wr (UP_STATE_WIP 0 0) 1); let i := (Instr.chipEraseC7 t, 199, Dev.allModes); UpReady s.dev t i.snd.fst i.snd.snd ∧ s.dev.on (UP_STATE_WIP (↑t.gc / 2) (↑t.gc % 2)) = true) ∧
    (let t : UpTx := tx0 0x02; let a : BitVec 32 := 0x900; let data : Bytes := [1,2,3]; let s : State := stOf ((up0 2 0).wr (UP_STATE_WIP 0 0) 1); let i := (Instr.programSecurityRegisters t a data, 66, Dev.allModes); UpReady s.dev t i.snd.fst i.snd.snd ∧ s.dev.on (UP_STATE_WIP (↑t.gc / 2) (↑t.gc % 2)) = true) ∧
    (let t : UpTx := tx0 0x02; let a : BitVec 32 := 0x900; let s : State := stOf ((up0 2 0).wr (UP_STATE_WIP 0 0) 1); let i := (Instr.eraseSecurityRegisters t a, 68, Dev.allModes); UpReady s.dev t i.snd.fst i.snd.snd ∧ s.dev.on (UP_STATE_WIP (↑t.gc / 2) (↑t.gc % 2)) = true) ∧
    (let t : UpTx := tx0 0x32; let a : BitVec 32 := 0x900; let data : Bytes := [1,2,3]; let s : State := stOf ((up0 2 1).wr (UP_STATE_WIP 0 0) 1); let i := (Instr.quadInputPageProgram t a data, 50, [1]); UpReady s.dev t i.snd.fst i.snd.snd ∧ s.dev.on (UP_STATE_WIP (↑t.gc / 2) (↑t.gc % 2)) = true) ∧
    (let t : UpTx := tx0 0x32; let a : BitVec 32 := 0x900; let data : Bytes := [1,2,3]; let s : State := stOf ((up0 2 1).wr (UP_STATE_WIP 0 0) 1); let i := (Instr.fourByteQuadInputPageProgram t a data, 52, [1]); UpReady s.dev t i.snd.fst i.snd.snd ∧ s.dev.on (UP_STATE_WIP (↑t.gc / 2) (↑t.gc % 2)) = true) :=
  ⟨by decide +kernel, by decide +kernel, by decide +kernel, by decide +kernel, by decide +kernel⟩

theorem witness_BusyDropsWrites_3 :
    (let t : UpTx := tx0 0x38; let a : BitVec 32 := 0x900; let data : Bytes := [1,2,3]; let s : State := stOf ((up0 2 2).wr (UP_STATE_WIP 0 0) 1); let i := (Instr.quadIoPageProgram t a data, 56, [2]); UpReady s.dev t i.snd.fst i.snd.snd ∧ s.dev.on (UP_STATE_WIP (↑t.gc / 2) (↑t.gc % 2)) = true) ∧
    (let t : UpTx := tx0 0x38; let a : BitVec 32 := 0x900; let data : Bytes := [1,2,3]; let s : State := stOf ((up0 2 2).wr (UP_STATE_WIP 0 0) 1); let i := (Instr.fourByteQuadIoPageProgram t a data, 62, [2]); UpReady s.dev t i.snd.fst i.snd.snd ∧ s.dev.on (UP_STATE_WIP (↑t.gc / 2) (↑t.gc % 2)) = true) ∧
    (let t : UpTx := tx0 0x02; let a : BitVec 32 := 0x900; let s : State := stOf ((up0 2 0).wr (UP_STATE_WIP 0 0) 1); let i := (Instr.erase4Kib t a, 32, Dev.sdrModes); UpReady s.dev t i.snd.fst i.snd.snd ∧ s.dev.on (UP_STATE_WIP (↑t.gc / 2) (↑t.gc % 2)) = true) ∧
    (let t : UpTx := tx0 0x02; let a : BitVec 32 := 0x900; let s : State := stOf ((up0 2 0).wr (UP_STATE_WIP 0 0) 1); let i := (Instr.fourByteErase4Kib t a, 33, Dev.allModes); UpReady s.dev t i.snd.fst i.snd.snd ∧ s.dev.on (UP_STATE_WIP (↑t.gc / 2) (↑t.gc % 2)) = true) ∧
    (let t : UpTx := tx0 0x02; let a : BitVec 32 := 0x900; let s : State := stOf ((up0 2 0).wr (UP_STATE_WIP 0 0) 1); let i := (Instr.erase32Kib t a, 82, Dev.sdrModes); UpReady s.dev t i.snd.fst i.snd.snd ∧ s.dev.on (UP_STATE_WIP (↑t.gc / 2) (↑t.gc % 2)) = true) :=
  ⟨by decide +kernel, by decide +kernel, by decide +kernel, by decide +kernel, by decide +kernel⟩

theorem witness_BusyDropsWrites_4 :
    (let t : UpTx := tx0 0x02; let a : BitVec 32 := 0x900; let s : State := stOf ((up0 2 0).wr (UP_STATE_WIP 0 0) 1); let i := (Instr.fourByteErase32Kib t a, 92, Dev.sdrModes); UpReady s.dev t i.snd.fst i.snd.snd ∧ s.dev.on (UP_STATE_WIP (↑t.gc / 2) (↑t.gc % 2)) = true) :=
  by decide +kernel

theorem witness_EmulatedReads :
    (let t : UpTx := tx0 0x02; let len : Nat := 7; let s : State := stOf (((up0 2 0).wr (UP_STATE_PROT 0 0) 1).wr (WB_CS_WP_VIEW 0 0) 63); let n : Nat := ↑t.gc; let wip := s.dev.rd (UP_STATE_WIP (n / 2) (n % 2)); let i := (Instr.readStatusRegister t len, 5, 0, List.replicate len (BitVec.ofNat 8 (wip + 2 * s.dev.rd (UP_STATE_WEL (n / 2) (n % 2)) + 4 * s.dev.rd (WB_CS_WP_VIEW (n / 2) (n % 2))))); UpReady s.dev t i.snd.fst Dev.allModes) ∧
    (let t : UpTx := tx0 0x02; let len : Nat := 7; let s : State := stOf (((up0 2 0).wr (UP_STATE_PROT 0 0) 1).wr (WB_CS_WP_VIEW 0 0) 63); let n : Nat := ↑t.gc; let wip := s.dev.rd (UP_STATE_WIP (n / 2) (n % 2)); let i := (Instr.readFlagStatusRegister t len, 112, 0, List.replicate len (BitVec.ofNat 8 (128 * (1 - wip) + 32 * s.dev.rd (UP_STATE_ERASE_FAIL (n / 2) (n % 2)) + 16 * s.dev.rd (UP_STATE_PROG_FAIL (n / 2) (n % 2)) + 2 * s.dev.rd (UP_STATE_PROT (n / 2) (n % 2))))); UpReady s.dev t i.snd.fst Dev.allModes) ∧
    (let t : UpTx := tx0 0x02; let len : Nat := 7; let s : State := stOf (((up0 2 0).wr (UP_STATE_PROT 0 0) 1).wr (WB_CS_WP_VIEW 0 0) 63); let n : Nat := ↑t.gc; let i := (Instr.readId t len, 159, 0, List.map (s.dev.idByte n) (List.range len)); UpReady s.dev t i.snd.fst Dev.allModes) ∧
    (let t : UpTx := tx0 0x02; let len : Nat := 7; let a : BitVec 24 := 3; let s : State := stOf (((up0 2 0).wr (UP_STATE_PROT 0 0) 1).wr (WB_CS_WP_VIEW 0 0) 63); let n : Nat := ↑t.gc; let i := (Instr.readSfdp t a len, 90, a.toNat, List.map (fun j => s.dev.sfdpByte n ((a.toNat + j) % 2 ^ 24)) (List.range len)); UpReady s.dev t i.snd.fst Dev.allModes) :=
  ⟨by decide +kernel, by decide +kernel, by decide +kernel, by decide +kernel⟩

theorem witness_EmulatedWrites :
    (let t : UpTx := tx0 0x02; let s : State := stOf (((up0 2 0).wr (UP_STATE_PROT 0 0) 1).wr (WB_CS_WRSR_MODE 0 0) 2); let n : Nat := ↑t.gc; let p := n / 2; let c := n % 2; let wel := UP_STATE_WEL p c; UpReady s.dev t 6 Dev.allModes ∧ UpReady s.dev t 4 Dev.allModes ∧ UpReady s.dev t 183 Dev.sdrModes ∧ UpReady s.dev t 233 Dev.sdrModes ∧ UpReady s.dev t 80 Dev.allModes ∧ UpReady s.dev t 119 Dev.allModes ∧ UpReady s.dev t 102 Dev.allModes ∧ UpReady s.dev t 1 Dev.allModes ∧ s.dev.on wel = true ∧ s.dev.rd (WB_CS_WRSR_MODE p c) = 2 ∧ UpReady s.dev t 129 Dev.allModes) ∧
    (let t : UpTx := tx0 0x99; let s : State := stOf { (((up0 2 6).wr (UP_STATE_PROT 0 0) 1).wr (WB_CS_WRSR_MODE 0 0) 2) with gcs := [(0, { entry := some (rec0 2), lastOpc := 0x66 })] }; let n : Nat := ↑t.gc; let p := n / 2; let c := n % 2; UpReady s.dev t 153 Dev.allModes ∧ (s.dev.gc n).lastOpc = 102 ∧ s.dev.on (UP_STATE_WIP p c) = false) :=
  ⟨⟨by decide +kernel, by decide +kernel, by decide +kernel, by decide +kernel, by decide +kernel⟩, by decide +kernel⟩

theorem witness_ModeSwitches :
    (let t : UpTx := tx0 0x99; let a : BitVec 32 := 0; let data : Bytes := [9]; let s : State := stOf (((up0 2 0).wr (UP_CFG_RUN_MODE 0 0) 5).wr (UP_CFG_MODE_SW_DATA 0 0) 9); let n : Nat := ↑t.gc; let p := n / 2; let c := n % 2; let right := s.dev.on (UP_STATE_WEL p c) = true ∧ a = 0 ∧ data = [BitVec.ofNat 8 (s.dev.rd (UP_CFG_MODE_SW_DATA p c))]; s.dev.awake = true ∧ s.dev.ownsPorts = true ∧ s.dev.on (COMP_STATUS_RELEASE n) = true ∧ s.dev.on (UP_STATE_CONT p c) = false ∧ t.bgBusy = false ∧ s.dev.upMode n < 5 ∧ s.dev.switchArmed n = true ∧ right) ∧
    (let t : UpTx := tx0 0x99; let a : BitVec 32 := 1; let data : Bytes := [9]; let s : State := stOf (((up0 2 0).wr (UP_CFG_RUN_MODE 0 0) 5).wr (UP_CFG_MODE_SW_DATA 0 0) 9); let n : Nat := ↑t.gc; let p := n / 2; let c := n % 2; let right := s.dev.on (UP_STATE_WEL p c) = true ∧ a = 0 ∧ data = [BitVec.ofNat 8 (s.dev.rd (UP_CFG_MODE_SW_DATA p c))]; s.dev.awake = true ∧ s.dev.ownsPorts = true ∧ s.dev.on (COMP_STATUS_RELEASE n) = true ∧ s.dev.on (UP_STATE_CONT p c) = false ∧ t.bgBusy = false ∧ s.dev.upMode n < 5 ∧ s.dev.switchArmed n = true ∧ ¬right) :=
  ⟨by decide +kernel, by decide +kernel⟩

theorem witness_RefusedOpcodes :
    (let t : UpTx := tx0 0xFE; let opc : Byte := 0xFE; let s : State := stOf (up0 2 6); let n : Nat := ↑t.gc; let p := n / 2; let c := n % 2; let a : BitVec 32 := 1; let data : Bytes := [9]; let i := (Instr.fastRead t a data none, 11, [0, 3, 5]); s.dev.awake = true ∧ s.dev.ownsPorts = true ∧ s.dev.on (COMP_STATUS_RELEASE n) = true ∧ s.dev.on (UP_STATE_CONT p c) = false ∧ t.bgBusy = false ∧ ¬s.dev.upMode n ∈ listedModes (BitVec.toNat opc) ∧ (s.dev.switchArmed n && decide (BitVec.toNat opc = s.dev.rd (UP_CFG_MODE_SW_OPC p c))) = false ∧ ¬s.dev.upMode n ∈ i.snd.snd ∧ (s.dev.switchArmed n && decide (i.snd.fst = s.dev.rd (UP_CFG_MODE_SW_OPC p c))) = false) ∧
    (let t : UpTx := tx0 0xFE; let a : BitVec 32 := 1; let data : Bytes := [9]; let s : State := stOf (up0 2 6); let n : Nat := ↑t.gc; let p := n / 2; let c := n % 2; let i := (Instr.pageProgram t a data, 2, [0, 3, 4]); s.dev.awake = true ∧ s.dev.ownsPorts = true ∧ s.dev.on (COMP_STATUS_RELEASE n) = true ∧ s.dev.on (UP_STATE_CONT p c) = false ∧ t.bgBusy = false ∧ ¬s.dev.upMode n ∈ i.snd.snd ∧ (s.dev.switchArmed n && decide (i.snd.fst = s.dev.rd (UP_CFG_MODE_SW_OPC p c))) = false) ∧
    (let t : UpTx := tx0 0xFE; let a : BitVec 32 := 1; let s : State := stOf (up0 2 6); let n : Nat := ↑t.gc; let p := n / 2; let c := n % 2; let i := (Instr.erase4Kib t a, 32, Dev.sdrModes); s.dev.awake = true ∧ s.dev.ownsPorts = true ∧ s.dev.on (COMP_STATUS_RELEASE n) = true ∧ s.dev.on (UP_STATE_CONT p c) = false ∧ t.bgBusy = false ∧ ¬s.dev.upMode n ∈ i.snd.snd ∧ (s.dev.switchArmed n && decide (i.snd.fst = s.dev.rd (UP_CFG_MODE_SW_OPC p c))) = false) ∧
    (let t : UpTx := tx0 0xFE; let s : State := stOf (up0 2 6); let n : Nat := ↑t.gc; let p := n / 2; let c := n % 2; let i := (Instr.enter4ByteAddressMode t, 183, Dev.sdrModes); s.dev.awake = true ∧ s.dev.ownsPorts = true ∧ s.dev.on (COMP_STATUS_RELEASE n) = true ∧ s.dev.on (UP_STATE_CONT p c) = false ∧ t.bgBusy = false ∧ ¬s.dev.upMode n ∈ i.snd.snd ∧ (s.dev.switchArmed n && decide (i.snd.fst = s.dev.rd (UP_CFG_MODE_SW_OPC p c))) = false) :=
  ⟨by decide +kernel, by decide +kernel, by decide +kernel, by decide +kernel⟩

theorem witness_AlwaysBlocked :
    (let t : UpTx := tx0 0xFE; let s : State := stOf (up0 2 1); let n : Nat := ↑t.gc; let p := n / 2; let c := n % 2; let i := (Instr.chipErase t, 96, Dev.allModes, true); UpReady s.dev t i.snd.fst i.snd.snd.fst ∧ (i.snd.snd.snd = true → s.dev.on (UP_STATE_WIP p c) = false ∧ s.dev.on (UP_STATE_WEL p c) = true)) ∧
    (let t : UpTx := tx0 0xFE; let s : State := stOf (up0 2 1); let n : Nat := ↑t.gc; let p := n / 2; let c := n % 2; let i := (Instr.chipEraseC7 t, 199, Dev.allModes, true); UpReady s.dev t i.snd.fst i.snd.snd.fst ∧ (i.snd.snd.snd = true → s.dev.on (UP_STATE_WIP p c) = false ∧ s.dev.on (UP_STATE_WEL p c) = true)) ∧
    (let t : UpTx := tx0 0xFE; let a : BitVec 32 := 1; let data : Bytes := [9]; let s : State := stOf (up0 2 1); let n : Nat := ↑t.gc; let p := n / 2; let c := n % 2; let i := (Instr.programSecurityRegisters t a data, 66, Dev.allModes, true); UpReady s.dev t i.snd.fst i.snd.snd.fst ∧ (i.snd.snd.snd = true → s.dev.on (UP_STATE_WIP p c) = false ∧ s.dev.on (UP_STATE_WEL p c) = true)) ∧
    (let t : UpTx := tx0 0xFE; let a : BitVec 32 := 1; let s : State := stOf (up0 2 1); let n : Nat := ↑t.gc; let p := n / 2; let c := n % 2; let i := (Instr.eraseSecurityRegisters t a, 68, Dev.allModes, true); UpReady s.dev t i.snd.fst i.snd.snd.fst ∧ (i.snd.snd.snd = true → s.dev.on (UP_STATE_WIP p c) = false ∧ s.dev.on (UP_STATE_WEL p c) = true)) ∧
    (let t : UpTx := tx0 0xFE; let v : Byte := 2; let s : State := stOf (up0 2 1); let n : Nat := ↑t.gc; let p := n / 2; let c := n % 2; let i := (Instr.writeStatusRegister2 t v, 49, Dev.sdrModes, false); UpReady s.dev t i.snd.fst i.snd.snd.fst ∧ (i.snd.snd.snd = true → s.dev.on (UP_STATE_WIP p c) = false ∧ s.dev.on (UP_STATE_WEL p c) = true)) :=
  ⟨by decide +kernel, by decide +kernel, by decide +kernel, by decide +kernel, by decide +kernel⟩

theorem witness_AlwaysBlocked_2 :
    (let t : UpTx := tx0 0xFE; let a : BitVec 32 := 1; let v : Byte := 2; let s : State := stOf (up0 2 1); let n : Nat := ↑t.gc; let p := n / 2; let c := n % 2; let i := (Instr.writeNonvolatileConfigRegister t a v, 177, Dev.allModes, false); UpReady s.dev t i.snd.fst i.snd.snd.fst ∧ (i.snd.snd.snd = true → s.dev.on (UP_STATE_WIP p c) = false ∧ s.dev.on (UP_STATE_WEL p c) = true)) :=
  by decide +kernel

theorem witness_ResetsHappen :
    (let s : State := stOf off0; s.dev.phase = Phase.off) ∧
    (let ns : Nat := 3000; 3000 ≤ ns) ∧
    (let ns : Nat := 999; ns < 1000) ∧
    (let ns : Nat := 2999; 1000 ≤ ns ∧ ns < 3000) ∧
    (let s : State := stOf { rr with run := {rr.run with resetDue := some 5}, frameHigh := 3 }; let f : Nat := 5; s.dev.run.resetDue = some f ∧ s.dev.awake = true ∧ f ≤ s.dev.frame) :=
  ⟨by decide +kernel, by decide +kernel, by decide +kernel, by decide +kernel, by decide +kernel⟩

theorem witness_ResetsHappen_2 :
    (let s : State := stOf rr; let x : Desc := fwd 0x709 0 [] 0; Taken x 1801 s ∧ x.src = [] ∧ s.dev.phase = Phase.running ∨ s.dev.phase = Phase.pilotDown) ∧
    (let s : State := State.reset; s.dev.phase = Phase.pilotDown ∧ s.dev.run.resetDue = none) :=
  ⟨by decide +kernel, by decide +kernel⟩

theorem witness_FlashOperationsEnd :
    (let n : Fin 96 := (1 : Fin 96); let o : DnOp := (⟨false, 3, false, []⟩ : DnOp); let s : State := stOf (dop false 3); let failed : Bool := true; (s.dev.gc ↑n).op = some o ∧ o.own = false ∧ s.dev.dnUp n = true ∧ o.frame < s.dev.frame ∧ s.dev.frame ≤ o.frame + s.dev.opLimit (↑n) o ∧ (failed = true ∨ o.rest = [])) ∧
    (let n : Fin 96 := (1 : Fin 96); let o : DnOp := (⟨false, 3, false, [.program 5 [1]]⟩ : DnOp); let s : State := stOf { (b0.wr (UP_STATE_WIP 0 1) 1) with gcs := [(1, { op := some ⟨false, 3, false, [.program 5 [1]]⟩ })] }; (s.dev.gc ↑n).op = some o ∧ o.own = false ∧ s.dev.dnUp n = true ∧ o.frame < s.dev.frame ∧ s.dev.frame ≤ o.frame + s.dev.opLimit (↑n) o ∧ o.rest ≠ []) ∧
    (let n : Fin 96 := (1 : Fin 96); let o : DnOp := (⟨true, 3, false, []⟩ : DnOp); let s : State := stOf ((dop true 3).wr (DN_FLASH_ERASE_LIMIT 0 1) 7); (s.dev.gc ↑n).op = some o ∧ o.own = false ∧ s.dev.dnUp n = true ∧ o.frame + s.dev.opLimit (↑n) o ≤ s.dev.frame) ∧
    (let p : Fin 48 := (0 : Fin 48); let c : Fin 2 := (1 : Fin 2); let i : Nat := 5; let ok : List Nat := [1,2,3]; let s : State := stOf { b0 with pairs := [(0, { sweep := some (1, 5, [1,2,3]) })] }; (s.dev.pair ↑p).sweep = some (↑c, i, ok) ∧ s.dev.dnUp ⟨2 * p.val + c.val, by omega⟩ = true ∧ (s.dev.gc (2 * ↑p + ↑c)).op = none ∧ s.dev.granted5 ↑p = true ∧ (gcsOf ↑p).any s.dev.work5 = false) ∧
    (let p : Fin 48 := (0 : Fin 48); let s : State := stOf (b0.wr FS_FRAME_CNT 500000); (s.dev.pair ↑p).zqAt + 500000 ≤ s.dev.frame) :=
  ⟨by decide +kernel, by decide +kernel, by decide +kernel, by decide +kernel, by decide +kernel⟩

theorem witness_ChecksConclude :
    (let n : Fin 96 := (1 : Fin 96); let e : Fin 32 := (0 : Fin 32); let x : Pend := pd 0; let s : State := stOf (pdv 0 [] [fr0 100]); let p : Part := pt0; let lvl : Nat := 1; let j : Nat := 0; s.dev.pendAt ↑n ↑e = some x ∧ s.dev.readable n = true ∧ s.dev.nextEntry ↑n = some x ∧ s.dev.frame ≤ x.born + x.horizon ∧ s.dev.nextNode (↑n) x.parts x.granule = some (p, lvl, j)) ∧
    (let n : Fin 96 := (1 : Fin 96); let e : Fin 32 := (0 : Fin 32); let x : Pend := pd 0; let s : State := stOf (pdv 0 [nd0] [fr0 100]); let f : Frame := fr0 100; s.dev.pendAt ↑n ↑e = some x ∧ s.dev.readable n = true ∧ s.dev.nextEntry ↑n = some x ∧ s.dev.frame ≤ x.born + x.horizon ∧ s.dev.nextNode (↑n) x.parts x.granule = none ∧ s.dev.frameOf (↑n) x.granule = some f) ∧
    (let n : Fin 96 := (1 : Fin 96); let e : Fin 32 := (0 : Fin 32); let x : Pend := pd 0; let s : State := stOf (pdv 0 [nd0] [fr0 2048]); let f : Frame := fr0 2048; let p : Part := pt0; s.dev.pendAt ↑n ↑e = some x ∧ s.dev.busUp n = true ∧ s.dev.frame ≤ x.born + x.horizon ∧ s.dev.frameOf (↑n) x.granule = some f ∧ partOf x.parts x.granule = some p ∧ Dev.missingBytes f = [] ∧ s.dev.missingPath (↑n) p x.granule = []) ∧
    (let n : Fin 96 := (1 : Fin 96); let e : Fin 32 := (0 : Fin 32); let x : Pend := pd 0; let s : State := stOf ((pdv 0 [ndb] [fr0 2048]).wr FS_FRAME_CNT 70); s.dev.pendAt ↑n ↑e = some x ∧ x.born + x.horizon ≤ s.dev.frame) ∧
    (let n : Fin 96 := (1 : Fin 96); let cs : Bool := false; let x : Fail := (⟨0, 0, 3, 7⟩ : Fail); let xs : List Fail := ([] : List Fail); let s : State := stOf cfd; (s.dev.gc ↑n).fails = x :: xs ∧ s.dev.state ↑n = CompState.released ∧ s.dev.on (COMP_STATUS_RELEASE ↑n) = true ∧ s.dev.frozen = false ∧ x.frame < s.dev.frame ∧ (cs = true ∨ x.frame + 2 ≤ s.dev.frame)) :=
  ⟨by decide +kernel, ⟨by decide +kernel, by decide +kernel, by decide +kernel, by decide +kernel, by decide +kernel, rfl⟩, ⟨by decide +kernel, by decide +kernel, by decide +kernel, rfl, by decide +kernel, frame_full, by decide +kernel⟩, by decide +kernel, by decide +kernel⟩

theorem witness_ChecksConclude_2 :
    (let p : Fin 48 := (0 : Fin 48); let s : State := stOf { cfd with pol := { bytes := polb }, pairs := [(0, { disagree := 16 })] }; s.dev.disagreeHold = true ∧ s.dev.disagreeDue ↑p = true) :=
  by decide +kernel

theorem witness_StreamsAndPins :
    (let n : Fin 96 := (1 : Fin 96); let b : Bytes := List.replicate 768 0; let s : State := stOf (sdv 1 [] [] (some (svs false))); let gets := fun what addr need => (s.dev.gather (↑n) what addr need (s.dev.bgLimit (↑n / 2) 2048) false b).fst; let x : Machine.Stream := svs false; let w : Bytes := List.replicate 768 0; let ok : Bool := Dev.matches_ (some pt0.root) (List.replicate 768 0); s.dev.readable n = true ∧ s.dev.up = true ∧ (s.dev.gc ↑n).stream = some x ∧ (if (s.dev.gc ↑n).audit = true then s.dev.granted5 (↑n / 2) = true ∧ s.dev.rd MON_GOV_STEP = 0 else s.dev.granted4 ↑n = true) ∧ ((∃ p lvl j, s.dev.nextItem (↑n) x = some (Dev.Item.node p lvl j) ∧ gets 0 (nodeAddr p lvl j) 768 = some w ∧ ok = Dev.matches_ (s.dev.nodeExpect (↑n) p lvl j) w) ∨ ∃ p i, s.dev.nextItem (↑n) x = some (Dev.Item.granule p i) ∧ gets 0 (s.dev.streamAddr (↑n) x p i) 2048 = some w ∧ ok = Dev.matches_ (s.dev.leafExpect (↑n) p (p.base / 2048 + i)) w)) ∧
    (let n : Fin 96 := (1 : Fin 96); let b : Bytes := List.replicate 2048 0; let s : State := stOf (spin [nd0]); let ps := (Option.map Oxm.parts (s.dev.comp ↑n).oxm).getD []; let gets := fun what addr need => (s.dev.gather (↑n) what addr need (s.dev.bgLimit (↑n / 2) 2048) false b).fst; let g : Nat := 0; let p : Part := pt0; let w : Bytes := List.replicate 2048 0; s.dev.readable n = true ∧ s.dev.up = true ∧ s.dev.pinsWanted ↑n = true ∧ (s.dev.gc ↑n).fails = [] ∧ s.dev.granted4 ↑n = true ∧ s.dev.unpinned ↑n = some g ∧ s.dev.nextNode (↑n) ps g = none ∧ partOf ps g = some p ∧ gets 1 (2048 * g) 2048 = some w ∧ (s.dev.frameOf (↑n) g ≠ none ∨ s.dev.freeBank ≠ none)) ∧
    (let n : Fin 96 := (1 : Fin 96); let b : Bytes := List.replicate 2048 0; let s : State := stOf (sdv 2 [ndb] [rfr] none); let ps := (Option.map Oxm.parts (s.dev.comp ↑n).oxm).getD []; let gets := fun what addr need => (s.dev.gather (↑n) what addr need (s.dev.bgLimit (↑n / 2) 2048) false b).fst; let g : Fin 131072 := (0 : Fin 131072); let p : Part := pt0; let w : Bytes := List.replicate 2048 0; s.dev.readable n = true ∧ (s.dev.gc ↑n).fails = [] ∧ s.dev.granted4 ↑n = true ∧ s.dev.gstate ↑n ↑g = some GState.refetch ∧ s.dev.nextNode (↑n) ps ↑g = none ∧ partOf ps ↑g = some p ∧ gets 2 (2048 * ↑g) 2048 = some w) ∧
    (let n : Fin 96 := (1 : Fin 96); let b : Bytes := List.replicate 2048 0; let s : State := stOf (pfd 2 []); let gets := fun what addr need => (s.dev.gather (↑n) what addr need (s.dev.bgLimit (↑n / 2) 2048) false b).fst; let g : Fin 131072 := (1 : Fin 131072); let w : Bytes := List.replicate 2048 0; s.dev.readable n = true ∧ s.dev.state ↑n = CompState.released ∧ s.dev.mayPrefetch ↑n ↑g = true ∧ s.dev.granted5 (↑n / 2) = true ∧ gets 3 (2048 * ↑g) 2048 = some w ∧ s.dev.freeBank ≠ none ∧ s.dev.classAt (↑n) (2048 * ↑g) = 2) ∧
    (let n : Fin 96 := (1 : Fin 96); let b : Bytes := List.replicate 2048 0; let s : State := stOf (pfd 1 [nd0]); let ps := (Option.map Oxm.parts (s.dev.comp ↑n).oxm).getD []; let gets := fun what addr need => (s.dev.gather (↑n) what addr need (s.dev.bgLimit (↑n / 2) 2048) false b).fst; let g : Fin 131072 := (1 : Fin 131072); let w : Bytes := List.replicate 2048 0; let p : Part := pt1; s.dev.readable n = true ∧ s.dev.state ↑n = CompState.released ∧ s.dev.mayPrefetch ↑n ↑g = true ∧ s.dev.granted5 (↑n / 2) = true ∧ gets 3 (2048 * ↑g) 2048 = some w ∧ s.dev.freeBank ≠ none ∧ s.dev.classAt (↑n) (2048 * ↑g) = 1 ∧ s.dev.nextNode (↑n) ps ↑g = none ∧ partOf ps ↑g = some p) :=
  ⟨⟨by decide +kernel, by decide +kernel, by decide +kernel, by decide +kernel, .inl ⟨pt0, 1, 0, by decide +kernel, by decide +kernel, rfl⟩⟩, by decide +kernel, by decide +kernel, by decide +kernel, by decide +kernel⟩

theorem witness_StreamsAndPins_2 :
    (let n : Fin 96 := (1 : Fin 96); let s : State := stOf gad; let o : Oxm := (⟨1, 0, 0, 1, [pt0], []⟩ : Oxm); s.dev.auditDue ↑n = true ∧ (s.dev.comp ↑n).golden = some o ∧ s.dev.slotIntact o.slot = true) ∧
    (let n : Fin 96 := (1 : Fin 96); let s : State := stOf { gad with gcs := [(1, { entry := some (rec0 1), audit := true, stream := some ⟨.golden, [], 0, false, true⟩ })] }; let x : Machine.Stream := (⟨.golden, [], 0, false, true⟩ : Stream); (s.dev.gc ↑n).audit = true ∧ (s.dev.gc ↑n).stream = some x ∧ x.parts = []) :=
  ⟨by decide +kernel, by decide +kernel⟩

theorem witness_ThawRequests :
    (let n : Fin 96 := (1 : Fin 96); let s : State := stOf { (b0.wr (COMP_STATUS_STATE 1) 3).wr (COMP_STATUS_GOLDEN 1) 1 with comps := [(1, { thawDue := true, thaws := [3, 4] })] }; s.dev.up = true ∧ s.dev.state ↑n = CompState.contained ∧ (s.dev.comp ↑n).thawDue = true) :=
  by decide +kernel

theorem witness_ComponentsMove :
    (let s : State := stOf ow; s.dev.up = true ∧ s.dev.ownsPorts = true ∧ s.dev.started = false ∧ s.dev.pol.bytes ≠ [] ∧ s.dev.rd DRZ_STATE = 0) ∧
    (let n : Fin 96 := (1 : Fin 96); let s : State := stOf (cm 0 0 1); let ready := s.dev.state ↑n = CompState.held ∧ s.dev.on (COMP_STATUS_READY ↑n) = true ∧ s.dev.pinsComplete ↑n = true ∧ s.dev.rd (COMP_STATUS_HOLD ↑n) = 0 ∧ s.dev.rd CR_STATE = 1 ∧ Option.any (fun w => !w.golden) (s.dev.gc ↑n).write = false; s.dev.awake = true ∧ s.dev.pairState = PairState.owning ∧ s.dev.frozen = false ∧ s.dev.verifyPaused = false ∧ (s.dev.comp ↑n).forceDue = false ∧ ready) ∧
    (let n : Fin 96 := (1 : Fin 96); let s : State := stOf (cm 0 1 1); let ready := s.dev.state ↑n = CompState.held ∧ s.dev.on (COMP_STATUS_READY ↑n) = true ∧ s.dev.pinsComplete ↑n = true ∧ s.dev.rd (COMP_STATUS_HOLD ↑n) = 0 ∧ s.dev.rd CR_STATE = 1 ∧ Option.any (fun w => !w.golden) (s.dev.gc ↑n).write = false; (s.dev.comp ↑n).forceDue = false ∧ ¬ready) ∧
    (let n : Fin 96 := (1 : Fin 96); let s : State := stOf ((cm 0 0x14 1).wr (COMP_CFG_HOLD_MIN 1) 5); s.dev.held (↑n) Hold.minHold = true ∧ (s.dev.comp ↑n).fell + s.dev.rd (COMP_CFG_HOLD_MIN ↑n) ≤ s.dev.frame) ∧
    (let n : Fin 96 := (1 : Fin 96); let c : CompRec := rec8; let k : Thaw := ({ pass := 1 } : Thaw); let s : State := stOf (th 1 (some ⟨.golden, [], 0, false, true⟩)); let x : Machine.Stream := (⟨.golden, [], 0, false, true⟩ : Stream); s.dev.up = true ∧ s.dev.state ↑n = CompState.thawing ∧ (s.dev.gc ↑n).op = none ∧ (s.dev.gc ↑n).entry = some c ∧ (s.dev.gc ↑n).thaw = some k ∧ k.pass = 1 ∧ (s.dev.gc ↑n).stream = some x ∧ x.parts = [] ∧ x.failed = true) :=
  ⟨by decide +kernel, by decide +kernel, by decide +kernel, by decide +kernel, by decide +kernel⟩

theorem witness_ComponentsMove_2 :
    (let n : Fin 96 := (1 : Fin 96); let c : CompRec := rec8; let k : Thaw := ({ pass := 1 } : Thaw); let s : State := stOf (th 1 (some ⟨.golden, [], 0, false, false⟩)); let x : Machine.Stream := (⟨.golden, [], 0, false, false⟩ : Stream); s.dev.up = true ∧ s.dev.state ↑n = CompState.thawing ∧ (s.dev.gc ↑n).op = none ∧ (s.dev.gc ↑n).entry = some c ∧ (s.dev.gc ↑n).thaw = some k ∧ k.pass = 1 ∧ (s.dev.gc ↑n).stream = some x ∧ x.parts = [] ∧ x.failed = false) ∧
    (let n : Fin 96 := (1 : Fin 96); let c : CompRec := rec8; let us : List UnitIn := List.replicate 16 (unitIn 4096); let erase64 : Bool := false; let k : Thaw := (⟨2, {}⟩ : Thaw); let s : State := stOf (th2 {}); let w : List WStep := List.replicate 16 (.unit false : WStep); let d1 : Dev := ((Dev.planUnits 1 rec8 [] ((rec8.units 1 false).zip (List.replicate 16 (unitIn 4096))) (th2 {})).map Prod.snd).getD (th2 {}); let o : Oxm := (⟨1, 0, 0, 1, [], []⟩ : Oxm); s.dev.up = true ∧ s.dev.state ↑n = CompState.thawing ∧ (s.dev.gc ↑n).op = none ∧ (s.dev.gc ↑n).entry = some c ∧ (s.dev.gc ↑n).thaw = some k ∧ k.pass = 2 ∧ k.writes.planned = false ∧ us.length = (c.units 1 erase64).length ∧ Dev.planUnits (↑n) c (List.map Prod.snd (Dev.goldenParts ((Option.map Oxm.parts (s.dev.comp ↑n).golden).getD []))) ((c.units 1 erase64).zip us) s.dev = some (w, d1) ∧ (∀ (y : WStep), y ∈ w → y = WStep.unit false) ∧ (d1.comp ↑n).golden = some o ∧ (d1.gc ↑n).thaw = some k ∧ d1.state ↑n = CompState.thawing) ∧
    (let n : Fin 96 := (1 : Fin 96); let c : CompRec := rec8; let k : Thaw := (⟨2, true, none⟩ : Thaw); let s : State := stOf (th2 ⟨true, none⟩); let o : Oxm := (⟨1, 0, 0, 1, [], []⟩ : Oxm); s.dev.up = true ∧ s.dev.state ↑n = CompState.thawing ∧ (s.dev.gc ↑n).op = none ∧ (s.dev.gc ↑n).entry = some c ∧ (s.dev.gc ↑n).thaw = some k ∧ k.pass = 2 ∧ k.writes.planned = true ∧ (s.dev.comp ↑n).golden = some o ∧ k.writes.fault = none) ∧
    (let n : Fin 96 := (1 : Fin 96); let c : CompRec := rec8; let k : Thaw := (⟨2, true, some .flashWrite⟩ : Thaw); let s : State := stOf (th2 ⟨true, some .flashWrite⟩); let o : Oxm := (⟨1, 0, 0, 1, [], []⟩ : Oxm); let st : Status := Status.flashWrite; s.dev.up = true ∧ s.dev.state ↑n = CompState.thawing ∧ (s.dev.gc ↑n).op = none ∧ (s.dev.gc ↑n).entry = some c ∧ (s.dev.gc ↑n).thaw = some k ∧ k.pass = 2 ∧ k.writes.planned = true ∧ (s.dev.comp ↑n).golden = some o ∧ k.writes.fault = some st) ∧
    (let n : Fin 96 := (1 : Fin 96); let c : CompRec := rec8; let k : Thaw := (⟨3, true, none⟩ : Thaw); let s : State := stOf (th3 ⟨true, none⟩ 0); let x : Machine.Stream := (⟨.thaw3, [], 0, false, false⟩ : Stream); let o : Oxm := (⟨1, 0, 0, 1, [pt0], [4, 5]⟩ : Oxm); s.dev.up = true ∧ s.dev.state ↑n = CompState.thawing ∧ (s.dev.gc ↑n).op = none ∧ (s.dev.gc ↑n).entry = some c ∧ (s.dev.gc ↑n).thaw = some k ∧ k.pass = 3 ∧ (s.dev.gc ↑n).stream = some x ∧ (s.dev.comp ↑n).golden = some o ∧ k.writes.planned = true ∧ k.writes.fault = none) :=
  ⟨by decide +kernel, by decide +kernel, by decide +kernel, by decide +kernel, by decide +kernel⟩

theorem witness_ComponentsMove_3 :
    (let n : Fin 96 := (1 : Fin 96); let c : CompRec := { rec8 with oxmLoc := 0x81600000 }; let k : Thaw := (⟨3, {}⟩ : Thaw); let s : State := stOf (th3 {} 0x81600000); let x : Machine.Stream := (⟨.thaw3, [], 0, false, false⟩ : Stream); let o : Oxm := (⟨1, 0, 0, 1, [pt0], [4, 5]⟩ : Oxm); s.dev.up = true ∧ s.dev.state ↑n = CompState.thawing ∧ (s.dev.gc ↑n).op = none ∧ (s.dev.gc ↑n).entry = some c ∧ (s.dev.gc ↑n).thaw = some k ∧ k.pass = 3 ∧ (s.dev.gc ↑n).stream = some x ∧ (s.dev.comp ↑n).golden = some o ∧ k.writes.planned = false ∧ x.parts = [] ∧ x.failed = false ∧ s.dev.pinsComplete ↑n = true ∧ bit c.oxmLoc 31 = true) ∧
    (let n : Fin 96 := (1 : Fin 96); let k : Nat := 1; let o : Oxm := (⟨1, 0, 1, 1, [pt0], []⟩ : Oxm); let s : State := stOf (rv 2); s.dev.up = true ∧ (s.dev.comp ↑n).revoked = some k ∧ (s.dev.comp ↑n).oxm = some o ∧ o.slot = k) :=
  ⟨by decide +kernel, by decide +kernel⟩

theorem witness_ComponentCommands :
    (let x : Desc := fwd 0x200 (1) [] 0; let s : State := stOf ((cm 2 0 0).wr (COMP_STATUS_RELEASE 1) 1); CompTaken x 512 s) ∧
    (let x : Desc := fwd 0x201 (1) [] 0; let n : Fin 96 := (1 : Fin 96); let s : State := stOf (cm 0 8 0); CompTaken x 513 s ∧ x.comp = ↑n ∧ (found x 513 s).bistFailed n = false) ∧
    (let x : Desc := fwd 0x201 (1) [] 0; let n : Fin 96 := (1 : Fin 96); let s : State := stOf ((cm 0 8 0).wr (CELL_BIST_RESULT Cell.guard.offset) 2); CompTaken x 513 s ∧ x.comp = ↑n ∧ (found x 513 s).bistFailed n = true) ∧
    (let x : Desc := fwd 0x202 (1) [] 0; let c : CompRec := rec9; let s : State := stOf (cm 0 8 0); CompTaken x 514 s ∧ (found x 514 s).atRest x.comp = true ∧ ((found x 514 s).gc x.comp).entry = some c) ∧
    (let x : Desc := fwd 0x202 (1) [] 0; let s : State := stOf { cm 0 8 0 with gcs := [] }; CompTaken x 514 s ∧ (found x 514 s).atRest x.comp = true ∧ ((found x 514 s).gc x.comp).entry = none) :=
  ⟨by decide +kernel, by decide +kernel, by decide +kernel, by decide +kernel, by decide +kernel⟩

theorem witness_ComponentCommands_2 :
    (let x : Desc := fwd 0x202 (1) [] 0; let s : State := stOf (cm 2 8 0); CompTaken x 514 s ∧ (found x 514 s).atRest x.comp = false) ∧
    (let x : Desc := fwd 0x203 (1) [] 0; let s : State := stOf (cm 0 8 0); CompTaken x 515 s ∧ (found x 515 s).atRest x.comp = true) ∧
    (let x : Desc := fwd 0x203 (1) [] 0; let s : State := stOf (cm 2 8 0); CompTaken x 515 s ∧ (found x 515 s).atRest x.comp = false) ∧
    (let x : Desc := fwd 0x204 (1 + 256 + 2 ^ 64 * 5) [] 0; let oxm : Bytes := List.replicate 300 0; let s : State := stOf (cm 0 8 0); let golden := decide (x.par 1 8 = 1); let count := (x.par 8 64).toNat; let st : Status := Status.oxmInvalid; CompTaken x 516 s ∧ (x.par 1 8).toNat ≤ 1 ∧ (found x 516 s).imageWriteCheck x.comp golden count oxm x.src = some st) ∧
    (let x : Desc := fwd 0x205 (1) [] 0; let o : Oxm := (⟨1, 7, 1, 1, [pt0], []⟩ : Oxm); let s : State := stOf { cm 2 8 0 with comps := [(1, { oxm := some ⟨1, 7, 1, 1, [pt0], []⟩ })] }; CompTaken x 517 s ∧ (found x 517 s).state x.comp = CompState.released ∧ ((found x 517 s).comp x.comp).oxm = some o) :=
  ⟨by decide +kernel, by decide +kernel, by decide +kernel, by decide +kernel, by decide +kernel⟩

theorem witness_ComponentCommands_3 :
    (let x : Desc := fwd 0x205 (1) [] 0; let s : State := stOf (cm 0 8 0); CompTaken x 517 s ∧ (found x 517 s).state x.comp ≠ CompState.released) ∧
    (let x : Desc := fwd 0x206 (1) [] 0; let s : State := stOf ((cm 5 8 0).wr LC_STATE_STATE 1); CompTaken x 518 s ∧ (found x 518 s).atRest x.comp = true ∧ (found x 518 s).open_ = true ∧ (found x 518 s).held x.comp Hold.noEntry = false) ∧
    (let x : Desc := fwd 0x206 (1) [] 0; let s : State := stOf ((cm 5 8 0).wr LC_STATE_STATE 2); CompTaken x 518 s ∧ (found x 518 s).atRest x.comp = true ∧ (found x 518 s).open_ = false) ∧
    (let x : Desc := fwd 0x206 (1) [] 0; let s : State := stOf (cm 2 8 0); CompTaken x 518 s ∧ (found x 518 s).atRest x.comp = false) ∧
    (let n : Fin 96 := (1 : Fin 96); let w : ImgWrite := wr0 true 4096 ⟨true, none⟩; let c : CompRec := rec8; let s : State := stOf (iw true 4096 ⟨true, none⟩); s.dev.up = true ∧ (s.dev.gc ↑n).op = none ∧ (s.dev.gc ↑n).write = some w ∧ w.writes.planned = true ∧ (s.dev.gc ↑n).entry = some c ∧ (imageOutcome c w ≠ Status.ok ∨ w.golden = true ∨ w.storing = true)) :=
  ⟨by decide +kernel, by decide +kernel, by decide +kernel, by decide +kernel, ⟨by decide +kernel, by decide +kernel, rfl, by decide +kernel⟩⟩

theorem witness_ComponentCommands_4 :
    (let w : ImgWrite := wr0 false 5096 ⟨true, none⟩; List.length w.image < w.count) ∧
    (let w : ImgWrite := wr0 false 4096 ⟨true, some .flashWrite⟩; let st : Status := Status.flashWrite; w.count ≤ List.length w.image ∧ w.writes.fault = some st) :=
  ⟨by decide +kernel, by decide +kernel⟩

theorem witness_PolicyLoads :
    (let x : Desc := fwd 0x300 0 (List.replicate 40 1) 0; let s : State := stOf b0; let d := found x 768 s; Taken x 768 s ∧ (∀ (k : Fin 2), x.ref.port ≠ Port.i3c k) ∧ d.ownsPorts = true ∧ d.frontBusy = false ∧ d.pol.load = none ∧ d.anyStaged = false) ∧
    (let x : Desc := fwd 0x301 0 [] 10; let s : State := stOf ow; Taken x 769 s ∧ x.src = [] ∧ List.length (found x 769 s).pol.bytes ≤ x.dstLen) ∧
    (let b : Bytes := pb; let s : State := stOf { b0 with pol := { load := some pb } }; s.dev.up = true ∧ s.dev.pol.load = some b ∧ s.dev.pol.stored = false ∧ s.dev.otpx.burns = [] ∧ List.length b ≤ 1048576 ∧ bit (parsePolicy b).flags 0 = false) ∧
    (let n : Fin 96 := (1 : Fin 96); let s : State := stOf { b0 with pol := { load := some pb, stored := true, todo := [1], requester := some ⟨.fw,0,0⟩ }, ops := [⟨⟨.fw,0,0⟩, 0x300, 0, false, false, none, 0, 0, 0, [], 0, 0, 0⟩] }; let b : Bytes := pb; let r : OpRef := (⟨.fw,0,0⟩ : OpRef); s.dev.up = true ∧ s.dev.pol.load = some b ∧ s.dev.pol.stored = true ∧ s.dev.pol.todo = [↑n] ∧ s.dev.pol.requester = some r ∧ (parsePolicy b).comp ↑n = (s.dev.gc ↑n).entry ∧ s.dev.pairChanges (parsePolicy b) (↑n / 2) = false ∧ (s.dev.gc ↑n).staged = none) ∧
    (let n : Fin 96 := (1 : Fin 96); let s : State := stOf { b0 with gcs := [(1, { entry := some rec9, staged := some none })] }; let e : Option CompRec := (none : Option CompRec); s.dev.up = true ∧ s.dev.pol.load = none ∧ (s.dev.gc ↑n).staged = some e ∧ s.dev.state ↑n = CompState.held ∧ (s.dev.pair (↑n / 2)).staged = none) :=
  ⟨by decide +kernel, by decide +kernel, by decide +kernel, by decide +kernel, by decide +kernel⟩

theorem witness_OtpCommands :
    (let x : Desc := fwd 0x600 (1024 + 2 ^ 16 * 2) [] 8; let s : State := stOf vq; let w := (x.par 0 16).toNat; let n := (x.par 2 16).toNat; Taken x 1536 s ∧ State.oneRegion w n = true ∧ x.src = [] ∧ 4 * n ≤ x.dstLen) ∧
    (let x : Desc := fwd 0x601 (512 + 2 ^ 16 * 1) [1,0,0,0] 8; let s : State := stOf vq; let w := (x.par 0 16).toNat; let n := (x.par 2 16).toNat; let f : State := { pending := s.pending, home := s.home, otp := s.otp, dev := found x 1537 s }; Taken x 1537 s ∧ State.oneRegion w n = true ∧ List.length x.src = 4 * n ∧ f.mayProgram (w / 64) = false) ∧
    (let x : Desc := fwd 0x601 (1024 + 2 ^ 16 * 1) [1,0,0,0] 8; let s : State := otp vq [(0, bw 0x3C5AA5C3), (1087, bw 0xFFFF)]; let w := (x.par 0 16).toNat; let n := (x.par 2 16).toNat; let f : State := { pending := s.pending, home := s.home, otp := s.otp, dev := found x 1537 s }; Taken x 1537 s ∧ State.oneRegion w n = true ∧ List.length x.src = 4 * n ∧ f.mayProgram (w / 64) = true ∧ s.regionState (w / 64) ≠ 0) ∧
    (let x : Desc := fwd 0x601 (1024 + 2 ^ 16 * 1) [1,0,0,0] 8; let s : State := stOf run; let w := (x.par 0 16).toNat; let n := (x.par 2 16).toNat; let f : State := { pending := s.pending, home := s.home, otp := s.otp, dev := found x 1537 s }; let steps := List.map (fun i => BurnStep.word (w + i) (leAt x.src (4 * i) 4) false) (List.range n); Taken x 1537 s ∧ State.oneRegion w n = true ∧ List.length x.src = 4 * n ∧ f.mayProgram (w / 64) = true ∧ s.regionState (w / 64) = 0 ∧ (∀ (i : Nat), i < n → subset (s.word (w + i)).low (leAt x.src (4 * i) 4) = true) ∧ f.dev.otpSupply = false ∧ unburned s steps = true) ∧
    (let x : Desc := fwd 0x601 (1024 + 2 ^ 16 * 1) [1,0,0,0] 8; let s : State := stOf vq; let w := (x.par 0 16).toNat; let n := (x.par 2 16).toNat; let f : State := { pending := s.pending, home := s.home, otp := s.otp, dev := found x 1537 s }; let steps := List.map (fun i => BurnStep.word (w + i) (leAt x.src (4 * i) 4) false) (List.range n); Taken x 1537 s ∧ State.oneRegion w n = true ∧ List.length x.src = 4 * n ∧ f.mayProgram (w / 64) = true ∧ s.regionState (w / 64) = 0 ∧ (∀ (i : Nat), i < n → subset (s.word (w + i)).low (leAt x.src (4 * i) 4) = true) ∧ (f.dev.otpSupply = true ∨ unburned s steps = false) ∧ f.dev.otpx.burns = []) :=
  ⟨by decide +kernel, by decide +kernel, by decide +kernel, by decide +kernel, by decide +kernel⟩

theorem witness_OtpCommands_2 :
    (let x : Desc := fwd 0x602 (1024 + 2 ^ 16 * 1) [1,0,0,0] 8; let s : State := stOf vq; let w := (x.par 0 16).toNat; Taken x 1538 s ∧ w < 2048 ∧ List.length x.src = 4 ∧ s.writeLocked (w / 64) = false ∧ subset (s.word w).low (leAt x.src 0 4) = true ∧ (found x 1538 s).otpSupply = true ∧ (found x 1538 s).otpx.burns = []) ∧
    (let x : Desc := fwd 0x603 (16 + 2 ^ 8 * 0 + 2 ^ 9 * 0) [] 8; let s : State := otp vq [(1087, bw 0xFFFF)]; let g := (x.par 0 8).toNat; let read := x.raw.getLsbD 264; Taken x 1539 s ∧ x.src = [] ∧ lockable g = true ∧ s.sealBad g = false ∧ s.writeLocked g = true ∧ (read = false ∨ s.readLocked g = true)) ∧
    (let x : Desc := fwd 0x603 (4 + 2 ^ 8 * 1 + 2 ^ 9 * 0) [] 8; let s : State := stOf vq; let g := (x.par 0 8).toNat; let read := x.raw.getLsbD 264; let force := x.raw.getLsbD 265; Taken x 1539 s ∧ x.src = [] ∧ lockable g = true ∧ s.sealBad g = false ∧ (s.writeLocked g = false ∨ read = true ∧ s.readLocked g = false) ∧ s.regionState g = 0 ∧ s.blankFields g ≠ 0 ∧ force = false) ∧
    (let x : Desc := fwd 0x603 (16 + 2 ^ 8 * 1 + 2 ^ 9 * 0) [] 8; let s : State := stOf vq; let g := (x.par 0 8).toNat; let read := x.raw.getLsbD 264; let force := x.raw.getLsbD 265; Taken x 1539 s ∧ x.src = [] ∧ lockable g = true ∧ s.sealBad g = false ∧ (s.writeLocked g = false ∨ read = true ∧ s.readLocked g = false) ∧ (s.regionState g ≠ 0 ∨ s.blankFields g = 0 ∨ force = true) ∧ (found x 1539 s).otpSupply = true ∧ (found x 1539 s).otpx.burns = []) ∧
    (let x : Desc := fwd 0x604 (3) [] 8; let s : State := stOf vq; let k := (x.par 0 8).toNat; let d := found x 1540 s; Taken x 1540 s ∧ k < 8 ∧ d.otpSupply = true ∧ d.otpx.burns = []) :=
  ⟨by decide +kernel, ⟨by decide +kernel, by decide +kernel, by decide +kernel, unsealed _ _ (by decide +kernel), by decide +kernel⟩, ⟨by decide +kernel, by decide +kernel, by decide +kernel, unsealed _ _ (by decide +kernel), by decide +kernel⟩, ⟨by decide +kernel, by decide +kernel, by decide +kernel, unsealed _ _ (by decide +kernel), by decide +kernel⟩, by decide +kernel⟩

theorem witness_OtpCommands_3 :
    (let b : Burn := ⟨[.word 1024 3 false], some (1024, 0), 1, 0, none⟩; let rest : List Burn := []; let w : Nat := 1024; let i : Nat := 0; let s : State := stOf ({ vq with otpx := { vq.otpx with burns := [⟨[.word 1024 3 false], some (1024, 0), 1, 0, none⟩] } }); s.dev.otpx.burns = b :: rest ∧ b.pulse = some (w, i)) :=
  by decide +kernel

theorem witness_LifeCycleAndDebug :
    (let x : Desc := fwd 0x608 (1) [] 200; let s : State := stOf vq; let k := x.par 0 8; Taken x 1544 s ∧ k.toNat < 4) ∧
    (let x : Desc := fwd 0x609 (1) [] 200; let s : State := stOf run; let level := (x.par 0 8).toNat; Taken x 1545 s ∧ 1 ≤ level ∧ level ≤ 3 ∧ x.src = [] ∧ 128 ≤ x.dstLen) ∧
    (let x : Desc := fwd 0x60A (0) [] 200; let s : State := stOf run; Taken x 1546 s) ∧
    (let b : Bytes := []; let f : Nat := 9; let s : State := stOf { (run.wr FS_FRAME_CNT 9) with dbg := { challenge := some ([], 9) } }; s.dev.dbg.challenge = some (b, f) ∧ f ≤ s.dev.frame) ∧
    (let b : Bytes := []; let f : Nat := 9; let s : State := stOf { (run.wr LC_STATE_STATE 2) with dbg := { challenge := some ([], 9) } }; s.dev.dbg.challenge = some (b, f) ∧ s.dev.frame < f) :=
  ⟨by decide +kernel, by decide +kernel, by decide +kernel, by decide +kernel, by decide +kernel⟩

theorem witness_LifeCycleAndDebug_2 :
    (let x : Desc := fwd 0x60B (0x5A45524F) [] 200; let s : State := stOf ((vq.fillSlot 5 [1] 0 0 0)); Taken x 1547 s ∧ (x.par 0 32).toNat = 1514492495 ∧ x.src = []) ∧
    (let s : State := { stOf ((run.wr FS_FRAME_CNT 10)) with otp := [(0, ⟨1,1,1⟩)] }; s.dev.awake = true ∧ s.dev.otpx.burns = [] ∧ s.dev.otpx.recheckAt + 10 ≤ s.dev.frame) ∧
    (let s : State := { stOf (((vq.wr FS_FRAME_CNT 500000).wr OTP_STATUS_REPAIR_WAIT 1)) with otp := [(0, ⟨1,1,1⟩)] }; s.dev.otpx.burns = [] ∧ s.dev.up = true ∧ s.dev.on OTP_STATUS_REPAIR_WAIT = true ∧ s.dev.otpx.retryAt + 500000 ≤ s.dev.frame) ∧
    (let s : State := { stOf { (run.wr FS_FRAME_CNT 500000) with phase := .lcRepair } with otp := [(0, ⟨1,1,1⟩)] }; s.dev.otpx.burns = [] ∧ s.dev.phase = Phase.lcRepair ∧ s.dev.otpx.retryAt + 500000 ≤ s.dev.frame) :=
  ⟨by decide +kernel, by decide +kernel, by decide +kernel, by decide +kernel⟩

theorem witness_DigestCommands :
    (let x : Desc := fwd 0x100 (dpar 1 0 0 3 3 0 0 1 0 0 0) [1,2,3] 48; let k : Option Bytes := (none : Option Bytes); let attr : Nat := 0; let s : State := stOf cr0; let p := x.digest; let d := found x 256 s; p.alg ≤ 7 ∧ p.inRange = true ∧ CryptoTaken x 256 s ∧ List.length x.src = p.total ∧ d.digestKey (Dev.issuer x.ref.port) p = Except.ok (k, attr) ∧ d.destRefusal (Dev.issuer x.ref.port) attr p = none ∧ d.ctxFree (decide (x.ref.port = Port.fw)) = true) ∧
    (let x : Desc := fwd 0x100 (dpar 1 0 0 3 3 0 0 1 0 0 0) [1,2,3] 48; let k : Option Bytes := (none : Option Bytes); let attr : Nat := 0; let s : State := stOf many; let p := x.digest; let d := found x 256 s; p.alg ≤ 7 ∧ p.inRange = true ∧ CryptoTaken x 256 s ∧ List.length x.src = p.total ∧ d.digestKey (Dev.issuer x.ref.port) p = Except.ok (k, attr) ∧ d.destRefusal (Dev.issuer x.ref.port) attr p = none ∧ d.ctxFree (decide (x.ref.port = Port.fw)) = false) ∧
    (let x : Desc := fwd 0x101 (dpar 1 0 0 3 3 0 0 1 0 0 0) [] 0; let k : Option Bytes := (none : Option Bytes); let attr : Nat := 0; let s : State := stOf cr0; let p := x.digest; let d := found x 257 s; p.alg ≤ 7 ∧ p.inRange = true ∧ CryptoTaken x 257 s ∧ d.liveCtxs (Dev.issuer x.ref.port) < 4096 ∧ d.digestKey (Dev.issuer x.ref.port) p = Except.ok (k, attr)) ∧
    (let x : Desc := fwd 0x102 (h7 3 0) [1,2,3] 48; let c : Ctx := c0; let s : State := stOf (wc c0); let p := x.digest; let on := fun o => CryptoTaken x o s ∧ (found x o s).ctx p.handle = some c ∧ (found x o s).awaited c.handle = false; c.fnum = Dev.issuer x.ref.port ∧ c.ring = x.ref.ring ∧ c.once = false ∧ c.fw = decide (x.ref.port = Port.fw) ∧ c.place = Place.internal ∧ on 258 ∧ List.length x.src = p.chunk) ∧
    (let x : Desc := fwd 0x103 (h7 0 0) [] 48; let c : Ctx := c6; let s : State := stOf (wc c6); let p := x.digest; let on := fun o => CryptoTaken x o s ∧ (found x o s).ctx p.handle = some c ∧ (found x o s).awaited c.handle = false; c.fnum = Dev.issuer x.ref.port ∧ c.ring = x.ref.ring ∧ c.once = false ∧ c.fw = decide (x.ref.port = Port.fw) ∧ c.place = Place.internal ∧ on 259 ∧ c.count = c.total ∧ x.src = [] ∧ p.expectLen = 0 ∧ p.dest = 1) :=
  ⟨⟨by decide +kernel, by decide +kernel, by decide +kernel, by decide +kernel, ok_of (by decide +kernel), by decide +kernel⟩, ⟨by decide +kernel, by decide +kernel, by decide +kernel, by decide +kernel, ok_of (by decide +kernel), by decide +kernel⟩, ⟨by decide +kernel, by decide +kernel, by decide +kernel, by decide +kernel, ok_of (by decide +kernel)⟩, by decide +kernel, by decide +kernel⟩

theorem witness_DigestCommands_2 :
    (let x : Desc := fwd 0x108 (h7 0 0) [] 48; let c : Ctx := c0; let s : State := stOf (wc c0); let p := x.digest; let on := fun o => CryptoTaken x o s ∧ (found x o s).ctx p.handle = some c ∧ (found x o s).awaited c.handle = false; c.fnum = Dev.issuer x.ref.port ∧ c.ring = x.ref.ring ∧ c.once = false ∧ c.fw = decide (x.ref.port = Port.fw) ∧ c.place = Place.internal ∧ on 264 ∧ p.save % 512 = 0) ∧
    (let x : Desc := fwd 0x10A (h7 0 0) [] 48; let c : Ctx := c0; let s : State := stOf (wc c0); let p := x.digest; let on := fun o => CryptoTaken x o s ∧ (found x o s).ctx p.handle = some c ∧ (found x o s).awaited c.handle = false; c.fnum = Dev.issuer x.ref.port ∧ c.ring = x.ref.ring ∧ c.once = false ∧ c.fw = decide (x.ref.port = Port.fw) ∧ c.place = Place.internal ∧ on 266) ∧
    (let p : DigestParam := (fwd 0x108 (h7 0 512) [] 0).digest; let c : Ctx := c0; let d : Dev := wc c0; d.ctx c.handle = some c ∧ (p.save ≠ 0 ∨ c.save ≠ 0) ∧ c.keyed = false) ∧
    (let p : DigestParam := (fwd 0x108 (h7 0 512) [] 0).digest; let c : Ctx := c0; let d : Dev := wc c0; d.ctx c.handle = some c ∧ (p.save ≠ 0 ∨ c.save ≠ 0) ∧ c.keyed = false) ∧
    (let p : DigestParam := (fwd 0x108 (h7 0 512) [] 0).digest; let c : Ctx := c0; let d : Dev := wc c0; d.ctx c.handle = some c ∧ (p.save ≠ 0 ∨ c.save ≠ 0) ∧ c.keyed = false) :=
  ⟨by decide +kernel, by decide +kernel, by decide +kernel, by decide +kernel, by decide +kernel⟩

theorem witness_DigestCommands_3 :
    (let x : Desc := fwd 0x109 0 wrec 0; let s : State := stOf cr0; let save := (x.par 24 64).toNat; CryptoTaken x 265 s ∧ save % 512 = 0 ∧ List.length x.src = 512 ∧ (found x 265 s).liveCtxs (Dev.issuer x.ref.port) < 4096) ∧
    (let x : Desc := fwd 0x109 0 wrec 0; let d : Dev := { cr0 with ops := [⟨⟨.fw,0,0⟩, 0x109, 5, false, false, none, 0, 0, 0, [], 0, 0, 0⟩] }; ∃ o, o ∈ d.ops ∧ o.ref = x.ref ∧ o.status = none) ∧
    (let h : BitVec 32 := (7 : BitVec 32); let c : Ctx := cx; let s : State := stOf { wc cx with crypto := { ctxs := [cx], deferred := [dfd 0x102 1 [1], dfd 0x10A 0 []] }, ops := [opx 0x102 7] }; s.dev.ctx h.toNat = some c ∧ c.place = Place.exported ∧ s.dev.ctxFree false = true ∧ s.dev.rd CR_STATE = 1 ∧ s.dev.crypto.imported < 4 ∧ s.dev.awaited h.toNat = true) ∧
    (let h : BitVec 32 := (7 : BitVec 32); let c : Ctx := cw; let s : State := stOf ({ wc cw with ops := [opx 0x102 7, opx 0x700 0] }.wr FS_FRAME_CNT 503); let since : Nat := 3; s.dev.ctx h.toNat = some c ∧ c.place = Place.waiting since ∧ since + 500 ≤ s.dev.frame) :=
  ⟨by decide +kernel, by decide +kernel, by decide +kernel, by decide +kernel⟩

theorem witness_KeyCommands :
    (let x : Desc := fwd 0x110 (70 + 2 ^ 16 * 71 + 2 ^ 32 * 0 + 2 ^ 40 * 4 + 2 ^ 48 * 32 + 2 ^ 64 * 2 + 2 ^ 72 * 1 + 2 ^ 80 * 1) [1,2,3] 48; let s : State := stOf kk; let ks := x.par 0 16; let outLen := x.par 6 16; let ll := x.par 8 8; let cl := x.par 9 8; let dest := x.par 10 8; let d := found x 272 s; CryptoTaken x 272 s ∧ 1 ≤ ll.toNat ∧ ll.toNat ≤ 64 ∧ cl.toNat ≤ 64 ∧ List.length x.src = ll.toNat + cl.toNat ∧ d.sourceSlot (Dev.issuer x.ref.port) ks.toNat = true ∧ d.grants ks.toNat 1 = true ∧ dest = 1 ∧ 1 ≤ outLen.toNat ∧ outLen.toNat ≤ 1024 ∧ outLen.toNat ≤ x.dstLen ∧ d.grants ks.toNat 5 = true) ∧
    (let x : Desc := fwd 0x110 (70 + 2 ^ 16 * 71 + 2 ^ 32 * 0 + 2 ^ 40 * 4 + 2 ^ 48 * 32 + 2 ^ 64 * 2 + 2 ^ 72 * 1 + 2 ^ 80 * 2) [1,2,3] 48; let s : State := stOf kk; let ks := x.par 0 16; let ds := x.par 2 16; let type := x.par 4 8; let attr := x.par 5 8; let outLen := x.par 6 16; let ll := x.par 8 8; let cl := x.par 9 8; let dest := x.par 10 8; let d := found x 272 s; CryptoTaken x 272 s ∧ 1 ≤ ll.toNat ∧ ll.toNat ≤ 64 ∧ cl.toNat ≤ 64 ∧ List.length x.src = ll.toNat + cl.toNat ∧ d.sourceSlot (Dev.issuer x.ref.port) ks.toNat = true ∧ d.grants ks.toNat 1 = true ∧ dest = 2 ∧ 16 ≤ outLen.toNat ∧ outLen.toNat ≤ 64 ∧ d.emptyOwn (Dev.issuer x.ref.port) ds.toNat = true ∧ Dev.suits type.toNat attr.toNat = true ∧ Dev.typeLen type.toNat outLen.toNat = true ∧ Dev.within (d.rd (KS_SLOT_ATTR ks.toNat)) attr.toNat = true) ∧
    (let x : Desc := fwd 0x110 (73 + 2 ^ 16 * 71 + 2 ^ 32 * 0 + 2 ^ 40 * 4 + 2 ^ 48 * 32 + 2 ^ 64 * 2 + 2 ^ 72 * 1 + 2 ^ 80 * 1) [1,2,3] 48; let s : State := stOf kk; let ks := x.par 0 16; let outLen := x.par 6 16; let ll := x.par 8 8; let cl := x.par 9 8; let dest := x.par 10 8; let d := found x 272 s; CryptoTaken x 272 s ∧ 1 ≤ ll.toNat ∧ ll.toNat ≤ 64 ∧ cl.toNat ≤ 64 ∧ List.length x.src = ll.toNat + cl.toNat ∧ d.sourceSlot (Dev.issuer x.ref.port) ks.toNat = false ∧ dest = 1 ∧ 1 ≤ outLen.toNat ∧ outLen.toNat ≤ 1024) ∧
    (let x : Desc := fwd 0x118 (2 ^ 16 * 71 + 2 ^ 32 * 0 + 2 ^ 40 * 4) [] 0; let s : State := stOf kk; let slot := x.par 2 16; let type := x.par 4 8; let attr := x.par 5 8; let d := found x 280 s; CryptoTaken x 280 s ∧ type.toNat ≤ 4 ∧ x.src = [] ∧ x.dstLen = publicLen type.toNat ∧ d.emptyOwn (Dev.issuer x.ref.port) slot.toNat = true ∧ Dev.suits type.toNat attr.toNat = true ∧ d.rngDead = false) ∧
    (let x : Desc := fwd 0x119 (70 + 2 ^ 16 * 71 + 2 ^ 32 * 0) (List.replicate 40 3) 0; let s : State := stOf kk; let ks := x.par 0 16; let slot := x.par 2 16; let type := x.par 4 8; let d := found x 281 s; CryptoTaken x 281 s ∧ type.toNat ≤ 4 ∧ d.sourceSlot (Dev.issuer x.ref.port) ks.toNat = true ∧ d.emptyOwn (Dev.issuer x.ref.port) slot.toNat = true ∧ d.grants ks.toNat 3 = true ∧ List.length x.src % 8 = 0 ∧ 32 ≤ List.length x.src ∧ List.length x.src ≤ 80) :=
  ⟨by decide +kernel, by decide +kernel, by decide +kernel, by decide +kernel, by decide +kernel⟩

theorem witness_KeyCommands_2 :
    (let x : Desc := fwd 0x11A (70 + 2 ^ 16 * 72) [] 48; let s : State := stOf kk; let ks := x.par 0 16; let slot := x.par 2 16; let d := found x 282 s; let n := (List.length (d.key slot.toNat).bytes + 7) / 8 * 8; CryptoTaken x 282 s ∧ d.sourceSlot (Dev.issuer x.ref.port) ks.toNat = true ∧ d.sourceSlot (Dev.issuer x.ref.port) slot.toNat = true ∧ d.grants ks.toNat 3 = true ∧ d.grants slot.toNat 6 = true ∧ x.dstLen = 16 + n) ∧
    (let x : Desc := fwd 0x11B (70 + 2 ^ 16 * 72) [] 0; let s : State := stOf kk; let slot := x.par 2 16; CryptoTaken x 283 s ∧ (found x 283 s).sourceSlot (Dev.issuer x.ref.port) slot.toNat = true) ∧
    (let x : Desc := fwd 0x11C (64 + 2 ^ 16 * 960 + 2 ^ 32 * 255) [] 48; let s : State := stOf kk; let first := x.par 0 16; let count := x.par 2 16; CryptoTaken x 284 s ∧ 64 ≤ first.toNat ∧ first.toNat ≤ 1023 ∧ first.toNat + count.toNat ≤ 1024) ∧
    (let s : State := stOf ((((kk.wr KS_LOAD_CTL_SLOT 80).wr KS_LOAD_CTL_LEN 32).wr KS_LOAD_CTL_ATTR 4).wr (KS_KEY_IN 2) 0x12345); let d := s.dev; let k := d.rd KS_LOAD_CTL_SLOT; s.dev.awake = true ∧ s.dev.cst Cell.ks = CellState.active ∧ d.open_ = true ∧ d.emptyOwn 0 k = true ∧ Dev.suits (d.rd KS_LOAD_CTL_TYPE) (d.rd KS_LOAD_CTL_ATTR) = true ∧ Dev.typeLen (d.rd KS_LOAD_CTL_TYPE) (d.rd KS_LOAD_CTL_LEN) = true) ∧
    (let s : State := stOf (((((kk.wr KS_LOAD_CTL_SLOT 80).wr KS_LOAD_CTL_LEN 32).wr KS_LOAD_CTL_ATTR 4).wr (KS_KEY_IN 2) 0x12345).wr LC_STATE_STATE 2); let d := s.dev; s.dev.awake = true ∧ s.dev.cst Cell.ks = CellState.active ∧ d.open_ = false) :=
  ⟨by decide +kernel, by decide +kernel, by decide +kernel, by decide +kernel, by decide +kernel⟩

theorem witness_EngineCommands :
    (let x : Desc := fwd 0x120 (72 + 2 ^ 32 * 1 + 2 ^ 64 * 2) [1,2,3] 18; let s : State := stOf kk; let ks := x.par 0 16; let aad := x.par 4 32; let n := x.par 8 32; let d := found x 288 s; aad.toNat ≤ 65536 ∧ n.toNat ≤ 16777216 ∧ CryptoTaken x 288 s ∧ List.length x.src = aad.toNat + n.toNat ∧ x.dstLen = n.toNat + 16 ∧ d.sourceSlot (Dev.issuer x.ref.port) ks.toNat = true ∧ d.grants ks.toNat 2 = true ∧ d.rngDead = false ∧ (d.key ks.toNat).uses < 2 ^ 32) ∧
    (let x : Desc := fwd 0x121 (72 + 2 ^ 32 * 1 + 2 ^ 64 * 2 + 2 ^ 96 * 5) (List.replicate 19 1) 2; let s : State := stOf kk; let ks := x.par 0 16; let aad := x.par 4 32; let n := x.par 8 32; let d := found x 289 s; aad.toNat ≤ 65536 ∧ n.toNat ≤ 16777216 ∧ CryptoTaken x 289 s ∧ List.length x.src = aad.toNat + n.toNat + 16 ∧ x.dstLen = n.toNat ∧ d.sourceSlot (Dev.issuer x.ref.port) ks.toNat = true ∧ d.grants ks.toNat 2 = true) ∧
    (let x : Desc := fwd 0x128 (72 + 2 ^ 16 * 0 + 2 ^ 24 * 9 + 2 ^ 32 * 10) (List.replicate 19 1) 3309; let s : State := stOf (vk kk 72 0x50 3); let ks := x.par 0 16; let alg := x.par 2 8; let cl := x.par 3 8; let ml := x.par 4 32; let d := found x 296 s; ml.toNat ≤ 65536 ∧ List.length x.src = cl.toNat + ml.toNat ∧ CryptoTaken x 296 s ∧ alg.toNat ≤ 2 ∧ signatureLen alg.toNat ≤ x.dstLen ∧ d.seFull x.ref.port = false ∧ d.sourceSlot (Dev.issuer x.ref.port) ks.toNat = true ∧ d.grants ks.toNat 4 = true ∧ (d.rd (KS_SLOT_TYPE ks.toNat) = (if alg = 2 then 2 else alg.toNat + 3)) ∧ d.rngDead = false) ∧
    (let x : Desc := fwd 0x129 (72 + 2 ^ 16 * 0 + 2 ^ 24 * 9 + 2 ^ 32 * 10 - 72) (List.replicate 19 1) 0; let s : State := stOf (vk kk 72 0x50 3); let alg := x.par 2 8; let cl := x.par 3 8; let ml := x.par 4 32; ml.toNat ≤ 65536 ∧ List.length x.src = cl.toNat + ml.toNat ∧ CryptoTaken x 297 s ∧ alg.toNat ≤ 4 ∧ (found x 297 s).seFull x.ref.port = false) ∧
    (let x : Desc := fwd 0x130 9 [] 9; let s : State := stOf kk; let len := x.par 0 16; CryptoTaken x 304 s ∧ 1 ≤ len.toNat ∧ len.toNat ≤ 4096 ∧ x.dstLen = len.toNat ∧ (found x 304 s).rngDead = false) :=
  ⟨by decide +kernel, by decide +kernel, by decide +kernel, by decide +kernel, by decide +kernel⟩

theorem witness_EngineCommands_2 :
    (let x : Desc := fwd 0x138 0 [] 0; let failed : BitVec 16 := (0xfc00 : BitVec 16); let s : State := stOf ((kk.wr CR_STATE 3).wr CR_KAT_FAIL 0x7FF); let mask := x.par 0 16; let bad := (if mask = 0 then 1022 else mask) &&& failed; Taken x 312 s ∧ mask &&& 1022 = mask ∧ mask = 0 ∧ bad = 0 ∧ (found x 312 s).rd CR_STATE = 3) ∧
    (let x : Desc := fwd 0x138 32 [] 0; let failed : BitVec 16 := (0xfc20 : BitVec 16); let s : State := stOf ((kk.wr CR_STATE 1).wr CR_KAT_FAIL 0); let mask := x.par 0 16; let bad := (if mask = 0 then 1022 else mask) &&& failed; Taken x 312 s ∧ mask &&& 1022 = mask ∧ bad ≠ 0) :=
  ⟨by decide +kernel, by decide +kernel⟩

theorem witness_CryptoEvents :
    (let s : State := stOf cev; s.dev.awake = true ∧ s.dev.cst Cell.crypto ≠ CellState.off ∧ s.dev.bist = []) ∧
    (let s : State := stOf { (cev.wr CR_STATE 0) with crypto := { seeded := true, tests := .squall } }; s.dev.awake = true ∧ s.dev.rd CR_STATE = 0 ∧ s.dev.crypto.tests = Tests.squall) ∧
    (let s : State := stOf { ((cev.wr CR_STATE 0).wr RNG_STATE 0) with crypto := { seeded := true, tests := .powerUp } }; s.dev.awake = true ∧ s.dev.rd CR_STATE = 0 ∧ s.dev.crypto.tests = Tests.powerUp ∧ s.dev.cst Cell.rng = CellState.active ∧ s.dev.rd RNG_STATE ≠ 2 ∧ s.dev.rd RNG_STATE = 0) ∧
    (let s : State := stOf { cev with crypto := { seeded := true, healthAt := some 3, gen := 65536 } }; s.dev.awake = true ∧ s.dev.rd RNG_STATE = 1 ∧ s.dev.crypto.seeded = true ∧ (65536 ≤ s.dev.crypto.gen ∨ s.dev.crypto.reseedAt + 500000 ≤ s.dev.frame)) :=
  ⟨by decide +kernel, by decide +kernel, by decide +kernel, by decide +kernel⟩

theorem witness_FunctionsAndRings :
    (let f : Fin 256 := (7 : Fin 256); let s : State := stOf (fl 7 {}); let st := s.dev.rd (FN_STATE_STATE ↑f); let mse := (s.dev.fn ↑f).mse = true; s.dev.fnLive ↑f = true ∧ st = 0 ∧ mse) ∧
    (let f : Fin 256 := (7 : Fin 256); let s : State := stOf ((fl 7 {}).wr (FN_STATE_STATE 7) 2); let st := s.dev.rd (FN_STATE_STATE ↑f); let mse := (s.dev.fn ↑f).mse = true; s.dev.fnLive ↑f = true ∧ st = 2 ∧ mse ∧ s.dev.rd DRZ_STATE = 0) ∧
    (let f : Fin 256 := (7 : Fin 256); let s : State := stOf { fl 7 {} with fns := [] }; let mse := (s.dev.fn ↑f).mse = true; s.dev.fnLive ↑f = true ∧ ¬mse) ∧
    (let f : Fin 256 := (7 : Fin 256); let s : State := stOf (fct 1 []); let st := s.dev.rd (FN_STATE_STATE ↑f); let r : Nat := 4; s.dev.fnLive ↑f = true ∧ s.dev.hostPaused = false ∧ r < s.dev.rd (RCT_RINGS ↑f) ∧ st = 2 ∧ s.dev.ringDue (↑f) 1 = some r ∧ s.dev.ring (↑f) r = none ∧ (s.dev.fn ↑f).bme = true ∧ s.dev.rctRoom (↑f) r = true) ∧
    (let f : Fin 256 := (7 : Fin 256); let s : State := stOf (fct 2 [(4, rgx .active)]); let st := s.dev.rd (FN_STATE_STATE ↑f); let r : Nat := 4; let x : Ring := rgx .active; s.dev.fnLive ↑f = true ∧ s.dev.hostPaused = false ∧ r < s.dev.rd (RCT_RINGS ↑f) ∧ st = 2 ∧ s.dev.ringDue (↑f) 2 = some r ∧ s.dev.ring (↑f) r = some x) :=
  ⟨by decide +kernel, by decide +kernel, by decide +kernel, by decide +kernel, by decide +kernel⟩

theorem witness_FunctionsAndRings_2 :
    (let f : Fin 256 := (0 : Fin 256); let s : State := stOf ((fl 0 { rings := [(4, rgx .draining)] }).wr (FN_STATE_STATE 0) 2); let r : Fin 256 := (4 : Fin 256); let x : Ring := rgx .draining; s.dev.fnLive ↑f = true ∧ s.dev.ring ↑f ↑r = some x ∧ x.state = CellState.draining ∧ s.dev.ringBusy ↑f ↑r = false ∧ (x.cached = false ∨ s.dev.hostUse.fills < 32)) ∧
    (let f : Fin 256 := (0 : Fin 256); let s : State := stOf ((fl 0 { rings := [(4, rgx .active)] }).wr (FN_STATE_STATE 0) 2); let r : Fin 256 := (4 : Fin 256); let x : Ring := rgx .active; s.dev.fnLive ↑f = true ∧ s.dev.ring ↑f ↑r = some x) ∧
    (let f : Fin 256 := (7 : Fin 256); let s : State := stOf { fl 7 {} with ops := [opf 0x700 7 none] }; let r : Nat := 2; let i : Nat := 5; let o : Op := opf 0x700 7 none; s.dev.fnLive ↑f = true ∧ List.find? (fun o => decide (o.ref = { port := Port.fn f, ring := r, index := i }) && (o.status.isNone || decide (0 < o.left))) s.dev.ops = some o) ∧
    (let f : Fin 256 := (7 : Fin 256); let s : State := stOf (fdr 0 0xFFFFFFFFFFFF 3 none); let st := s.dev.rd (FN_STATE_STATE ↑f); let q : Scan := (⟨7, 3, 0, []⟩ : Scan); s.dev.fnLive ↑f = true ∧ q.f = f ∧ st = 2 ∧ (s.dev.fn ↑f).bme = true ∧ s.dev.hostPaused = false ∧ s.dev.rd DRZ_STATE = 0 ∧ (s.dev.fn ↑f).confirm = none ∧ s.dev.on (FN_STATE_DROWSY ↑f) = false ∧ s.dev.rd (FN_CFG_IDLE_FRAMES ↑f) ≤ (s.dev.fn ↑f).idle ∧ (s.dev.fn ↑f).scanAt < s.dev.frame ∧ (s.dev.fn ↑f).groups = [] ∧ s.dev.fnQuiet ↑f = true) ∧
    (let f : Fin 256 := (7 : Fin 256); let s : State := stOf (fdr 0 0xFFFFFFFFFFFF 3 (some 1002)); let st := s.dev.rd (FN_STATE_STATE ↑f); let q : Scan := (⟨7, 3, 0, []⟩ : Scan); let k : Nat := 1002; s.dev.fnLive ↑f = true ∧ q.f = f ∧ st = 2 ∧ (s.dev.fn ↑f).bme = true ∧ s.dev.hostPaused = false ∧ s.dev.rd DRZ_STATE = 0 ∧ (s.dev.fn ↑f).confirm = some k ∧ k < s.dev.frame) :=
  ⟨by decide +kernel, by decide +kernel, by decide +kernel, by decide +kernel, by decide +kernel⟩

theorem witness_FunctionsAndRings_3 :
    (let f : Fin 256 := (7 : Fin 256); let s : State := stOf (fdr 1 0 3 none); let st := s.dev.rd (FN_STATE_STATE ↑f); let q : Scan := (⟨7, 3, 0, []⟩ : Scan); s.dev.fnLive ↑f = true ∧ q.f = f ∧ st = 2 ∧ (s.dev.fn ↑f).bme = true ∧ s.dev.hostPaused = false ∧ s.dev.rd DRZ_STATE = 0 ∧ s.dev.on (FN_STATE_DROWSY ↑f) = true ∧ (s.dev.fn ↑f).confirm = none ∧ (s.dev.fn ↑f).scanAt + 1000 ≤ s.dev.frame) ∧
    (let f : Fin 256 := (7 : Fin 256); let s : State := stOf ((fdr 1 0 3 none).wr (MSIX_PBA 7 1) (2^36)); let mse := (s.dev.fn ↑f).mse = true; s.dev.fnLive ↑f = true ∧ mse) :=
  ⟨by decide +kernel, by decide +kernel⟩

theorem witness_FunctionResets :
    (let f : Fin 256 := (7 : Fin 256); let s : State := stOf frs; s.dev.fnLive ↑f = true ∧ f ≠ 0 ∧ s.dev.awake = true ∧ s.dev.fnLive 0 = true) :=
  by decide +kernel

theorem witness_OperationsComplete :
    (let x : Desc := fwd 0 0 [] 0; let s : State := stOf run; Taken x 0 s) ∧
    (let r : OpRef := ⟨.fn 7, 2, 5⟩; let o : Op := opq (.fn 7) false; let st : Status := Status.ok; let s : State := stOf { fl 7 { bme := true } with ops := [opq (.fn 7) false] }; s.dev.awake = true ∧ List.find? (fun o => decide (o.ref = r)) s.dev.ops = some o ∧ o.status = some st ∧ Dev.mayComplete s.dev.ops o = true ∧ s.dev.sliced (TaskOf.op r) = true ∧ s.dev.seTurn o = true) ∧
    (let k : Fin 2 := (1 : Fin 2); let s : State := stOf (mbd 0x300 70000 0); s.dev.awake = true ∧ s.dev.cst (Cell.i3c k) = CellState.active ∧ (s.dev.mbx ↑k).busy = false) ∧
    (let k : Fin 2 := (1 : Fin 2); let s : State := stOf (mbd 0x300 3 0); let m := s.dev.mbx ↑k; let x : Desc := { ref := { port := Port.i3c k, ring := 0, index := 0 }, raw := BitVec.ofNat 512 (leNat m.desc), gather := [], scatter := [], src := [], failAddr := none }; s.dev.awake = true ∧ s.dev.cst (Cell.i3c k) = CellState.active ∧ (s.dev.mbx ↑k).busy = false ∧ (x.reserved || x.sglSrc || x.sglDst) = false ∧ opcodeKnown x.opcode = true ∧ roleMay (Port.i3c k) x.opcode = true ∧ x.dstField ≤ 65536 ∧ Dev.Mbx.taken m ≤ leAt m.desc 16 4 ∧ leAt m.desc 16 4 - Dev.Mbx.taken m ≤ 65536) ∧
    (let k : Fin 2 := (1 : Fin 2); let s : State := stOf (mbd 0x300 0 1); let m := s.dev.mbx ↑k; let x : Desc := { ref := { port := Port.i3c k, ring := 0, index := 0 }, raw := BitVec.ofNat 512 (leNat m.desc), gather := [], scatter := [], src := [], failAddr := none }; s.dev.awake = true ∧ s.dev.cst (Cell.i3c k) = CellState.active ∧ (s.dev.mbx ↑k).busy = false ∧ (x.reserved || x.sglSrc || x.sglDst) = true) :=
  ⟨by decide +kernel, by decide +kernel, by decide +kernel, by decide +kernel, by decide +kernel⟩

theorem witness_OperationsComplete_2 :
    (let k : Fin 2 := (1 : Fin 2); let s : State := stOf (mbd 0x3FF 0 0); let m := s.dev.mbx ↑k; let x : Desc := { ref := { port := Port.i3c k, ring := 0, index := 0 }, raw := BitVec.ofNat 512 (leNat m.desc), gather := [], scatter := [], src := [], failAddr := none }; s.dev.awake = true ∧ s.dev.cst (Cell.i3c k) = CellState.active ∧ (s.dev.mbx ↑k).busy = false ∧ (x.reserved || x.sglSrc || x.sglDst) = false ∧ opcodeKnown x.opcode = false) ∧
    (let k : Fin 2 := (1 : Fin 2); let s : State := stOf (mbd 0x703 0 0); let m := s.dev.mbx ↑k; let x : Desc := { ref := { port := Port.i3c k, ring := 0, index := 0 }, raw := BitVec.ofNat 512 (leNat m.desc), gather := [], scatter := [], src := [], failAddr := none }; s.dev.awake = true ∧ s.dev.cst (Cell.i3c k) = CellState.active ∧ (s.dev.mbx ↑k).busy = false ∧ (x.reserved || x.sglSrc || x.sglDst) = false ∧ opcodeKnown x.opcode = true ∧ roleMay (Port.i3c k) x.opcode = false) ∧
    (let x : Desc := xr 0x200 1 none .fw; let s : State := stOf cr1; let i := (Instr.compHold x, 512); x.comp < 96 ∧ s.dev.canIssue x.ref = true ∧ s.dev.presented x i.snd true = true ∧ s.dev.mustWait x i.snd = false ∧ x.reserved = true) ∧
    (let x : Desc := xr 0x200 0 none (.fn 7); let s : State := stOf fv; let i := (Instr.compHold x, 512); x.comp < 96 ∧ s.dev.canIssue x.ref = true ∧ s.dev.presented x i.snd true = true ∧ s.dev.mustWait x i.snd = false ∧ x.reserved = false ∧ roleMay x.ref.port i.snd = false) ∧
    (let x : Desc := xr 0x200 0 (some 4) .fw; let s : State := stOf cr1; let i := (Instr.compHold x, 512); let a : Nat := 4; x.comp < 96 ∧ s.dev.canIssue x.ref = true ∧ s.dev.presented x i.snd true = true ∧ s.dev.mustWait x i.snd = false ∧ x.reserved = false ∧ roleMay x.ref.port i.snd = true ∧ x.listsOk = true ∧ x.failAddr = some a) :=
  ⟨by decide +kernel, by decide +kernel, by decide +kernel, by decide +kernel, by decide +kernel⟩

theorem witness_OperationsComplete_3 :
    (let x : Desc := xr 0x203 1 none .fw; let s : State := stOf cr1; let i := (Instr.compThaw x, 515); x.comp < 96 ∧ s.dev.canIssue x.ref = true ∧ s.dev.presented x i.snd true = true ∧ s.dev.mustWait x i.snd = false ∧ x.reserved = true) ∧
    (let x : Desc := xr 0x203 0 none (.fn 7); let s : State := stOf fv; let i := (Instr.compThaw x, 515); x.comp < 96 ∧ s.dev.canIssue x.ref = true ∧ s.dev.presented x i.snd true = true ∧ s.dev.mustWait x i.snd = false ∧ x.reserved = false ∧ roleMay x.ref.port i.snd = false) ∧
    (let x : Desc := xr 0x203 0 (some 4) .fw; let s : State := stOf cr1; let i := (Instr.compThaw x, 515); let a : Nat := 4; x.comp < 96 ∧ s.dev.canIssue x.ref = true ∧ s.dev.presented x i.snd true = true ∧ s.dev.mustWait x i.snd = false ∧ x.reserved = false ∧ roleMay x.ref.port i.snd = true ∧ x.listsOk = true ∧ x.failAddr = some a) ∧
    (let x : Desc := xr 0x301 1 none .fw; let s : State := stOf cr1; let i := (Instr.policyRead x, 769); x.comp < 96 ∧ s.dev.canIssue x.ref = true ∧ s.dev.presented x i.snd true = true ∧ s.dev.mustWait x i.snd = false ∧ x.reserved = true) ∧
    (let x : Desc := xr 0x301 0 none (.fn 7); let s : State := stOf fv; let i := (Instr.policyRead x, 769); x.comp < 96 ∧ s.dev.canIssue x.ref = true ∧ s.dev.presented x i.snd true = true ∧ s.dev.mustWait x i.snd = false ∧ x.reserved = false ∧ roleMay x.ref.port i.snd = false) :=
  ⟨by decide +kernel, by decide +kernel, by decide +kernel, by decide +kernel, by decide +kernel⟩

theorem witness_OperationsComplete_4 :
    (let x : Desc := xr 0x301 0 (some 4) .fw; let s : State := stOf cr1; let i := (Instr.policyRead x, 769); let a : Nat := 4; x.comp < 96 ∧ s.dev.canIssue x.ref = true ∧ s.dev.presented x i.snd true = true ∧ s.dev.mustWait x i.snd = false ∧ x.reserved = false ∧ roleMay x.ref.port i.snd = true ∧ x.listsOk = true ∧ x.failAddr = some a) ∧
    (let x : Desc := xr 0x10A 1 none .fw; let s : State := stOf cr1; let i := (Instr.ctxDestroy x, 266); x.comp < 96 ∧ s.dev.canIssue x.ref = true ∧ s.dev.presented x i.snd true = true ∧ s.dev.mustWait x i.snd = false ∧ x.reserved = true) ∧
    (let x : Desc := xr 0x10A 0 none (.i3c 1); let s : State := stOf cr1; let i := (Instr.ctxDestroy x, 266); x.comp < 96 ∧ s.dev.canIssue x.ref = true ∧ s.dev.presented x i.snd true = true ∧ s.dev.mustWait x i.snd = false ∧ x.reserved = false ∧ roleMay x.ref.port i.snd = false) ∧
    (let x : Desc := xr 0x10A 0 (some 4) .fw; let s : State := stOf cr1; let i := (Instr.ctxDestroy x, 266); let a : Nat := 4; x.comp < 96 ∧ s.dev.canIssue x.ref = true ∧ s.dev.presented x i.snd true = true ∧ s.dev.mustWait x i.snd = false ∧ x.reserved = false ∧ roleMay x.ref.port i.snd = true ∧ x.listsOk = true ∧ x.failAddr = some a) :=
  ⟨by decide +kernel, by decide +kernel, by decide +kernel, by decide +kernel⟩

theorem witness_SpdmAnswers :
    (let e : Fin 3 := (1 : Fin 3); let s : State := { stOf (ad { stage := 3 }) with home := ah }; let stage := (s.dev.ep ↑e).stage; let h : ReqHead := ⟨0x13, true⟩; let c := s.chain 0; let offset : Nat := 1; let len : Nat := 100; let index : Byte := (0xFF : Byte); let es := if index = 0 then [] else List.filter (fun m => decide (index = 255) || decide (m.fst = BitVec.toNat index)) s.dev.att.entries; let record := List.flatMap measBlock es; s.dev.epLive ↑e = true ∧ (s.dev.ep ↑e).chunk = none ∧ 1 ≤ stage ∧ 2 ≤ stage ∧ 3 ≤ stage ∧ h.version ≠ 18 ∧ offset < List.length c ∧ (List.take len (List.drop offset c)).length + 8 ≤ (s.dev.ep ↑e).transfer ∧ s.dev.hasIdentity = true ∧ record.length + 42 ≤ (s.dev.ep ↑e).transfer) ∧
    (let e : Fin 3 := (1 : Fin 3); let s : State := { stOf (ad { stage := 3, seqs := [(some 4, 1), (none, 7)] }) with home := ah }; let stage := (s.dev.ep ↑e).stage; let g : Nat := 7; s.dev.epLive ↑e = true ∧ (s.dev.ep ↑e).chunk = none ∧ 3 ≤ stage ∧ List.find? (fun q => decide (q.fst = none)) (s.dev.ep ↑e).seqs = some (none, g) ∧ g ≠ s.dev.rd ATT_MEAS_GEN) ∧
    (let e : Fin 3 := (0 : Fin 3); let s : State := { stOf (ad { stage := 3, seqs := [(some 4, 1), (none, 7)] }) with home := ah }; let type : Byte := 5; let n : Nat := 4160; s.dev.epLive ↑e = true ∧ (s.dev.ep ↑e).chunk = none ∧ (type = 0 ∨ type = 5 ∨ type = 6) ∧ n ≤ 4160) :=
  ⟨by decide +kernel, by decide +kernel, by decide +kernel⟩

theorem witness_SpdmSessions :
    (let e : Fin 3 := (1 : Fin 3); let s : State := stOf (ad { stage := 3, sessions := [sn false 2] }); let x := s.dev.ep ↑e; let id : Nat := 3; s.dev.epLive ↑e = true ∧ 3 ≤ (s.dev.ep ↑e).stage ∧ x.chunk = none ∧ x.sessions.length < 4 ∧ s.dev.hasIdentity = true ∧ (x.sessions.any fun t => decide (t.id = id)) = true ∧ (x.sessions.any fun t => decide (t.id = id) && t.done) = false) ∧
    (let e : Fin 3 := (1 : Fin 3); let s : State := stOf (ad { stage := 3, sessions := List.replicate 4 (sn false 2) }); let x := s.dev.ep ↑e; s.dev.epLive ↑e = true ∧ 3 ≤ (s.dev.ep ↑e).stage ∧ x.chunk = none ∧ 4 ≤ x.sessions.length) ∧
    (let e : Fin 3 := (1 : Fin 3); let s : State := stOf (ad { stage := 3, delayed := some (none, .finish, []) }); let x := s.dev.ep ↑e; let m : SpdmMsg := SpdmMsg.finish; let b : Bytes := ([] : Bytes); let large : Nat := 5000; let data : Bytes := List.replicate 4080 1; s.dev.epLive ↑e = true ∧ 3 ≤ (s.dev.ep ↑e).stage ∧ x.chunk = none ∧ x.delayed = some (none, m, b) ∧ List.length b ≤ x.transfer ∧ 4096 < large ∧ large ≤ 32768 ∧ List.length data = 4080) ∧
    (let e : Fin 3 := (1 : Fin 3); let s : State := stOf (ad { stage := 3, held := some (hl 2), transfer := 64 }); let x := s.dev.ep ↑e; let h : Held := hl 2; s.dev.epLive ↑e = true ∧ 3 ≤ (s.dev.ep ↑e).stage ∧ x.chunk = none ∧ x.held = some h ∧ h.session = none) ∧
    (let e : Fin 3 := (1 : Fin 3); let s : State := stOf (ad { stage := 3, chunk := some cq }); let x := s.dev.ep ↑e; let c : ChunkReq := cq; let data : Bytes := List.replicate 10 1; let handle : Nat := 4; let seq : Nat := 2; s.dev.epLive ↑e = true ∧ 3 ≤ (s.dev.ep ↑e).stage ∧ x.chunk = some c ∧ c.session = none ∧ c.got + List.length data = c.total ∧ (handle ≠ c.handle ∨ seq ≠ c.next)) :=
  ⟨by decide +kernel, by decide +kernel, by decide +kernel, by decide +kernel, by decide +kernel⟩

theorem witness_SpdmSessions_2 :
    (let e : Fin 3 := (1 : Fin 3); let s : State := stOf ((ad { stage := 3, chunk := some cq, held := some (hl 2), sessions := [sn true 2] }).wr FS_FRAME_CNT 30000002); let id : Nat := 3; let h : Held := hl 2; let c : ChunkReq := cq; s.dev.up = true ∧ ∃ y, y ∈ (s.dev.ep ↑e).sessions ∧ y.id = id ∧ y.last + 30000000 ≤ s.dev.frame ∧ (s.dev.ep ↑e).held = some h ∧ h.last + 500000 ≤ s.dev.frame ∧ (s.dev.ep ↑e).chunk = some c ∧ c.last + 500000 ≤ s.dev.frame) :=
  by decide +kernel

theorem witness_ReportsAnswer :
    (let x : Desc := fwd 0x400 0 [] 6000; let s : State := stOf (ad {}); Taken x 1024 s) ∧
    (let x : Desc := fwd 0x401 (1 + 2 ^ 8 * 0xDF) [] 6000; let s : State := stOf (ad {}); let first := (x.par 0 8).toNat; let last := (x.par 1 8).toNat; Taken x 1025 s ∧ 1 ≤ first ∧ first ≤ last ∧ last ≤ 223) ∧
    (let x : Desc := fwd 0x400 0 [] 6000; let d : Dev := mrd 0x400 0 6000 (ad {}); let total := 96 + 64 * d.att.entries.length + 4723; (∃ o, o ∈ d.ops ∧ o.ref = x.ref ∧ o.status = none) ∧ x.src = [] ∧ x.opcode = 1024 ∧ total ≤ x.dstLen ∧ d.hasIdentity = true) ∧
    (let x : Desc := fwd 0x400 0 [] 6000; let d : Dev := mrd 0x400 0 6000 (ad {}); let total := 96 + 64 * d.att.entries.length + 4723; (∃ o, o ∈ d.ops ∧ o.ref = x.ref ∧ o.status = none) ∧ x.src = [] ∧ x.opcode = 1024 ∧ total ≤ x.dstLen ∧ d.hasIdentity = true) ∧
    (let x : Desc := fwd 0x400 0 [] 60; let d : Dev := mrd 0x400 0 60 (ad {}); let total := 96 + 64 * d.att.entries.length + 4723; (∃ o, o ∈ d.ops ∧ o.ref = x.ref ∧ o.status = none) ∧ x.src = [] ∧ x.opcode = 1024 ∧ x.dstLen < total) :=
  ⟨by decide +kernel, by decide +kernel, by decide +kernel, by decide +kernel, by decide +kernel⟩

theorem witness_ReportsAnswer_2 :
    (let x : Desc := fwd 0x400 0 [] 60; let d : Dev := mrd 0x400 0 60 (ad {}); let total := 96 + 64 * d.att.entries.length + 4723; (∃ o, o ∈ d.ops ∧ o.ref = x.ref ∧ o.status = none) ∧ x.src = [] ∧ x.opcode = 1024 ∧ x.dstLen < total) ∧
    (let x : Desc := fwd 0x401 (1 + 2 ^ 8 * 0xDF) [] 6000; let d : Dev := mrd 0x401 0 6000 (ad {}); (∃ o, o ∈ d.ops ∧ o.ref = x.ref ∧ o.status = none) ∧ x.src = [] ∧ x.opcode = 1025) ∧
    (let x : Desc := fwd 0x402 0 [] 60; let s : State := { stOf (ad {}) with home := ah }; Taken x 1026 s ∧ (x.par 0 8).toNat ≤ 1 ∧ x.src = []) :=
  ⟨by decide +kernel, by decide +kernel, by decide +kernel⟩

theorem witness_FirmwareUpdates :
    (let x : Desc := fwd 0x500 0 [] 0; let s : State := stOf (run.wr FW_STATE 3); let d := found x 1280 s; Taken x 1280 s ∧ d.rd FW_STATE ≠ 0 ∧ s.dev.up = true ∧ s.dev.rd FW_STATE = 3 ∧ s.dev.rd FW_HEALTH_LEFT = 0 ∧ s.dev.frontState ≠ FrontState.landed) ∧
    (let x : Desc := fwd 0x500 (2 + 2 ^ 32) [1,2,3] 0; let s : State := stOf run; let d := found x 1280 s; let il := x.par 0 32; let ol := x.par 4 32; Taken x 1280 s ∧ d.rd FW_STATE = 0 ∧ d.frontBusy = false ∧ List.length x.src = BitVec.toNat il + BitVec.toNat ol ∧ List.length x.src ≤ slotSize ∧ s.dev.up = true ∧ s.dev.settings ≠ s.dev.fw.settings ∧ (s.dev.fw.savedAt = 0 ∨ s.dev.fw.savedAt + 500000 ≤ s.dev.frame)) ∧
    (let x : Desc := fwd 0x501 0 [] 0; let s : State := stOf run; Taken x 1281 s ∧ x.src = []) ∧
    (let home : Bool := true; let s : State := stOf { ((run.wr FW_STATE 3).wr FW_HEALTH_LEFT 5) with fw := { run.fw with ucodeOk := true, units := 1, position := 0 } }; s.dev.up = true ∧ s.dev.rd FW_STATE = 3 ∧ s.dev.rd FW_HEALTH_LEFT ≠ 0 ∧ s.dev.frontState ≠ FrontState.landed ∧ s.dev.fit home = true) :=
  ⟨by decide +kernel, by decide +kernel, by decide +kernel, by decide +kernel⟩

theorem witness_RecoveryTransfers :
    (let s : State := stOf { (run.wr REC_STATE 1) with phase := .romWaiting, run := { run.run with sources := [2] } }; s.dev.recovering = true ∧ s.dev.rd REC_STATE = 1) ∧
    (let s : State := stOf { ((run.wr REC_STATE 2).wr (REC_DATA 0) 0x0102) with phase := .romWaiting, run := { run.run with sources := [3], recBytes := [7] } }; let len : Fin 8192 := 4096; s.dev.recovering = true ∧ s.dev.rd REC_STATE = 2 ∧ 1 ≤ ↑len ∧ ↑len ≤ 4096 ∧ List.length s.dev.run.recBytes ≠ s.dev.rd REC_LEN) ∧
    (let s : State := stOf { ((run.wr REC_STATE 2).wr REC_LEN 1) with phase := .romWaiting, run := { run.run with sources := [3], recBytes := [7] } }; s.dev.recovering = true ∧ s.dev.rd REC_STATE = 2 ∧ List.length s.dev.run.recBytes = s.dev.rd REC_LEN ∧ List.length s.dev.run.recBytes ≤ slotSize) ∧
    (let k : Nat := 3; let rest : List Nat := [4]; let s : State := stOf { ((run.wr REC_STATE 1).wr FS_FRAME_CNT 15000000) with phase := .romWaiting, run := { run.run with sources := [3, 4] } }; s.dev.phase = Phase.romWaiting ∧ s.dev.run.sources = k :: rest ∧ ¬0 ∈ rest ∧ k ≤ 3 ∧ s.dev.rd REC_STATE = 1 ∧ s.dev.run.sourceAt + 15000000 ≤ s.dev.frame) ∧
    (let k : Nat := 4; let rest : List Nat := [5]; let s : State := stOf { ((run.wr REC_STATE 1).wr FS_FRAME_CNT 500000) with phase := .romWaiting, run := { run.run with sources := [4, 5] } }; s.dev.phase = Phase.romWaiting ∧ s.dev.run.sources = k :: rest ∧ ¬0 ∈ rest ∧ 4 ≤ k ∧ (if k = 4 then s.dev.link0.rx else s.dev.link1.rx) = none ∧ s.dev.run.sourceAt + 500000 ≤ s.dev.frame) :=
  ⟨by decide +kernel, by decide +kernel, by decide +kernel, by decide +kernel, by decide +kernel⟩

theorem witness_RecoveryTransfers_2 :
    (let s : State := stOf { ((run.wr REC_STATE 1).wr FS_FRAME_CNT 500000) with phase := .romWaiting, run := { run.run with sources := [] } }; s.dev.phase = Phase.romWaiting ∧ s.dev.run.sources = [] ∧ s.dev.run.sourceAt + 500000 ≤ s.dev.frame) :=
  by decide +kernel

theorem witness_RelayLinks :
    (let r : Fin 2 := 0; let s : State := stOf (lk run 0); let l := s.dev.link ↑r; let f : RFrame := ⟨1, 3, 0, 0, 0, 0, 0, [1,2]⟩; s.dev.linkUp r = true ∧ f.seq = l.rxSeq ∧ l.early = [] ∧ f.type = 1 ∧ s.dev.phase ≠ Phase.romWaiting ∧ bit f.flags 0 = true ∧ l.waiting = [] ∧ r = 0 ∧ s.dev.frame % 500 = 0) ∧
    (let r : Fin 2 := 1; let s : State := stOf { lk (lk run 1) 0 with link1 := { window := [tx 7 1, tx 8 8] } }; let l := s.dev.link ↑r; let f : RFrame := ⟨5, 1, 0, 7, 0, 9, 0, [1,2]⟩; let seq : BitVec 16 := 7; let y : TxFrame := tx 7 1; s.dev.linkUp r = true ∧ f.seq = l.rxSeq ∧ l.early = [] ∧ f.type = 5 ∧ List.find? (fun y => decide (y.frame.seq = seq.toNat)) l.window = some y ∧ y.sends < 8) ∧
    (let r : Fin 2 := 1; let s : State := stOf { lk (lk run 1) 0 with link1 := { window := [tx 7 1, tx 8 8] } }; let l := s.dev.link ↑r; let f : RFrame := ⟨6, 1, 0, 7, 0, 9, 0, [1,2]⟩; s.dev.linkUp r = true ∧ f.seq = l.rxSeq ∧ l.early = [] ∧ f.type = 6 ∧ s.dev.up = true) ∧
    (let r : Fin 2 := 1; let s : State := stOf { (lk (lk run 1) 0).wr FS_FRAME_CNT 50 with link1 := { window := [tx 7 1, tx 8 8] } }; let l := s.dev.link ↑r; let y : TxFrame := tx 7 1; s.dev.linkUp r = true ∧ List.find? (fun y => decide (y.sentAt + 50 ≤ s.dev.frame)) l.window = some y ∧ y.sends < 8) ∧
    (let r : Fin 2 := 1; let s : State := stOf { (lk (lk run 1) 0).wr FS_FRAME_CNT 50 with link1 := { window := [tx 7 8, tx 8 8] } }; let l := s.dev.link ↑r; let y : TxFrame := tx 7 8; s.dev.linkUp r = true ∧ List.find? (fun y => decide (y.sentAt + 50 ≤ s.dev.frame)) l.window = some y ∧ 8 ≤ y.sends ∧ s.dev.frontBusy = false) :=
  ⟨by decide +kernel, by decide +kernel, by decide +kernel, by decide +kernel, by decide +kernel⟩

theorem witness_RelayLinks_2 :
    (let r : Fin 2 := 1; let s : State := stOf (lk run 1); s.dev.linkUp r = true ∧ r = 1) ∧
    (let r : Fin 2 := 1; let s : State := stOf (run.wr (CELL_STATE (Cell.offset (.relay 1))) 2); s.dev.awake = true ∧ s.dev.bistOf (Cell.relay r) = none ∧ s.dev.cst (Cell.relay r) = CellState.active ∧ s.dev.frontBusy = false) :=
  ⟨by decide +kernel, by decide +kernel⟩

theorem witness_FrontProceeds :
    (let x : Desc := fwd 0x502 0 [] 0; let s : State := stOf run; let d := found x 1282 s; Taken x 1282 s ∧ d.head = false) ∧
    (let x : Desc := fwd 0x502 0 [] 0; let s : State := stOf hd; let d := found x 1282 s; let bytes := x.par 8 64; Taken x 1282 s ∧ d.head = true ∧ List.length x.src = bytes.toNat ∧ d.frontBusy = false ∧ d.rd FW_STATE = 0) ∧
    (let x : Desc := fwd 0x503 0xFF [] 0; let s : State := stOf run; Taken x 1283 s ∧ x.src = [] ∧ x.par 0 8 = 255) ∧
    (let b : Bytes := oxb; let rest : List Bytes := [[1]]; let s : State := stOf (ix (run.wr CH_HEAD 0) [oxb, [1]]); s.dev.up = true ∧ s.dev.front.inbox = b :: rest ∧ s.dev.head = false ∧ leAt b 0 4 = 1297045574 ∧ s.dev.frontBusy = false) ∧
    (let b : Bytes := [1]; let rest : List Bytes := [[2]]; let s : State := stOf (ix (run.wr FRONT_STATE 1) [[1], [2]]); s.dev.up = true ∧ s.dev.front.inbox = b :: rest ∧ s.dev.frontBusy = true ∧ leAt b 0 4 ≠ 1297045574 ∧ s.dev.link1.window = [] ∧ s.dev.link1.waiting = []) :=
  ⟨by decide +kernel, by decide +kernel, by decide +kernel, by decide +kernel, by decide +kernel⟩

theorem witness_FrontProceeds_2 :
    (let s : State := stOf ((hd.wr FRONT_STATE 1)); s.dev.up = true ∧ s.dev.head = true ∧ s.dev.frontBusy = true ∧ s.dev.fw.settled = false) ∧
    (let s : State := stOf ((hd.wr FRONT_STATE 2).wr FRONT_ARMED_MAP 1); s.dev.up = true ∧ s.dev.head = true ∧ (s.dev.frontState = FrontState.receiving ∨ s.dev.frontState = FrontState.armed) ∧ s.dev.allIn FRONT_ARMED_MAP = true) ∧
    (let s : State := stOf { (hd.wr FRONT_STATE 1).wr CH_UNITS 2 with front := { manifest := List.replicate 32 1 } }; s.dev.up = true ∧ s.dev.head = true ∧ (s.dev.frontState = FrontState.receiving ∨ s.dev.frontState = FrontState.armed) ∧ s.dev.allIn FRONT_ARMED_MAP = false ∧ s.dev.rd FRONT_LANDFALL ≤ s.dev.chainTime + 500000 ∧ manifestLandfall s.dev.front.manifest ≠ 0) ∧
    (let s : State := stOf (((run.wr FRONT_STATE 3).wr CH_HEAD 1).wr CH_SYNCED 0); s.dev.up = true ∧ s.dev.head = true ∧ (s.dev.frontState = FrontState.committed ∨ s.dev.frontState = FrontState.landed) ∧ s.dev.fw.settled = false ∧ s.dev.allIn FRONT_LANDED_MAP = false ∧ s.dev.rd FRONT_LANDFALL + s.dev.fw.window ≤ s.dev.chainTime + 2500000) ∧
    (let s : State := stOf (((run.wr FRONT_STATE 2).wr CH_HEAD 0).wr FRONT_LANDFALL 5); s.dev.up = true ∧ s.dev.head = false ∧ s.dev.frontState = FrontState.armed ∧ s.dev.chainTime < s.dev.rd FRONT_LANDFALL) :=
  ⟨by decide +kernel, by decide +kernel, by decide +kernel, by decide +kernel, by decide +kernel⟩

theorem witness_FrontProceeds_3 :
    (let s : State := stOf ((run.wr FRONT_STATE 1)); s.dev.up = true ∧ s.dev.head = false ∧ s.dev.frontBusy = true) ∧
    (let s : State := stOf ((run.wr FRONT_STATE 4)); s.dev.up = true ∧ s.dev.head = false ∧ s.dev.frontState = FrontState.landed) ∧
    (let s : State := stOf ((run.wr FRONT_STATE 3)); s.dev.up = true ∧ s.dev.frontState = FrontState.committed ∧ s.dev.rd FRONT_LANDFALL ≤ s.dev.chainTime) ∧
    (let s : State := stOf { ((run.wr FRONT_STATE 6)) with front := { manifest := [1] } }; s.dev.up = true ∧ s.dev.frontState = FrontState.fellBack ∧ s.dev.front.manifest ≠ []) :=
  ⟨by decide +kernel, by decide +kernel, by decide +kernel, by decide +kernel⟩

theorem witness_WatchdogAndCounters :
    (let s : State := stOf (run.wr WDT_STATE 1); let n : Fin 32 := 3; s.dev.rd WDT_STATE ≠ 2 ∧ s.dev.up = true ∧ s.dev.wdtArmed = false ∧ bit s.dev.wdt.enrolled ↑n = false ∧ s.dev.awake = true ∧ s.dev.wdt.start + s.dev.wdt.closes ≤ s.dev.frame) ∧
    (let s : State := stOf { (run.wr WDT_STATE 1) with wdt := { armedTo := some 0, opens := 0, closes := 10, enrolled := 0 } }; s.dev.rd WDT_STATE ≠ 2 ∧ s.dev.up = true ∧ s.dev.wdtArmed = true) ∧
    (let s : State := stOf { (run.wr WDT_STATE 1).wr WDT_CHECKED 8 with wdt := { armedTo := some 0, opens := 0, closes := 10, enrolled := 10, mode := 8 } }; let n : Fin 32 := 3; s.dev.rd WDT_STATE ≠ 2 ∧ s.dev.up = true ∧ bit s.dev.wdt.enrolled ↑n = true ∧ bit (s.dev.rd WDT_CHECKED) ↑n = true ∧ bit s.dev.wdt.mode ↑n = true) ∧
    (let s : State := stOf { (run.wr WDT_STATE 1).wr WDT_CHECKED 8 with wdt := { armedTo := some 0, opens := 5, closes := 10, enrolled := 10, mode := 0 } }; let n : Fin 32 := 3; s.dev.rd WDT_STATE ≠ 2 ∧ s.dev.up = true ∧ bit s.dev.wdt.enrolled ↑n = true ∧ (bit (s.dev.rd WDT_CHECKED) ↑n = false ∨ bit s.dev.wdt.mode ↑n = false)) ∧
    (let x : Desc := fwd 0x702 5 [] 0; let s : State := stOf run; let sel := x.raw.getLsbD 320; Taken x 1794 s ∧ List.length x.src = (if sel = true then 128 else 0)) :=
  ⟨by decide +kernel, by decide +kernel, by decide +kernel, by decide +kernel, by decide +kernel⟩

theorem witness_WatchdogAndCounters_2 :
    (let x : Desc := fwd 0x703 9 [] 0; let s : State := stOf (run.wr FS_FRAME_CNT 10); let d := found x 1795 s; let m := x.par 0 64; Taken x 1795 s ∧ m.toNat ≠ 0 ∧ m.toNat < d.frame) ∧
    (let x : Desc := fwd 0x703 10 [] 0; let s : State := stOf (run.wr FS_FRAME_CNT 10); let d := found x 1795 s; let m := x.par 0 64; Taken x 1795 s ∧ (m.toNat = 0 ∨ d.frame ≤ m.toNat)) ∧
    (let s : State := stOf { ((run.wr CNT_SNAP_CTL_PENDING 1).wr (CNT 3) 77) with cnt := { snapshot := some ⟨.fw,0,0⟩ }, ops := [⟨⟨.fw,0,0⟩, 0x703, 0, false, false, none, 0, 0, 0, [], 0, 0, 0⟩] }; s.dev.snapshotDue = true) :=
  ⟨by decide +kernel, by decide +kernel, by decide +kernel⟩

theorem witness_BarographRecords :
    (let r : BaroRec := ⟨0x101, 0, 0, 1, 2, 3, 4, 9, 0x11, [1,2]⟩; let q : List BaroRec := []; let s : State := stOf { run with baro := { queue := [⟨0x101, 0, 0, 1, 2, 3, 4, 9, 0x11, [1,2]⟩] } }; let wp := s.dev.rd BARO_STATUS_WRITE_POINT; s.dev.up = true ∧ s.dev.on BARO_STATUS_FULL = false ∧ s.dev.on BARO_STATUS_CLEARING = false ∧ s.dev.baro.queue = r :: q ∧ s.dev.rd BARO_STATUS_WRITE_POINT < 16384 ∧ s.homeRead (baroAddr wp) 64 = List.replicate 64 255) ∧
    (let x : Desc := fwd 0x700 (0 + 2 ^ 16 * 2) [] 128; let s : State := { stOf (run.wr BARO_STATUS_WRITE_POINT 2) with home := [(0x1210000, 5), (0x1210041, 3)] }; let first := (x.par 0 16).toNat; let count := (x.par 2 16).toNat; Taken x 1792 s ∧ first < 16384 ∧ 1 ≤ count ∧ count ≤ 1024 ∧ x.src = [] ∧ 64 * count ≤ x.dstLen) ∧
    (let x : Desc := fwd 0x701 0 [] 128; let s : State := { stOf (run.wr BARO_STATUS_WRITE_POINT 2) with home := [(0x1210000, 5), (0x1210041, 3), (0x1220001, 3)] }; Taken x 1793 s) :=
  ⟨by decide +kernel, by decide +kernel, by decide +kernel⟩

theorem witness_PairAndVault :
    (let x : Desc := fwd 0x800 0 [] 256; let s : State := stOf run; Taken x 2048 s ∧ x.par 0 8 = 0 ∧ x.src = [] ∧ 256 ≤ x.dstLen ∧ (s.dev.phase = Phase.running ∨ s.dev.phase = Phase.pilotDown) ∧ s.dev.owner = true ∧ s.dev.frame % 2500 = 0) ∧
    (let x : Desc := fwd 0x800 1 (List.replicate (256 + 7476) 0) 256; let s : State := stOf run; let n := leAt x.src 256 4; Taken x 2048 s ∧ x.par 0 8 = 1 ∧ List.length x.src = 256 + n + 7476) ∧
    (let x : Desc := fwd 0x801 0 [] 256; let s : State := stOf { (run.wr PAIR_STATE 1).wr FS_FRAME_CNT 7 with run := { run.run with groupRole := true } }; Taken x 2049 s ∧ x.src = []) ∧
    (let x : Desc := fwd 0x802 0 [] 256; let s : State := stOf { (run.wr PAIR_STATE 1).wr FS_FRAME_CNT 7 with run := { run.run with groupRole := true } }; let d := found x 2050 s; Taken x 2050 s ∧ x.src = [] ∧ (d.standby = false ∨ d.pairState ≠ PairState.owning)) ∧
    (let x : Desc := fwd 0x802 0 [] 256; let s : State := stOf { (run.wr PAIR_STATE 0).wr FS_FRAME_CNT 7 with run := { run.run with groupRole := true } }; let d := found x 2050 s; Taken x 2050 s ∧ x.src = [] ∧ d.standby = true ∧ d.pairState = PairState.owning) :=
  ⟨by decide +kernel, by decide +kernel, by decide +kernel, by decide +kernel, by decide +kernel⟩

theorem witness_PairAndVault_2 :
    (let s : State := stOf { (((run.wr PAIR_STATE 0).wr FS_FRAME_CNT 7).wr PAIR_BOUND 1).wr (KS_SLOT_VALID 3) 1 with run := { run.run with groupRole := true } }; s.dev.up = true ∧ s.dev.keepsVault = true ∧ s.dev.pairState = PairState.owning ∧ s.dev.recordTime = true ∧ (s.dev.own.returning.isSome = true ∨ s.dev.vaultItems ≠ s.dev.vault.items)) ∧
    (let s : State := stOf { (((run.wr PAIR_STATE 0).wr FS_FRAME_CNT 7).wr PAIR_BOUND 1).wr (KS_SLOT_VALID 3) 1 with vault := { run.vault with written := true } }; s.dev.up = true ∧ s.dev.keepsVault = true ∧ s.dev.vault.written = true ∧ s.dev.vault.markedTo ≤ s.dev.frame ∧ s.dev.markAll ≠ s.dev.vault.seenAll) ∧
    (let f : Nat := 7; let s : State := stOf { (((run.wr PAIR_STATE 1).wr FS_FRAME_CNT 23).wr (COMP_STATUS_RELEASE 95) 1) with own := { run.own with frozen := some 7 } }; s.dev.own.frozen = some f ∧ s.dev.pairState = PairState.notOwning ∧ f + 16 ≤ s.dev.frame) ∧
    (let f : Nat := 7; let s : State := stOf { (((run.wr PAIR_STATE 5).wr FS_FRAME_CNT 39).wr (COMP_STATUS_RELEASE 95) 1) with own := { run.own with outFell := some 7, returning := some ⟨.fw,0,0⟩ }, ops := [⟨⟨.fw,0,0⟩, 0x802, 0, false, false, none, 0, 0, 0, [], 0, 0, 0⟩] }; s.dev.own.outFell = some f ∧ s.dev.pairState = PairState.returning ∧ f + 32 ≤ s.dev.frame ∧ (s.dev.takeoverIn && s.dev.on PAIR_BOUND) = false) :=
  ⟨by decide +kernel, by decide +kernel, by decide +kernel, by decide +kernel⟩

theorem witness_TakeoverProceeds :
    (let f : Nat := 7; let s : State := stOf { (((run.wr PAIR_STATE 4).wr FS_FRAME_CNT 13)) with own := { run.own with taking := some 7 } }; let r : TkRec := ⟨3, List.replicate 16 0, 4, false, 0, 0, 0, [], [], [], [], [], [], [(1, [2])], 0, [], [], [], []⟩; s.dev.own.taking = some f ∧ s.dev.up = true ∧ s.dev.pairState = PairState.taking ∧ s.dev.own.applied = false ∧ f + 6 ≤ s.dev.frame ∧ (r.writer = slice s.dev.serial 0 16 ∨ r.writer = leBytes 8 (s.dev.rd (PAIR_PARTNER_SERIAL 0)) ++ leBytes 8 (s.dev.rd (PAIR_PARTNER_SERIAL 1)))) ∧
    (let s : State := stOf { (((run.wr PAIR_STATE 4).wr FS_FRAME_CNT 13)) with own := { run.own with taking := some 7, applied := true } }; s.dev.up = true ∧ s.dev.pairState = PairState.taking ∧ s.dev.own.applied = true ∧ s.dev.pairsActive = true) ∧
    (let n : Fin 96 := 5; let s : State := stOf (((run.wr (COMP_STATUS_HOLD 5) 0xFFFF)).wr (CELL_STATE (Cell.offset (.pp 2))) 2); s.dev.held (↑n) Hold.takeover = true ∧ s.dev.cst (Cell.pp ⟨n.val / 2, by omega⟩) = CellState.active ∧ s.dev.pinsComplete ↑n = true) :=
  ⟨by decide +kernel, by decide +kernel, by decide +kernel⟩

theorem witness_CalibrationCommits :
    (let s : State := stOf run; s.dev.up = true ∧ s.dev.on CAL_STATUS_BUSY = false ∧ s.dev.open_ = true ∧ HomeCanonical s) ∧
    (let s : State := stOf run; Dev.calPageOk (s.dev.regBytes CAL_STAGE 512) = false) :=
  ⟨⟨by decide, by decide, by decide, rfl⟩, by decide +kernel⟩

theorem witness_DrizzleRefused :
    let x : Desc := fwd 0x708 0 [1] 0; let s : State := stOf run; Taken x 1800 s ∧ s.dev.ops = [] ∧ s.dev.cpls = [] ∧
      (found x 1800 s).drizzleRefusal (List.length x.src) = some Status.lengthMismatch := by decide +kernel

theorem witness_ExecKeepsQueue :
    let s : State := stOf run; let t : State := nextOf (exec .pilotReset s); exec .pilotReset s = .next t ∧ t.dev.phase = .pilotDown :=
  ⟨rfl, by decide⟩

/-- A command in front that writes HOME, in a state that lists a byte of it. -/
theorem witness_HomeStaysCanonical :
    let s : State := { stOf run with home := [(0x1200000, 5)], pending := [.settingsSave] }
    HomeCanonical s ∧ step s = .next (nextOf (step s)) :=
  ⟨rfl, rfl⟩

theorem witness_OtpNeverFalls :
    let s : State := { stOf vq with otp := [], pending := [.otpPulseEnd true true true], dev := { vq with otpx := { vq.otpx with burns := [⟨[.word 1024 3 false], some (1024, 0), 1, 0, none⟩] } } }
    OtpOrdered s ∧ step s = .next (nextOf (step s)) :=
  ⟨fun _ _ => ⟨id, id⟩, rfl⟩

theorem witness_EveryCommandGoesOn :
    (∀ ns, Instr.pilotReset = .pwrGoodQualifyingLow ns → ns < 1000 ∨ 3000 ≤ ns)
      ∧ (∀ ns, Instr.pwrGoodQualifyingLow 999 = .pwrGoodQualifyingLow ns → ns < 1000 ∨ 3000 ≤ ns)
      ∧ ∀ ns, Instr.pwrGoodQualifyingLow 3000 = .pwrGoodQualifyingLow ns → ns < 1000 ∨ 3000 ≤ ns :=
  ⟨fun _ h => (nomatch h), fun _ h => by cases h; decide, fun _ h => by cases h; decide⟩

/-- An OXM that passes every check of Table 10-7. -/
theorem oxm_passes {d : Dev} {b : Bytes} {floor target : Nat} {kinds : List Nat} (h1 : oxmFormatOk b = true ∧ oxmLengthOk b = true ∧ leAt b 6 1 = 0)
    (h2 : d.slotIntact (leAt b 0x11 1) = true ∧ d.rd CR_STATE ≠ 3 ∧ floor ≤ leAt b 0x10 1 ∧ kinds.contains 0 = true ∧ leAt b 0x14 2 = target)
    (h3 : d.signedBy false (leAt b 0x11 1) (oxmSigned b) (sigBlock b (64 + leAt b 0xC 4)) = true) : d.oxmCheck b floor kinds target = none := by
  obtain ⟨a, l, k⟩ := h1
  obtain ⟨i, e, v, m, t⟩ := h2
  have : ¬ leAt b 16 1 < floor := by omega
  simp_all [Dev.oxmCheck]

/-- A write of primary bytes that passes every check of Table 06-7. -/
theorem image_write_passes {d : Dev} {n count : Nat} {oxm image : Bytes} {c : CompRec} (he : (d.gc n).entry = some c)
    (h1 : d.atRest n = true ∧ d.state n ≠ .thawing ∧ (d.gc n).write.isSome = false ∧ c.aligned4k = true) (ho : d.oxmCheck oxm (d.rd (COMP_OXM_FLOOR n)) [0] n = none)
    (h2 : partChecks c oxm (parseOxm oxm).parts = none ∧ (parseOxm oxm).parts.all (fun p => c.inRole 1 p.base p.len) = true)
    (h3 : treesApart (parseOxm oxm).parts (((d.comp n).oxm.map Oxm.parts).getD []) = true ∧ treesApart (parseOxm oxm).parts (((d.comp n).golden.map Oxm.parts).getD []) = true
      ∧ treesClear c 1 (parseOxm oxm).parts = true ∧ d.pinTotal n (parseOxm oxm).parts ≤ 8192)
    (h4 : count = ((c.regions.filter fun r => r.role = 1).map fun r => r.limit + 1 - r.base).sum ∧ image.length ≤ count) :
    d.imageWriteCheck n false count oxm image = none := by
  obtain ⟨a, t, w, k⟩ := h1
  obtain ⟨p, q⟩ := h2
  obtain ⟨x, y, z, m⟩ := h3
  obtain ⟨l, b⟩ := h4
  subst l
  have m' : ¬ 8192 < d.pinTotal n (parseOxm oxm).parts := by omega
  have b' : ¬ ((c.regions.filter fun r => r.role = 1).map fun r => r.limit + 1 - r.base).sum < image.length := by omega
  have t' : (d.state n = .thawing) = False := eq_false t
  unfold Dev.imageWriteCheck Dev.compOxmCheck
  rw [he]
  simp only [ho, p, q, x, y, z, a, w, k, t', m', b', Bool.false_eq_true, ↓reduceIte, Bool.not_true, Bool.not_false, Bool.and_false, Bool.or_false, decide_false, ne_eq, not_true_eq_false, or_self, Bool.false_or]

/-- A part of two granules with its tree behind it. -/
def recI : CompRec := { rec0 1 with densityLog2 := 16, regions := [⟨0, 0xFFF, 1, 0, 1⟩, ⟨0x1000, 0x1FFF, 2, 0, 3⟩, ⟨0x2000, 0xFFFF, 2, 0, 0⟩] }
def oxmI : Bytes :=
  leBytes 4 0x4D4F5846 ++ leBytes 2 1 ++ [0, 0] ++ leBytes 4 (144 + sigBlockLen) ++ leBytes 4 80 ++ [3, 0] ++ leBytes 2 1 ++ leBytes 2 1 ++ List.replicate 42 0
    ++ ([1, 0, 0, 0] ++ leBytes 4 0 ++ leBytes 4 4096 ++ leBytes 4 0x1000 ++ leBytes 4 768 ++ List.replicate 12 0 ++ List.replicate 48 7) ++ List.replicate sigBlockLen 9

/-- An image write that every check passes, once the signatures verify: their outcome is the cryptography's, which no evaluation shows. -/
theorem witness_ImageWriteTaken :
    let x : Desc := fwd 0x204 (1 + 2 ^ 64 * 4096) [1, 2, 3] 0
    let s : State := stOf { cm 0 8 0 with gcs := [(1, { entry := some recI })] }
    let d := found x 0x204 s
    (CompTaken x 0x204 s ∧ (x.par 1 8 : BitVec 8).toNat ≤ 1) ∧
      (d.signedBy false (leAt oxmI 0x11 1) (oxmSigned oxmI) (sigBlock oxmI (64 + leAt oxmI 0xC 4)) = true → d.imageWriteCheck x.comp false (x.par 8 64 : BitVec 64).toNat oxmI x.src = none) := by
  intro x s d
  refine ⟨by decide +kernel, fun h => ?_⟩
  have he : (d.gc x.comp).entry = some recI := by decide +kernel
  have hp : d.oxmCheck oxmI (d.rd (COMP_OXM_FLOOR x.comp)) [0] x.comp = none :=
    oxm_passes (by decide +kernel) (by decide +kernel) h
  exact image_write_passes he (by decide +kernel) hp (by decide +kernel) (by decide +kernel) (by decide +kernel)

/-! ## Ill-formed commands -/

/-- A descriptor of the firmware whose SQ index does not fit 16 bits. -/
def badDesc : Desc := dsc ⟨.fw, 0, 65536⟩ 0 0 [] 0
def farDesc : Desc := { fwd 0 0 [] 0 with failAddr := some (2 ^ 64) }
def longList : Desc := { fwd 0 0 [] 0 with gather := List.replicate 258 0 }
def noFrame : RFrame := ⟨1, 0, 0, 0, 0, 0, 0, List.replicate 1005 0⟩
def warm : Monitors := ⟨List.replicate 8 0, 0, 0⟩
def sevenSensors : Monitors := ⟨List.replicate 7 0, 0, 0⟩
def calm (scans : List Scan) (ecc : List EccFound) : TickIn := ⟨0, warm, true, true, scans, [], [], none, ecc⟩

theorem test_wf_descriptor : (Instr.nop badDesc).wf = false ∧ (Instr.nop farDesc).wf = false ∧ (Instr.operationComplete badDesc.ref).wf = false := by decide
theorem test_wf_list : (Instr.nop longList).wf = false := by decide +kernel
theorem test_wf_reset_descriptor : (Instr.deviceReset (some badDesc) ⟨true, true, true, warm⟩).wf = false := by decide
theorem test_wf_expected_digest : (Instr.digest (fwd 0x100 0 [] 0) (List.replicate 128 0)).wf = false := by decide +kernel
theorem test_wf_host_read : (Instr.hostMemory 0 (.fetch 256) 0).wf = false ∧ (Instr.hostMemory 0 (.data 0 65536) 0).wf = false := by decide
theorem test_wf_start : (Instr.startSequenceComplete (.dn 0) ⟨true, true, [64], [], [], [], [], [], 0⟩).wf = false := by decide
theorem test_wf_relay_frame : (Instr.relayControl 0 noFrame).wf = false := by decide +kernel
theorem test_wf_monitors : (Instr.powerOnReset sx ⟨true, true, true, sevenSensors⟩).wf = false := by decide
theorem test_wf_ecc_hit : (Instr.read (tx0 0x03) 0 [] (some ⟨0, 128, 0, true⟩)).wf = false := by decide
theorem test_wf_off_access : (Instr.offAccess .fw 64 2 false).wf = false ∧ (Instr.offAccess .fw (2 ^ 26) 4 false).wf = false := by decide
theorem test_wf_granule : (Instr.completionFetch 0 0 (List.replicate 2049 0)).wf = false := by decide +kernel
theorem test_wf_record : (Instr.contextAutoImport 0 []).wf = false := by decide
theorem test_wf_message : (Instr.mctpMessage 0 5 0 true).wf = false := by decide
theorem test_wf_nonce : (Instr.getMeasurements 0 none ⟨0x12, true⟩ 1 true false [1]).wf = false := by decide
theorem test_wf_scan : (Instr.functionDrowsy ⟨0, 1, 8, [(3, 0), (3, 1)]⟩).wf = false := by decide
theorem test_wf_tick : (Instr.frameTick (calm [⟨7, 1, 0, []⟩, ⟨7, 1, 0, []⟩] [])).wf = false ∧ (Instr.frameTick (calm [] (List.replicate 9 .corrected))).wf = false := by
  decide
theorem test_wf_good : (Instr.nop (fwd 0 0 [] 0)).wf = true ∧ (Instr.frameTick (calm [⟨7, 1, 0, []⟩] [])).wf = true := by decide

/-! ## Values that the spec or a cited standard gives -/

/-- The check value of CRC-32 in IEEE 802.3: that of the string "123456789". -/
theorem test_crc32 : crc32 [0x31, 0x32, 0x33, 0x34, 0x35, 0x36, 0x37, 0x38, 0x39] = 0xCBF43926 := by decide +kernel

/-- R2: DEVICE_ID of stepping B0. -/
theorem test_device_id : State.reset.dev.readValue 0x40 4 = 0x964000B0 := by decide +kernel

/-- R107: of taps 10 to 20 and 30 to 45 the longer run counts, and its middle is rounded down. -/
theorem test_dqs_tap : (nextOf (exec (.dqsRetrain 0 0 false) (stOf { b0 with pairs := [(0, { sweep := some (0, 63, List.range' 10 11 ++ List.range' 30 16) })] }))).dev.rd
    (DQS_TRIM_TAP 0 0) = 37 := by decide +kernel

/-- R460: a low of 2 us has no stated effect; one of 0.999 us has none at all. -/
theorem test_power_good : exec (.pwrGoodQualifyingLow 2000) State.reset = .fault .powerGoodGlitch
    ∧ exec (.pwrGoodQualifyingLow 999) State.reset = .next State.reset := ⟨rfl, rfl⟩

/-- R354: a pulse that took raises its bit at every level, and no other. -/
theorem test_otp_pulse : (nextOf (exec (.otpPulseEnd true true true) { stOf vq with otp := [], dev := { vq with otpx := { vq.otpx with
    burns := [⟨[.word 1024 4 false], some (1024, 2), 1, 0, none⟩] } } })).otp = [(1024, ⟨4, 4, 4⟩)] := by decide +kernel

/-- The first command waiting runs first, and the others stay as they were. -/
theorem test_queue : (nextOf (step { State.reset with pending := [.cellReset .device, .pilotReset] })).pending = [.pilotReset] := by decide

end Sys2Proof.Tests
end

section
/-! PROOFS. The scope chapter (00_scope.md): the state after reset, DEVICE_ID and the access types of registers. -/

namespace Sys2Proof.Machine
open Reg

/-- In State.reset every OTP word reads the same at the three reference levels. -/
theorem word_reset (w : Nat) : (State.reset.word w).high = (State.reset.word w).normal ∧ (State.reset.word w).low = (State.reset.word w).normal := by
  by_cases h : 0 = w <;> simp [State.word, State.reset, SMap.get, h]

theorem otpOrdered_reset : OtpOrdered State.reset := fun w i => by
  obtain ⟨hhigh, hlow⟩ := word_reset w
  rw [hhigh, hlow]
  exact ⟨id, id⟩

/-- Settles O5: each clause is read off State.reset, the OTP words by `word_reset`. -/
theorem resetIsGood : Obligations.ResetIsGood :=
  ⟨rfl, rfl, otpOrdered_reset, by decide +kernel⟩

end Sys2Proof.Machine
namespace Sys2Proof.Machine
open Reg

/-! ## The window and DEVICE_ID -/

theorem fieldsAt_deviceId : fieldsAt 0x40 = [(0, ⟨0x40, 1, 0, 1, 0, 0, 4, .ro, 0x0, [.p]⟩), (4, ⟨0x40, 1, 0, 1, 0, 4, 4, .ro, 0xB, [.p]⟩),
    (16, ⟨0x40, 1, 0, 1, 0, 16, 16, .ro, 0x9640, [.p]⟩)] := by decide +kernel

theorem fieldsAt_govTrip : fieldsAt 0x27050 = [(0, ⟨0x50, 1, 0, 1, 0, 0, 8, .rw, 0x64, [.p, .d]⟩), (8, ⟨0x50, 1, 0, 1, 0, 8, 8, .rw, 0xB4, [.p, .d]⟩)] := by
  decide +kernel

theorem fieldsAt_fsStatus : fieldsAt 0x10048 = [(0, ⟨0x48, 1, 0, 1, 0, 0, 1, .w1c, 0x0, [.p, .d]⟩), (1, ⟨0x48, 1, 0, 1, 0, 1, 5, .ro, 0x0, [.p, .d]⟩)] := by
  decide +kernel

namespace Dev

variable {d : Dev}

/-- DEVICE_ID as a 64-bit register: its three fields side by side. -/
theorem readWord_deviceId (d : Dev) :
    d.readWord 0x40 = d.rd DEVICE_ID_STEP_MINOR + 2 ^ 4 * d.rd DEVICE_ID_STEP_MAJOR + 2 ^ 16 * d.rd DEVICE_ID_PART := by
  have hcell : cellAt 0x40 = none := by decide
  simp [readWord, hcell, recAddr, fnAt, heldWord, fieldsAt_deviceId, DEVICE_ID_PART, DEVICE_ID_STEP_MAJOR, DEVICE_ID_STEP_MINOR]

/-- The device cell, ACTIVE and not under test, answers at DEVICE_ID. -/
theorem offCell_deviceId (hact : d.cst .device = .active) (hbist : d.bistOf .device = none) : d.offCell 0x40 = none := by
  have hcell : cellAt 0x40 = none := by decide
  have hown : ownerAt 0x40 = some .device := by decide
  simp [offCell, hcell, hown, hact, hbist]

/-- What a read of DEVICE_ID returns while its fields hold their reset values; it does nothing else. -/
theorem readAccess_deviceId (hoff : d.offCell 0x40 = none) (hpart : d.rd DEVICE_ID_PART = 0x9640) (hmajor : d.rd DEVICE_ID_STEP_MAJOR = 0xB)
    (hminor : d.rd DEVICE_ID_STEP_MINOR = 0) {size : Nat} (hsize : size = 4 ∨ size = 8) : d.readAccess true 0x40 size = (0x964000B0, d) := by
  have hword : d.readWord 0x40 = 0x964000B0 := by simp [readWord_deviceId, hpart, hmajor, hminor]
  rcases hsize with rfl | rfl <;> simp [readAccess, hoff, cryptoHole, keyIn, readValue, hword, bits]

/-- A read through the window of an address beside the mailbox drives the data and STATUS 0. -/
theorem out_windowRead {k : Fin 2} {a size v : Nat} {e : Dev} (hup : d.windowUp k = true) (hst : d.windowStatus k a size false = 0)
    (hmbx : mbxAddr a = false) (hacc : d.readAccess true a size = (v, e)) :
    (d.windowRead k true a size).out.head? = some (.i3c k (leBytes size v ++ [0])) := by
  simp [windowRead, hup, hst, hmbx, hacc, emit, leBytes]

theorem windowStatus_deviceId {k : Fin 2} (hrun : d.phase = .running) {size : Nat} (hsize : size = 4 ∨ size = 8) :
    d.windowStatus k 0x40 size false = 0 := by
  rcases hsize with rfl | rfl <;> simp [windowStatus, aligned, hrun, mbxAddr]

/-! ## Register writes field by field (Table 00-6) -/

/-- A write acts on a field by loading that field or not at all. -/
theorem writeField_cases (fw : Bool) (a mask data : Nat) (d : Dev) (e : Nat × Row) :
    writeField fw a mask data d e = d ∨ ∃ v, writeField fw a mask data d e = d.wr ⟨8 * a + e.1, e.2.width⟩ v := by
  unfold writeField
  dsimp only
  split
  · exact .inl rfl
  split
  · exact .inr ⟨_, rfl⟩
  split
  case h_1 => exact .inl rfl
  case h_2 =>
    split
    · exact .inr ⟨_, rfl⟩
    · exact .inl rfl
  case h_3 =>
    split
    · exact .inl rfl
    · exact .inr ⟨_, rfl⟩
  case h_4 =>
    split
    · exact .inr ⟨_, rfl⟩
    · exact .inl rfl
  case h_5 => exact .inr ⟨_, rfl⟩

/-- An RO field that is not the firmware's own stays (Table 00-6). -/
theorem writeField_ro {fw : Bool} {a : Nat} {e : Nat × Row} (hro : e.2.acc = .ro) (hfw : firmwareField a = false) (mask data : Nat) (d : Dev) :
    writeField fw a mask data d e = d := by
  simp [writeField, hro, hfw]

/-- A write to a register leaves the fields of every other register. -/
theorem rd_writeFields_ne {fw : Bool} {a mask data : Nat} {f : Fld} (l : List (Nat × Row)) (hl : ∀ e ∈ l, 8 * a + e.1 ≠ f.bit) (d : Dev) :
    (l.foldl (writeField fw a mask data) d).rd f = d.rd f := by
  induction l generalizing d with
  | nil => rfl
  | cons e l ih =>
    rw [List.foldl_cons, ih (fun x hx => hl x (List.mem_cons_of_mem _ hx))]
    rcases writeField_cases fw a mask data d e with h | ⟨v, h⟩
    · rw [h]
    · rw [h, rd_wr_ne _ _ (hl e List.mem_cons_self)]

/-- The fields of a register begin within its 64 bits. -/
theorem lt_of_mem_fieldsAt {a : Nat} {e : Nat × Row} (h : e ∈ fieldsAt a) : e.1 < 64 := by
  obtain ⟨k, hk, hrow⟩ := List.mem_filterMap.mp h
  obtain ⟨r, -, rfl⟩ := Option.map_eq_some_iff.mp hrow
  exact List.mem_range.mp hk

/-- An access to a cell that is OFF sets OFF_ACCESS there, and loads no other field. -/
theorem rd_offAccess_ne {d : Dev} {c : Cell} {f : Fld} (h : (CELL_EVT_OFF_ACCESS c.offset).bit ≠ f.bit) : (d.offAccess c).rd f = d.rd f := by
  have hring (e : Dev) (x : EvtRec) : (e.ringPost 0 x).rd f = e.rd f := by
    unfold ringPost; split <;> rfl
  have hraise : (d.raise (CELL_EVT_OFF_ACCESS c.offset)).rd f = d.rd f := rd_wr_ne _ _ h
  unfold offAccess cellEvent flagEvent
  dsimp only
  split
  · rw [hring, hraise]
  · exact hraise

end Dev

/-- An address beside the ranges whose writes have a rule of their own: the holes of the Crypto range, KS.KEY_IN, the recovery registers and the
watchdog's. -/
abbrev Ordinary (a : Nat) : Prop := cryptoHole a = false ∧ keyIn a = false ∧ recAddr a = false ∧ wdtAddr a = false

/-- A register with no trigger: neither in a header or a function block, nor one of the control registers. -/
abbrev Untriggered (a : Nat) : Prop :=
  cellAt a = none ∧ fnAt a = none ∧ a ∉ [0xE18, 0x20080, 0x23058, 0x23060, 0x27078, 0x48050] ∧ ¬ (0x10320 ≤ a ∧ a < 0x10330)

namespace State

/-- A write to a register that answers: its fields take the data, and then what the write triggers follows. -/
theorem writeAccess_answered {s : State} {a : Nat} (hord : Ordinary a) (hoff : s.dev.offCell a = none) (fw : Bool) (size v : Nat) (good : Bool) :
    s.writeAccess false fw a size v good =
      let mask := if size = 8 then 2 ^ 64 - 1 else 2 ^ (8 * (a % 8)) * (2 ^ 32 - 1)
      let data := (if size = 8 then v else 2 ^ (8 * (a % 8)) * v) % 2 ^ 64
      (s.onDev fun d => (fieldsAt (a / 8 * 8)).foldl (Dev.writeField fw (a / 8 * 8) mask data) d).trigger fw (a / 8 * 8) mask data good := by
  obtain ⟨hhole, hkey, hrec, hwdt⟩ := hord
  simp only [writeAccess, hoff, hhole, hkey, hrec, hwdt, Bool.false_and, Bool.false_eq_true, if_false]

/-- A write to an address whose cell does not answer sets OFF_ACCESS and no more (R65). -/
theorem writeAccess_off {s : State} {w fw : Bool} {a : Nat} {c : Cell} (hoff : s.dev.offCell a = some c) (size v : Nat) (good : Bool) :
    s.writeAccess w fw a size v good = s.onDev fun d => d.offAccess c := by
  simp [writeAccess, hoff]

theorem trigger_untriggered {s : State} {a : Nat} (h : Untriggered a) (fw : Bool) (mask data : Nat) (good : Bool) : s.trigger fw a mask data good = s := by
  simp only [Untriggered, List.mem_cons, List.not_mem_nil, or_false, not_or] at h
  obtain ⟨hcell, hfn, ⟨hrec, hrep, hsvc, hchk, hcal, hkey⟩, hchat⟩ := h
  simp [trigger, hcell, hfn, hrec, hrep, hsvc, hchk, hcal, hkey, hchat]

end State

/-! ## DEVICE_ID under writes -/

/-- A field of DEVICE_ID: an even bit of the register at 0x40. -/
abbrev InDeviceId (f : Fld) : Prop := f.bit % 2 = 0 ∧ 8 * 0x40 ≤ f.bit ∧ f.bit < 8 * 0x40 + 64

theorem cell_offset_mod (c : Cell) : c.offset % 0x40 = 0 := by
  cases c <;> simp [Cell.offset] <;> omega

/-- OFF_ACCESS lies at an odd bit, so beside every field of DEVICE_ID. -/
theorem rd_offAccess_deviceId {f : Fld} (hf : InDeviceId f) (d : Dev) (c : Cell) : (d.offAccess c).rd f = d.rd f := by
  obtain ⟨heven, -, -⟩ := hf
  refine Dev.rd_offAccess_ne ?_
  simp only [CELL_EVT_OFF_ACCESS]
  omega

namespace State

/-- A write to the address of DEVICE_ID leaves its fields: they are RO. -/
theorem rd_writeAccess_deviceId {f : Fld} (hf : InDeviceId f) (s : State) (fw : Bool) (size v : Nat) (good : Bool) :
    (s.writeAccess false fw 0x40 size v good).dev.rd f = s.dev.rd f := by
  cases hoff : s.dev.offCell 0x40 with
  | some c => rw [writeAccess_off hoff]; exact rd_offAccess_deviceId hf _ c
  | none =>
    rw [writeAccess_answered (by decide) hoff]
    dsimp only
    rw [trigger_untriggered (by decide)]
    simp [fieldsAt_deviceId, Dev.writeField_ro, Dev.firmwareField]

/-- A write to the block of a VF leaves DEVICE_ID. -/
theorem rd_writeAccess_vf {f : Fld} (hf : InDeviceId f) {k : Nat} (hk : k ≠ 0) (s : State) (fw : Bool) (size v : Nat) (good : Bool) :
    (s.writeAccess false fw (barAddr k 0x40) size v good).dev.rd f = s.dev.rd f := by
  have haddr : barAddr k 0x40 = 0x10000040 + 0x4000 * k := by simp [barAddr, fnBase, hk]; omega
  rw [haddr]
  generalize ha : 0x10000040 + 0x4000 * k = a
  have hword : a / 8 * 8 = a := by omega
  have hcell : cellAt a = none := by
    simp only [cellAt]
    repeat rw [if_neg (by omega)]
    rw [dif_neg (by omega)]
  have hfn : fnAt a = some k := by
    simp only [fnAt]
    rw [if_neg (by omega), if_pos (by omega)]
    congr 1; omega
  cases hoff : s.dev.offCell a with
  | some c => rw [writeAccess_off hoff]; exact rd_offAccess_deviceId hf _ c
  | none =>
    have hord : Ordinary a := by simp [Ordinary, cryptoHole, keyIn, recAddr, wdtAddr]; omega
    rw [writeAccess_answered hord hoff, hword]
    have htrig (u : State) (mask data : Nat) : u.trigger fw a mask data good = u := by
      have hmod : a % 0x4000 = 0x40 := by omega
      have : a ≠ 0xE18 ∧ a ≠ 0x20080 ∧ a ≠ 0x23058 ∧ a ≠ 0x23060 ∧ a ≠ 0x27078 ∧ a ≠ 0x48050 ∧ ¬ (0x10320 ≤ a ∧ a < 0x10330) := by omega
      simp [trigger, hcell, hfn, this, hmod, Dev.fnTrigger, onDev]
    dsimp only
    rw [htrig]
    refine Dev.rd_writeFields_ne _ (fun e he => ?_) _
    have := Dev.lt_of_mem_fieldsAt he
    obtain ⟨-, -, hhi⟩ := hf
    omega

end State

/-- REGISTER_WRITE makes one write to a register at its BAR or firmware address, or drives an Unsupported Request, or does nothing (R11, R70). -/
theorem registerWrite_cases {port : Port} {a : BitVec 26} {wide : Bool} {v : DWord} {good : Bool} {s t : State}
    (h : exec (.registerWrite port a wide v good) s = .next t) :
    t = s ∨ (∃ o, t = s.onDev fun d => d.emit o)
      ∨ (∃ k size, t = s.writeAccess false false (barAddr k a.toNat) size v.toNat good) ∨ ∃ size, t = s.writeAccess false true a.toNat size v.toNat good := by
  have hex : exec (.registerWrite port a wide v good) s = execRegisterWrite port a wide v good s := rfl
  rw [hex] at h
  cases h
  cases port with
  | i3c k => exact .inl rfl
  | fw =>
    dsimp only
    generalize (if wide = true then 8 else 4) = size
    split
    · exact .inr (.inr (.inr ⟨_, rfl⟩))
    · exact .inl rfl
  | fn k =>
    dsimp only
    generalize (if wide = true then 8 else 4) = size
    split
    · exact .inl rfl
    split
    · exact .inr (.inl ⟨_, rfl⟩)
    split
    · exact .inr (.inr (.inl ⟨_, _, rfl⟩))
    · exact .inl rfl

/-- REGISTER_WRITE of the offset of DEVICE_ID, from any port, leaves its fields. -/
theorem rd_registerWrite_deviceId {f : Fld} (hf : InDeviceId f) {port : Port} {wide : Bool} {v : DWord} {good : Bool} {s t : State}
    (h : exec (.registerWrite port 0x40 wide v good) s = .next t) : t.dev.rd f = s.dev.rd f := by
  rcases registerWrite_cases h with rfl | ⟨o, rfl⟩ | ⟨k, size, rfl⟩ | ⟨size, rfl⟩
  · rfl
  · rfl
  · by_cases hk : k = 0
    · subst hk
      exact State.rd_writeAccess_deviceId hf s false size v.toNat good
    · exact State.rd_writeAccess_vf hf hk s false size v.toNat good
  · exact State.rd_writeAccess_deviceId hf s true size v.toNat good

/-- Settles O6: `readAccess_deviceId` for the reads, `rd_registerWrite_deviceId` for the writes. -/
theorem deviceIdReads : Obligations.DeviceIdReads := by
  refine ⟨by decide +kernel, fun k s hup hrun hact hbist hpart hmajor hminor => ?_, fun port wide v good s t h => ?_, by decide +kernel⟩
  · have hread {size : Nat} (hsize : size = 4 ∨ size = 8) :=
      Dev.out_windowRead hup (Dev.windowStatus_deviceId hrun hsize) (by decide)
        (Dev.readAccess_deviceId (Dev.offCell_deviceId hact hbist) hpart hmajor hminor hsize)
    exact ⟨⟨_, rfl, hread (.inl rfl)⟩, ⟨_, rfl, hread (.inr rfl)⟩⟩
  · exact ⟨rd_registerWrite_deviceId (by decide) h, rd_registerWrite_deviceId (by decide) h, rd_registerWrite_deviceId (by decide) h⟩

/-! ## GOV_TRIP and FS.STATUS under writes -/

/-- REGISTER_WRITE of 4 bytes by PF0 to a register that answers and has no trigger: its fields take the data. -/
theorem registerWrite_pf0 {s : State} {a : BitVec 26} (hcond : s.dev.conditions = true) (hlive : s.dev.fnLive 0 = true) (hmse : (s.dev.fn 0).mse = true)
    (ha : a.toNat % 8 = 0) (hord : Ordinary a.toNat) (htrig : Untriggered a.toNat) (hoff : s.dev.offCell a.toNat = none) (v : DWord) (good : Bool) :
    exec (.registerWrite (.fn 0) a false v good) s = .next (s.onDev fun d =>
      (fieldsAt a.toNat).foldl (Dev.writeField false a.toNat (2 ^ 32 - 1) v.toNat) d) := by
  have hword : a.toNat / 8 * 8 = a.toNat := by omega
  have hv : v.toNat % 18446744073709551616 = v.toNat := Nat.mod_eq_of_lt v.isLt
  have hfour : aligned a.toNat 4 = true := by simp [aligned]; omega
  have hwrite : s.writeAccess false false a.toNat 4 v.toNat good = s.onDev fun d =>
      (fieldsAt a.toNat).foldl (Dev.writeField false a.toNat (2 ^ 32 - 1) v.toNat) d := by
    rw [State.writeAccess_answered hord hoff, hword]
    dsimp only
    rw [State.trigger_untriggered htrig]
    simp [ha, hv]
  calc exec (.registerWrite (.fn 0) a false v good) s = execRegisterWrite (.fn 0) a false v good s := rfl
    _ = _ := by simp [execRegisterWrite, hcond, hlive, hmse, hfour, barAddr, hwrite]

/-- GOV_TRIP takes the value written, kept within 80 to 100 (R450). -/
theorem rd_govTrip_writeFields (d : Dev) (v : Nat) :
    ((fieldsAt 0x27050).foldl (Dev.writeField false 0x27050 (2 ^ 32 - 1) v) d).rd MON_CFG_GOV_TRIP = max 80 (min 100 (v % 256)) := by
  have hcell : cellAt 0x27050 = none := by decide
  have hfirst : Dev.writeField false 0x27050 (2 ^ 32 - 1) v d (0, ⟨0x50, 1, 0, 1, 0, 0, 8, .rw, 0x64, [.p, .d]⟩)
      = d.wr MON_CFG_GOV_TRIP (max 80 (min 100 (v % 256))) := by
    have hand : v % 256 &&& 255 = v % 256 := by
      rw [show (255 : Nat) = 2 ^ 8 - 1 from rfl, Nat.and_two_pow_sub_one_eq_mod]; omega
    simp [Dev.writeField, Dev.taken, hcell, Dev.firmwareField, hand, MON_CFG_GOV_TRIP]
  rw [fieldsAt_govTrip, List.foldl_cons, hfirst, Dev.rd_writeFields_ne _ (by decide), rd_wr_fit]
  simp only [MON_CFG_GOV_TRIP]
  omega

/-- OVERRUN clears on a 1 and stays on a 0; OVR_SLOT stays (Table 00-6). -/
theorem rd_fsStatus_writeFields (d : Dev) (v : Nat) :
    let e := (fieldsAt 0x10048).foldl (Dev.writeField false 0x10048 (2 ^ 32 - 1) v) d
    e.rd FS_STATUS_OVERRUN = (if v % 2 = 1 then 0 else d.rd FS_STATUS_OVERRUN % 2) ∧ e.rd FS_STATUS_OVR_SLOT = d.rd FS_STATUS_OVR_SLOT := by
  have hfirst : Dev.writeField false 0x10048 (2 ^ 32 - 1) v d (0, ⟨0x48, 1, 0, 1, 0, 0, 1, .w1c, 0x0, [.p, .d]⟩)
      = d.wr FS_STATUS_OVERRUN (d.rd FS_STATUS_OVERRUN &&& (1 ^^^ (v % 2 &&& 1))) := by
    simp [Dev.writeField, Dev.firmwareField, FS_STATUS_OVERRUN]
  have hlast : Dev.writeField false 0x10048 (2 ^ 32 - 1) v (d.wr FS_STATUS_OVERRUN (d.rd FS_STATUS_OVERRUN &&& (1 ^^^ (v % 2 &&& 1))))
      (1, ⟨0x48, 1, 0, 1, 0, 1, 5, .ro, 0x0, [.p, .d]⟩) = d.wr FS_STATUS_OVERRUN (d.rd FS_STATUS_OVERRUN &&& (1 ^^^ (v % 2 &&& 1))) :=
    Dev.writeField_ro rfl rfl ..
  simp only [fieldsAt_fsStatus, List.foldl_cons, List.foldl_nil, hfirst, hlast]
  refine ⟨?_, rd_wr_ne _ _ (by decide)⟩
  rw [rd_wr_self]
  rcases Nat.mod_two_eq_zero_or_one v with hv | hv <;> simp [hv, FS_STATUS_OVERRUN]

/-- Settles O20: the access types act in `writeField`; neither register has a trigger. -/
theorem registerWritesByType : Obligations.RegisterWritesByType := by
  rintro _ v good s rfl hcond hlive hmse
  constructor
  · intro hoff
    have hexec := registerWrite_pf0 (a := 0x27050) hcond hlive hmse (by decide) (by decide) (by decide) hoff v good
    exact ⟨_, hexec, rd_govTrip_writeFields s.dev v.toNat, rfl, rfl⟩
  · intro hoff
    have hexec := registerWrite_pf0 (a := 0x10048) hcond hlive hmse (by decide) (by decide) (by decide) hoff v good
    obtain ⟨hover, hslot⟩ := rd_fsStatus_writeFields s.dev v.toNat
    exact ⟨_, hexec, hover, hslot, rfl, rfl⟩

end Sys2Proof.Machine
end
section
/-! ## The resets, the boot ROM and the start of the firmware: what they clear and what they leave alone (O32). -/

namespace Sys2Proof.Machine
open Reg

/-! ## What the resets speak of, and what leaves it alone -/

/-- The bits of FRAME_CNT and of RELEASE[95:0]. -/
abbrev Watched (b : Nat) : Prop := b = 8 * 0x10040 ∨ (8 * 0x1000 ≤ b ∧ b < 8 * 0x2800 ∧ b % 0x200 = 4)

theorem watched_frame : Watched FS_FRAME_CNT.bit := .inl rfl

theorem watched_release {n : Nat} (h : n < 96) : Watched (COMP_STATUS_RELEASE n).bit := by
  simp only [Watched, COMP_STATUS_RELEASE]
  omega

/-- From a device to a later one: the phase, the operations, the Pilot tasks, FRAME_CNT and RELEASE are as they were. -/
structure Rests (d e : Dev) : Prop where
  phase : e.phase = d.phase
  ops : e.ops = d.ops
  tasks : e.tasks = d.tasks
  regs : ∀ b, Watched b → SMap.get resetVal e.regs b = SMap.get resetVal d.regs b

namespace Rests

variable {d e f : Dev}

theorem refl (d : Dev) : Rests d d := ⟨rfl, rfl, rfl, fun _ _ => rfl⟩

theorem trans (h : Rests d e) (k : Rests e f) : Rests d f :=
  ⟨k.phase.trans h.phase, k.ops.trans h.ops, k.tasks.trans h.tasks, fun b hb => (k.regs b hb).trans (h.regs b hb)⟩

/-- A change of other parts of the device. -/
theorem of_same (hphase : e.phase = d.phase) (hops : e.ops = d.ops) (htasks : e.tasks = d.tasks) (hregs : e.regs = d.regs) : Rests d e :=
  ⟨hphase, hops, htasks, fun _ _ => congrArg (SMap.get resetVal · _) hregs⟩

/-- After which other parts of the device change. -/
theorem then_same (h : Rests d e) (hregs : f.regs = e.regs) (hphase : f.phase = e.phase) (hops : f.ops = e.ops) (htasks : f.tasks = e.tasks) :
    Rests d f := h.trans (of_same hphase hops htasks hregs)

theorem frame (h : Rests d e) : e.frame = d.frame := h.regs _ watched_frame

theorem on_release (h : Rests d e) {n : Nat} (hn : n < 96) : e.on (COMP_STATUS_RELEASE n) = d.on (COMP_STATUS_RELEASE n) := by
  simp only [Dev.on, Dev.rd, h.regs _ (watched_release hn)]

/-- A write to any other field. -/
theorem wr {g : Fld} (hg : ¬ Watched g.bit) (v : Nat) (h : Rests d e) : Rests d (e.wr g v) :=
  h.trans ⟨rfl, rfl, rfl, fun _ hb => SMap.get_set_ne _ _ _ fun hgb => hg (by rw [hgb]; exact hb)⟩

/-- The writes to other fields at the end of a chain can be left out. -/
theorem wr_iff {g : Fld} (hg : ¬ Watched g.bit) (v : Nat) : Rests d (e.wr g v) ↔ Rests d e :=
  ⟨fun h => ⟨h.phase, h.ops, h.tasks, fun b hb => by
    rw [← h.regs b hb]; exact (SMap.get_set_ne _ _ _ fun hgb => hg (by rw [hgb]; exact hb)).symm⟩, wr hg v⟩

theorem foldl {β : Type} {step : Dev → β → Dev} (hstep : ∀ e x, Rests e (step e x)) (l : List β) (d : Dev) : Rests d (l.foldl step d) := by
  induction l generalizing d with
  | nil => exact refl d
  | cons x l ih => exact (hstep d x).trans (ih _)

end Rests

namespace Dev

variable (d : Dev)

/-- The fields of a function block lie beyond every watched bit. -/
theorem not_watched_of_le {b : Nat} (h : 8 * 0x80000 ≤ b) : ¬ Watched b := by
  simp only [Watched]
  omega

theorem le_fnBase (f : Nat) : 0x90000 ≤ fnBase f := by
  unfold fnBase
  split <;> omega

theorem rests_emit (o : Out) : Rests d (d.emit o) := .of_same rfl rfl rfl rfl

theorem rests_tally (source n : Nat) : Rests d (d.tally source n) := .of_same rfl rfl rfl rfl

theorem rests_setFn (f : Nat) (x : Fn) : Rests d (d.setFn f x) := .of_same rfl rfl rfl rfl

theorem rests_drawBytes (n : Nat) : Rests d (d.drawBytes n).2 := by
  induction n generalizing d with
  | zero => exact .refl d
  | succ n ih =>
    have hdraw : Rests d d.draw.2 := .of_same rfl rfl rfl rfl
    exact hdraw.trans (ih _)

/-! ### Relay frames -/

theorem rests_setLink (r : Nat) (l : Link) : Rests d (d.setLink r l) := by
  unfold setLink
  split <;> exact .of_same rfl rfl rfl rfl

theorem rests_putFrameOn (r : Nat) (f : RFrame) : Rests d (d.putFrameOn r f) :=
  ((d.rests_emit _).wr (not_watched_of_le (by simp only [RL_TX_FRAMES]; omega)) _).trans (rests_tally _ _ _)

theorem rests_pump (k r : Nat) : Rests d (pump k r d) := by
  induction k generalizing d with
  | zero => exact .refl d
  | succ k ih =>
    unfold pump
    dsimp only
    split
    · split
      · exact ((d.rests_setLink r _).trans (rests_putFrameOn _ r _)).trans (ih _)
      · exact .refl d
    · exact .refl d

theorem rests_sendOn (r : Nat) (f : RFrame) : Rests d (d.sendOn r f) := (d.rests_setLink r _).trans (rests_pump _ 16 r)

theorem rests_control (r : Nat) (m : Msg) (dst arg : Nat) : Rests d (d.control r m dst arg) := d.rests_sendOn r _

theorem rests_toHead (m : Msg) (arg : Nat) {own : Dev → Dev} (h : Rests d (own d)) : Rests d (d.toHead m arg own) := by
  unfold toHead
  split
  · exact h
  · exact d.rests_control ..

/-! ### Rings -/

theorem rests_showRing (f : Nat) : Rests d (d.showRing f) := by
  have hstate : ¬ Watched (RING_RESULT_STATE f).bit := not_watched_of_le (by have := le_fnBase f; simp only [RING_RESULT_STATE]; omega)
  have hpend : ¬ Watched (RING_RESULT_PENDING_ENABLE f).bit :=
    not_watched_of_le (by have := le_fnBase f; simp only [RING_RESULT_PENDING_ENABLE]; omega)
  unfold showRing
  split <;> exact ((Rests.refl d).wr hstate _).wr hpend _

theorem rests_setRing (f r : Nat) (x : Option Ring) : Rests d (d.setRing f r x) := by
  have hmap : ¬ Watched (RING_MAP f (r / 64)).bit := not_watched_of_le (by have := le_fnBase f; simp only [RING_MAP]; omega)
  unfold setRing
  dsimp only
  split <;> exact ((d.rests_setFn f _).wr hmap _).trans (rests_showRing _ f)

theorem rests_writeArea (f r : Nat) (x : Ring) : Rests d (d.writeArea f r x) := by
  unfold writeArea
  split
  · exact d.rests_emit _
  · exact .refl d

theorem rests_useRing (f r : Nat) (x : Ring) : Rests d (d.useRing f r x) := by
  have hset (e : Dev) (h : Rests d e) : Rests d (e.setRing f r (some { x with cached := true, lastUse := d.frame })) := h.trans (e.rests_setRing ..)
  have hfills := hset { d with hostUse := { d.hostUse with fills := d.hostUse.fills + d.fillsFor f r } } (.of_same rfl rfl rfl rfl)
  unfold useRing
  dsimp only
  split
  · exact hfills
  split
  · exact (hfills.trans (rests_writeArea _ _ _ _)).trans (rests_setRing _ _ _ _)
  · exact hfills

theorem rests_fetchDesc (x : Desc) : Rests d (d.fetchDesc x) := by
  have hfetched (f : Fin 256) : Rests d { d with hostUse := { d.hostUse with fetched := (f, x.ref.ring) :: d.hostUse.fetched } } :=
    .of_same rfl rfl rfl rfl
  unfold fetchDesc
  cases x.ref.port with
  | fn f =>
    dsimp only
    cases d.ring f x.ref.ring with
    | none => exact .refl d
    | some y => exact ((hfetched f).trans (rests_useRing _ f _ _)).trans (rests_tally _ 286 1)
  | i3c k => exact .refl d
  | fw => exact .refl d

/-- A descriptor of a command that is no Pilot task is taken up by its fetch alone. -/
theorem takeUp_eq_fetchDesc {d : Dev} {x : Desc} {o : Nat} {p : Bool} (h : (d.takeUp x o p).1 = true) (ho : pilotTask o = false) :
    d.takeUp x o p = (true, d.fetchDesc x) := by
  revert h
  unfold takeUp
  dsimp only
  split
  · simp
  split
  · simp
  split
  · simp
  · simp [ho]

/-! ### The OTP controller's supplies, monitors and burns -/

theorem rests_cutBurns : Rests d d.cutBurns := by
  unfold cutBurns
  dsimp only
  split
  · exact Rests.wr (by decide) _ (.of_same rfl rfl rfl rfl)
  · exact .of_same rfl rfl rfl rfl

theorem rests_otpSupplies (vqps pump : Bool) : Rests d (d.otpSupplies vqps pump) :=
  ((Rests.refl d).wr (by decide) _).trans (.of_same rfl rfl rfl rfl)

theorem rests_readMonitors (sensors : List Int) (imon vcore : Nat) : Rests d (d.readMonitors sensors imon vcore) := by
  unfold readMonitors
  dsimp only
  have hhist (h : List Int) (v : Nat) : Rests d ({ d with mon := { d.mon with hist := h } }.wr MON_TJ v) :=
    Rests.wr (by decide) _ (.of_same rfl rfl rfl rfl)
  simp (disch := decide) only [Rests.wr_iff]
  split
  · exact (hhist _ _).wr (by decide) _
  · exact hhist _ _

theorem rests_linkTrained : Rests d d.linkTrained := by
  unfold linkTrained
  split <;> exact .of_same rfl rfl rfl rfl

theorem rests_latchStraps (x : Straps) : Rests d (d.latchStraps x) := by
  refine (Rests.trans ?_ (rests_linkTrained _)).trans (Rests.foldl (fun e p => ?_) _ _)
  · exact Rests.wr (by decide) _ (.of_same rfl rfl rfl rfl)
  · exact (Rests.refl e).wr (not_watched_of_le (by simp only [PP_CFG_BANK_18]; omega)) _

theorem rests_fixState (fused : Option Bool) : Rests d (d.fixState fused) := ((Rests.refl d).wr (by decide) _).wr (by decide) _

end Dev


namespace State

variable (s : State)

/-! ### HOME and the records of the firmware -/

theorem rests_homeStore (a n : Nat) (b : Bytes) : Rests s.dev (s.homeStore a n b).dev := by
  have hdev : ((s.homeErase a n).homeProgram a b).dev = s.dev := (homeProgram_rest b (s.homeErase a n) a).1
  refine Rests.trans ?_ ((Dev.rests_tally _ 317 _).trans (Dev.rests_tally _ 318 _))
  rw [hdev]
  exact .refl _

theorem rests_homeWrite (good : Bool) (a n : Nat) (b : Bytes) : Rests s.dev (s.homeWrite good a n b).dev := by
  unfold homeWrite
  split
  · exact s.rests_homeStore a n b
  · exact (s.dev.rests_drawBytes b.length).trans (rests_homeStore { s with dev := (s.dev.drawBytes b.length).2 } a n _)

theorem rests_homeCopy (src dst n : Nat) : Rests s.dev (s.homeCopy src dst n).dev :=
  (Dev.rests_tally _ 317 _).trans (Dev.rests_tally _ 318 _)

theorem rests_save : Rests s.dev s.save.dev := by
  refine Rests.trans ?_ (rests_homeStore _ _ _ _)
  exact .of_same rfl rfl rfl rfl

variable {s} in
theorem rests_saveWith {f : Dev → Dev} (h : Rests s.dev (f s.dev)) : Rests s.dev (s.saveWith f).dev := h.trans (rests_save (s.onDev f))

/-! ### Table 10-4 -/

theorem rests_frontLost : Rests s.dev s.frontLost.dev := by
  unfold frontLost
  split
  case h_4 => exact .refl _
  all_goals
    refine rests_saveWith (Rests.then_same (e := s.dev.wr FRONT_STATE FrontState.aborted.code) ?_ rfl rfl rfl rfl)
    exact (Rests.refl _).wr (by decide) _

theorem rests_restore (good : Bool) : Rests s.dev (s.restore good).2.dev := by
  have hrestoring : Rests s.dev (s.saveWith fun d => d.wr FW_STATE FwState.restoring.code).dev := rests_saveWith ((Rests.refl _).wr (by decide) _)
  unfold restore
  dsimp only
  split
  · exact hrestoring
  split
  · exact (hrestoring.trans (rests_homeCopy _ _ _ _)).trans (rests_saveWith ((Rests.refl _).wr (by decide) _))
  · exact (hrestoring.trans (rests_homeWrite _ _ _ _ _)).trans (rests_saveWith ((Rests.refl _).wr (by decide) _))

theorem rests_trialFails : Rests s.dev s.trialFails.dev := by
  have hdev (t : State) (ht : Rests s.dev t.dev) : Rests s.dev (t.saveWith fun d =>
      let d1 := d.wr FW_LAST_RESULT Status.healthFail.code
      if d.frontState = .landed then
        { (d1.wr FRONT_STATE FrontState.fellBack.code).toHead .fellBack 0 fun d => d.note 0 6 with
          front := { d1.front with policyCopy := none, policyDue := false } }
      else d1).dev := by
    refine ht.trans (rests_saveWith ?_)
    have hresult : Rests t.dev (t.dev.wr FW_LAST_RESULT Status.healthFail.code) := (Rests.refl _).wr (by decide) _
    dsimp only
    split
    · exact ((hresult.wr (by decide) _).trans (Dev.rests_toHead _ .fellBack 0 (.of_same rfl rfl rfl rfl))).trans (.of_same rfl rfl rfl rfl)
    · exact hresult
  unfold trialFails
  dsimp only
  refine hdev _ ?_
  split <;> exact .of_same rfl rfl rfl rfl

/-- The choice of an image moves neither the phase nor the frame counter (Table 10-4). -/
theorem rests_loaderAction (good : Bool) : Rests s.dev (s.loaderAction good).2.dev := by
  unfold loaderAction
  dsimp only
  split
  case h_1 =>
    split
    · exact s.rests_frontLost
    split
    · exact s.rests_frontLost.trans (rests_restore _ good)
    · exact .refl _
  case h_2 => exact (rests_saveWith (((Rests.refl _).wr (by decide) _).wr (by decide) _)).trans (rests_frontLost _)
  case h_3 => exact s.rests_frontLost.trans (rests_restore _ good)
  case h_4 =>
    have hstarts : Rests s.dev (s.saveWith fun d => d.add FW_TRIAL_STARTS 1).dev := rests_saveWith ((Rests.refl _).wr (by decide) _)
    split
    · exact hstarts.wr (by decide) _
    · exact (hstarts.trans (rests_trialFails _)).trans (rests_restore _ good)
  case h_5 => exact s.rests_restore good

theorem rests_takeRecord (d : Dev) (r : Option Bytes) : Rests d (d.takeRecord r) := by
  have hfw {e : Dev} (he : Rests d e) (x : Fw) : Rests d { e with fw := x } := he.then_same rfl rfl rfl rfl
  unfold Dev.takeRecord
  dsimp only
  refine hfw ?_ _
  iterate 9 refine Rests.wr (by decide) _ ?_
  exact .refl d

theorem rests_loadClock (r : Option Bytes) : Rests s.dev (s.loadClock r).dev :=
  (((Rests.refl _).wr (by decide) _).wr (by decide) _).wr (by decide) _

/-! ### Burns of the boot ROM -/

/-- A step of the burns that the boot ROM starts: a word, or the end of a life-cycle repair. -/
def BootStep : BurnStep → Prop
  | .word .. => True
  | .act a => a = .lcRepaired

theorem rests_showOtp : Rests s.dev s.showOtp.dev := by
  unfold showOtp
  dsimp only
  split
  · refine Rests.wr (by decide) _ ?_
    iterate 12 refine Rests.wr (by decide) _ ?_
    exact .refl _
  · iterate 12 refine Rests.wr (by decide) _ ?_
    exact .refl _

theorem rests_latchOtp : Rests s.dev s.latchOtp.dev := by
  refine Rests.trans ?_ (rests_showOtp _)
  iterate 9 refine Rests.wr (by decide) _ ?_
  exact .of_same rfl rfl rfl rfl

variable {s} in
theorem rests_burnOn (n : Nat) (hboot : ∀ b ∈ s.dev.otpx.burns, ∀ x ∈ b.steps, BootStep x) : Rests s.dev (burnOn n s).dev := by
  induction n generalizing s with
  | zero => exact .refl _
  | succ n ih =>
    unfold burnOn
    split
    · exact .refl _
    next b rest hburns =>
      rw [hburns] at hboot
      obtain ⟨hb, hrest⟩ := List.forall_mem_cons.mp hboot
      dsimp only
      split
      · exact .refl _
      split
      · refine Rests.trans ?_ (ih hrest)
        exact .of_same rfl rfl rfl rfl
      next a r hsteps =>
        rw [hsteps] at hb
        obtain ⟨rfl, hr⟩ := List.forall_mem_cons.mp hb
        refine Rests.trans ?_ (ih (List.forall_mem_cons.mpr ⟨hr, hrest⟩))
        exact .of_same rfl rfl rfl rfl
      next w v st r hsteps =>
        rw [hsteps] at hb
        split
        · refine Rests.trans ?_ (ih (List.forall_mem_cons.mpr ⟨(List.forall_mem_cons.mp hb).2, hrest⟩))
          exact .of_same rfl rfl rfl rfl
        · exact .of_same rfl rfl rfl rfl

theorem rests_showPump : Rests s.dev s.showPump.dev := (Rests.refl _).wr (by decide) _

variable {s} in
/-- A burn of the boot ROM, with no other under way. -/
theorem rests_startBurn {steps : List BurnStep} (hempty : s.dev.otpx.burns = []) (hboot : ∀ x ∈ steps, BootStep x) (r : Option OpRef) :
    Rests s.dev (s.startBurn steps r).dev := by
  have hadd : Rests s.dev (s.addBurn steps r).dev := .of_same rfl rfl rfl rfl
  refine ((hadd.trans (rests_burnOn _ ?_)).trans (rests_showOtp _)).trans (rests_showPump _)
  simpa [addBurn, hempty] using hboot

end State


namespace State

variable {s : State}

/-! ### No burn is under way while the boot ROM reads the array -/

theorem otpx_showOtp (s : State) : s.showOtp.dev.otpx = s.dev.otpx := by
  unfold showOtp
  dsimp only
  split
  · simp only [Dev.raise_otpx, Dev.wr_otpx]
  · simp only [Dev.wr_otpx]

theorem otpx_latchOtp (s : State) : s.latchOtp.dev.otpx = s.dev.otpx := by
  unfold latchOtp
  refine (otpx_showOtp _).trans ?_
  simp only [Dev.clear, Dev.wr_otpx]

theorem otpx_latchStraps (d : Dev) (x : Straps) : (d.latchStraps x).otpx = d.otpx := by
  have hbanks (l : List Nat) (e : Dev) : (l.foldl (fun e p => e.wr (PP_CFG_BANK_18 p) (flag (x.bank18.getLsbD p))) e).otpx = e.otpx := by
    induction l generalizing e with
    | nil => rfl
    | cons p l ih => exact ih _
  unfold Dev.latchStraps
  refine (hbanks _ _).trans ?_
  unfold Dev.linkTrained
  split <;> rfl

theorem bootStep_repairWords (s : State) : ∀ x ∈ s.repairWords, BootStep x := by
  intro x hx
  obtain ⟨e, -, rfl⟩ := List.mem_map.mp hx
  trivial

theorem bootStep_zeroiseSteps : ∀ x ∈ zeroiseSteps, BootStep x := by
  intro x hx
  simp only [zeroiseSteps, List.mem_append, List.mem_cons, List.mem_map, List.not_mem_nil, or_false] at hx
  rcases hx with (rfl | ⟨w, -, rfl⟩) | rfl <;> trivial

theorem bootStep_lcSteps (s : State) (k : Nat) : ∀ x ∈ s.lcSteps k ++ [.act .lcRepaired], BootStep x := by
  intro x hx
  simp only [lcSteps, List.mem_append, List.mem_cons, List.not_mem_nil, or_false] at hx
  rcases hx with ((hprofile | hzero) | (rfl | rfl)) | rfl
  · split at hprofile
    · obtain rfl := List.mem_singleton.mp hprofile; trivial
    · split at hprofile
      · obtain rfl := List.mem_singleton.mp hprofile; trivial
      · nomatch hprofile
  · split at hzero
    · exact bootStep_zeroiseSteps x hzero
    · nomatch hzero
  · trivial
  · trivial
  · rfl

theorem rests_repairRegion0 (hempty : s.dev.otpx.burns = []) : Rests s.dev s.repairRegion0.dev := by
  unfold repairRegion0
  dsimp only
  split
  · exact .refl _
  · exact rests_startBurn hempty (fun x hx => bootStep_repairWords s x (List.mem_filter.mp hx).1) none

/-! ### Where the boot ROM ends up -/

/-- The boot ROM has run: the device has left the off phase, and the rest of what a reset speaks of is as the ROM found it. -/
def Booted (d e : Dev) : Prop := ∃ p, p ≠ .off ∧ Rests { d with phase := p } e

theorem Booted.of_rests {d e f : Dev} (h : Rests d e) (k : Booted e f) : Booted d f := by
  obtain ⟨p, hp, hrest⟩ := k
  have hphase : Rests { d with phase := p } { e with phase := p } := ⟨rfl, h.ops, h.tasks, h.regs⟩
  exact ⟨p, hp, hphase.trans hrest⟩

theorem Booted.rests {d e f : Dev} (h : Booted d e) (k : Rests e f) : Booted d f := by
  obtain ⟨p, hp, hrest⟩ := h
  exact ⟨p, hp, hrest.trans k⟩

theorem booted_noStart (d : Dev) (st : Status) : Booted d (d.noStart st) :=
  ⟨.noStart, by decide, ((Rests.refl _).wr (by decide) _).wr (by decide) _⟩

theorem booted_bootFrom (s : State) (l : List Nat) : Booted s.dev (s.bootFrom l).dev := by
  have hwait (l : List Nat) (f : Dev → Dev) (hf : ∀ d, Rests d (f d)) : Booted s.dev
      (f { s.dev with phase := .romWaiting, run := { s.dev.run with sources := l, sourceAt := s.dev.frame, recBytes := [] } }) := by
    refine ⟨.romWaiting, by decide, Rests.trans ?_ (hf _)⟩
    exact .of_same rfl rfl rfl rfl
  have hclear (d : Dev) : Rests d (d.clear REC_STATE) := (Rests.refl d).wr (by decide) _
  have hsource (k : Nat) (d : Dev) : Rests d (if k ≤ 3 then (d.wr REC_STATE 1).wr REC_SOURCE k else (d.clear REC_STATE).wr REC_SOURCE 4) := by
    split <;> exact ((Rests.refl d).wr (by decide) _).wr (by decide) _
  unfold bootFrom
  dsimp only
  split
  case h_1 => exact hwait [] _ hclear
  case h_2 =>
    split
    · refine ⟨.pilotDown, by decide, Rests.trans ?_ (hclear _)⟩
      exact .of_same rfl rfl rfl rfl
    split
    · exact hwait [] _ hclear
    · exact hwait _ _ (hsource _)
  case h_3 => exact hwait _ _ (hsource _)

theorem rests_askRelay (s : State) : Rests s.dev s.askRelay.dev := by
  unfold askRelay
  split
  · split
    · exact s.dev.rests_sendOn _ _
    · exact .refl _
  · exact .refl _

theorem booted_tryBoot (s : State) (l : List Nat) : Booted s.dev (s.tryBoot l).dev := (booted_bootFrom s l).rests (rests_askRelay _)

theorem booted_completeLc (hempty : s.dev.otpx.burns = []) (k : Nat) : Booted s.dev (s.completeLc k).dev := by
  refine ⟨.lcRepair, by decide, ?_⟩
  have hlatch := rests_latchOtp s
  have hrepair : Rests { s.dev with phase := .lcRepair } { s.latchOtp.dev with phase := .lcRepair } := ⟨rfl, hlatch.ops, hlatch.tasks, hlatch.regs⟩
  unfold completeLc
  dsimp only
  split
  · refine Rests.trans ?_ (rests_startBurn ?_ (bootStep_lcSteps _ k) none)
    · exact hrepair
    · simpa [otpx_latchOtp] using hempty
  · exact hrepair.wr (by decide) _

/-- The boot ROM, with no burn under way (R307, R356, R368). -/
theorem booted_boot (hempty : s.dev.otpx.burns = []) (x : BootIn) (power : Bool) : Booted s.dev (s.boot x power).dev := by
  unfold boot
  dsimp only
  generalize ht : (s.onDev fun d => (d.otpSupplies x.vqps x.pump).readMonitors x.mon.sensors x.mon.imon x.mon.vcore) = t
  have hread : Rests s.dev t.dev := by
    rw [← ht]; exact (Dev.rests_otpSupplies _ _ _).trans (Dev.rests_readMonitors _ _ _ _)
  have hburns : t.dev.otpx.burns = [] := by
    rw [← ht, ← hempty]
    simp only [onDev_dev, Dev.readMonitors, Dev.wr_otpx]
    split <;> rfl
  refine .of_rests hread ?_
  split
  · refine ⟨.integrityFail, by decide, Rests.trans ?_ (rests_showOtp _)⟩
    iterate 2 refine Rests.wr (by decide) _ ?_
    exact .refl _
  split
  · exact booted_completeLc hburns _
  · generalize hu : ((t.latchOtp).onDev fun d => d.fixState t.fusedProfile).repairRegion0 = u
    have hlatched : Rests t.dev u.dev := by
      rw [← hu]
      refine Rests.trans ?_ (rests_repairRegion0 ?_)
      · exact (rests_latchOtp t).trans (Dev.rests_fixState _ _)
      · simpa [Dev.fixState, otpx_latchOtp] using hburns
    refine .of_rests hlatched ?_
    split
    · exact booted_noStart _ _
    split
    · exact booted_noStart _ _
    · refine .of_rests ?_ (booted_tryBoot _ _)
      exact .of_same rfl rfl rfl rfl

end State

/-! ## What a reset of the device clears and keeps (R13) -/

theorem kinds_release : ∀ n < 96, kindsAt (COMP_STATUS_RELEASE n).bit = [.p, .d] ∧ resetVal (COMP_STATUS_RELEASE n).bit = 0 := by
  decide +kernel

theorem kinds_frame : kindsAt FS_FRAME_CNT.bit = [.p] ∧ resetVal FS_FRAME_CNT.bit = 0 := by decide +kernel

namespace Dev

/-- A reset of the device keeps the fields whose Reset column does not list its letter. -/
theorem rd_fresh (d : Dev) (power : Bool) (f : Fld) :
    (d.fresh power).rd f = if (kindsAt f.bit).contains (if power then Kind.p else Kind.d) then resetVal f.bit else d.rd f := by
  have hregs : (d.fresh power).regs = d.regs.filter fun e => !(kindsAt e.1).contains (if power then Kind.p else Kind.d) := by
    cases power <;> rfl
  simp only [rd, hregs]
  rw [SMap.get_filter resetVal d.regs fun b => !(kindsAt b).contains (if power then Kind.p else Kind.d)]
  cases (kindsAt f.bit).contains (if power then Kind.p else Kind.d) <;> rfl

theorem fresh_parts (d : Dev) (power : Bool) : (d.fresh power).ops = [] ∧ (d.fresh power).tasks = [] ∧ (d.fresh power).otpx.burns = [] := by
  cases power <;> exact ⟨rfl, rfl, rfl⟩

theorem on_release_fresh (d : Dev) (power : Bool) {n : Nat} (hn : n < 96) : (d.fresh power).on (COMP_STATUS_RELEASE n) = false := by
  obtain ⟨hkinds, hval⟩ := kinds_release n hn
  simp only [on, rd_fresh, hkinds, hval]
  cases power <;> rfl

theorem frame_fresh (d : Dev) (power : Bool) : (d.fresh power).frame = if power then 0 else d.frame := by
  obtain ⟨hkinds, hval⟩ := kinds_frame
  simp only [frame, rd_fresh, hkinds, hval]
  cases power <;> rfl

/-- No operation, no Pilot task, and every RELEASE low. -/
def Quiet (d : Dev) : Prop := d.ops = [] ∧ d.tasks = [] ∧ ∀ n < 96, d.on (COMP_STATUS_RELEASE n) = false

theorem quiet_fresh (d : Dev) (power : Bool) : (d.fresh power).Quiet := by
  obtain ⟨hops, htasks, -⟩ := d.fresh_parts power
  exact ⟨hops, htasks, fun _ hn => d.on_release_fresh power hn⟩

/-- A boot of a quiet device leaves it quiet, out of the off phase and in the same frame. -/
theorem Quiet.booted {d e : Dev} (h : d.Quiet) (k : State.Booted d e) : e.phase ≠ .off ∧ e.Quiet ∧ e.frame = d.frame := by
  obtain ⟨hops, htasks, hrel⟩ := h
  obtain ⟨p, hp, hrest⟩ := k
  exact ⟨hrest.phase ▸ hp, ⟨hrest.ops.trans hops, hrest.tasks.trans htasks, fun n hn => (hrest.on_release hn).trans (hrel n hn)⟩, hrest.frame⟩

end Dev

/-- The device after power-on (R307, R460). -/
theorem powerOnReset_quiet {s : State} (hoff : s.dev.phase = .off) (x : Straps) (b : BootIn) :
    Completes (.powerOnReset x b) s fun t => t.dev.phase ≠ .off ∧ t.dev.Quiet ∧ t.dev.frame = 0 := by
  have hlatch := (s.dev.fresh true).rests_latchStraps x
  have hburns : ((s.dev.fresh true).latchStraps x).otpx.burns = [] := by
    rw [State.otpx_latchStraps]
    exact (s.dev.fresh_parts true).2.2
  have hboot := (s.dev.quiet_fresh true).booted (.of_rests hlatch (State.booted_boot (s := s.onDev fun d => (d.fresh true).latchStraps x) hburns b true))
  rw [Dev.frame_fresh] at hboot
  refine ⟨_, rfl, ?_⟩
  rw [if_pos hoff]
  exact hboot

theorem State.rests_cutPulse (s : State) : Rests s.dev s.cutPulse.dev := by
  unfold State.cutPulse
  split
  · split
    · exact s.dev.rests_drawBytes 1
    · exact .refl _
  · exact .refl _

theorem State.home_cutPulse (s : State) : s.cutPulse.home = s.home := by
  unfold State.cutPulse
  split
  · split <;> rfl
  · rfl

/-- A device reset leaves nothing under way and keeps FRAME_CNT (R13). -/
theorem State.deviceReset_quiet (s : State) (b : BootIn) : (s.deviceReset b).dev.Quiet ∧ (s.deviceReset b).dev.frame = s.dev.frame := by
  have hcut := s.rests_cutPulse.trans s.cutPulse.dev.rests_cutBurns
  obtain ⟨-, hquiet, hframe⟩ := (s.cutPulse.dev.cutBurns.quiet_fresh false).booted
    (State.booted_boot (s := s.cutPulse.onDev fun d => (d.cutBurns).fresh false) (Dev.fresh_parts _ false).2.2 b false)
  refine ⟨hquiet, hframe.trans ?_⟩
  rw [Dev.frame_fresh]
  exact hcut.frame


/-! ## What leaves the phase alone at a start of the firmware -/

namespace Dev

theorem foldl_phase {β : Type} {step : Dev → β → Dev} (h : ∀ d x, (step d x).phase = d.phase) (l : List β) (d : Dev) :
    (l.foldl step d).phase = d.phase := by
  induction l generalizing d with
  | nil => rfl
  | cons x l ih => exact (ih _).trans (h d x)

variable (d : Dev)

@[simp] theorem drawBytes_phase (n : Nat) : (d.drawBytes n).2.phase = d.phase := (d.rests_drawBytes n).phase

@[simp] theorem answerOp_phase (r : OpRef) (a : Ans) : (d.answerOp r a).phase = d.phase := rfl

/-! ### Events -/

@[simp] theorem baroPost_phase (code flags source detail0 : Nat) (detail1 : Bytes) : (d.baroPost code flags source detail0 detail1).phase = d.phase := by
  unfold baroPost
  split
  · rfl
  split
  · rfl
  split
  · rfl
  · dsimp only
    split <;> rfl

@[simp] theorem ringPost_phase (f : Nat) (e : EvtRec) : (d.ringPost f e).phase = d.phase := by
  unfold ringPost
  split <;> rfl

@[simp] theorem postWith_phase (ev : Ev) (src : Source) (detail0 : Nat) (detail1 : Bytes) : (d.postWith ev src detail0 detail1).phase = d.phase := by
  unfold postWith
  split <;> simp

@[simp] theorem post_phase (ev : Ev) (src : Source) (detail0 : Nat) : (d.post ev src detail0).phase = d.phase := d.postWith_phase ev src detail0 []

@[simp] theorem flagEvent_phase (f : Fld) (report recorded : Bool) (ev : Ev) (src : Source) (detail : Nat) :
    (d.flagEvent f report recorded ev src detail).phase = d.phase := by
  unfold flagEvent
  split <;> simp

@[simp] theorem cellEvent_phase (c : Cell) (f : Nat → Fld) (recorded : Bool) (ev : Ev) (detail : Nat) :
    (d.cellEvent c f recorded ev detail).phase = d.phase := d.flagEvent_phase ..

/-! ### Key slots and the Crypto complex -/

@[simp] theorem setKeyData_phase (s : Nat) (k : Key) : (d.setKeyData s k).phase = d.phase := rfl

@[simp] theorem showFree_phase : d.showFree.phase = d.phase := by rw [showFree, wr_phase]

@[simp] theorem emptySlot_phase (s : Nat) : (d.emptySlot s).phase = d.phase := by simp [emptySlot]

@[simp] theorem fillSlot_phase (s : Nat) (b : Bytes) (type attr origin : Nat) : (d.fillSlot s b type attr origin).phase = d.phase := by
  simp [fillSlot]

@[simp] theorem zeroiseSlots_phase (p : Nat → Bool) : (d.zeroiseSlots p).phase = d.phase := by
  unfold zeroiseSlots
  dsimp only
  split
  · rfl
  · simp only [showFree_phase, raise_phase]
    exact foldl_phase emptySlot_phase _ d

@[simp] theorem closeSecret_phase (n : Nat) : (d.closeSecret n).phase = d.phase := rfl

@[simp] theorem loseWrapKey_phase : d.loseWrapKey.phase = d.phase := by simp [loseWrapKey]

@[simp] theorem reseed_phase : d.reseed.phase = d.phase := rfl

@[simp] theorem generate_phase (n : Nat) : (d.generate n).2.phase = d.phase := by
  unfold generate
  simp only [drawBytes_phase, tally_phase, wr_phase]
  split <;> rfl

@[simp] theorem newWrapKey_phase : d.newWrapKey.phase = d.phase := by
  unfold newWrapKey
  split
  · simp
  split
  · simp
  · simp

@[simp] theorem showCtx_phase : d.showCtx.phase = d.phase := rfl

@[simp] theorem showLanes_phase : d.showLanes.phase = d.phase := foldl_phase (fun e l => by split <;> rfl) _ d

@[simp] theorem showEngines_phase : d.showEngines.phase = d.phase := by
  unfold showEngines
  dsimp only
  split <;> rfl

@[simp] theorem endCrypto_phase (st : Status) (p : Op → Bool) : (d.endCrypto st p).phase = d.phase := rfl

@[simp] theorem enterError_phase : d.enterError.phase = d.phase := by
  simp [enterError]

@[simp] theorem seTested_phase (run bad : Nat) : (d.seTested run bad).phase = d.phase := by
  unfold seTested
  split
  · rfl
  split
  · rfl
  split <;> rfl

@[simp] theorem kat_phase (run failed : Nat) : (d.kat run failed).phase = d.phase := by
  unfold kat
  dsimp only
  split <;> simp

@[simp] theorem clearCrypto_phase (cause : Option Fld) (squall : Bool) : (d.clearCrypto cause squall).phase = d.phase := by
  have hclears {β : Type} (f : β → Fld) (l : List β) (e : Dev) : (l.foldl (fun e j => e.clear (f j)) e).phase = e.phase :=
    foldl_phase (fun e j => e.clear_phase (f j)) l e
  unfold clearCrypto
  dsimp only
  split <;> cases cause <;> simp [hclears]

@[simp] theorem zeroiseKeys_phase (why : Nat) : (d.zeroiseKeys why).phase = d.phase := by simp [zeroiseKeys]

@[simp] theorem sawVerify_phase (v : Option Bool) : (d.sawVerify v).phase = d.phase := by
  rcases v with _ | (_ | _) <;> rfl

/-! ### Burns -/

@[simp] theorem otpStatus_phase (s : Status) : (d.otpStatus s).phase = d.phase := by
  unfold otpStatus
  split <;> rfl

@[simp] theorem lcStatus_phase (s : Status) : (d.lcStatus s).phase = d.phase := rfl

@[simp] theorem grant_phase (level : Nat) : (d.grant level).phase = d.phase := by
  unfold grant
  dsimp only
  split <;> simp

@[simp] theorem revokedEverywhere_phase (k : Nat) : (d.revokedEverywhere k).phase = d.phase :=
  foldl_phase (fun e n => by split <;> rfl) _ d

/-! ### Components and the Snowfield -/

@[simp] theorem discardPend_phase (n : Nat) (p : Pend → Bool) : (d.discardPend n p).phase = d.phase :=
  foldl_phase (fun e x => by split <;> rfl) _ d

@[simp] theorem setState_phase (n : Nat) (s : CompState) : (d.setState n s).phase = d.phase := by
  unfold setState
  dsimp only
  split <;> rfl

@[simp] theorem dropWrite_phase (n : Nat) (st : Status) : (d.dropWrite n st).phase = d.phase := by
  unfold dropWrite
  split <;> rfl

@[simp] theorem dropOp_phase (n : Nat) (failed : Bool) : (d.dropOp n failed).phase = d.phase := by
  unfold dropOp
  split
  · rfl
  · dsimp only
    split
    · rfl
    · split <;> rfl

@[simp] theorem holdAll_phase : d.holdAll.phase = d.phase := foldl_phase (fun e n => by simp) _ d

@[simp] theorem toPass_phase (n k : Nat) : (d.toPass n k).phase = d.phase := rfl

/-! ### The pair -/

@[simp] theorem askDomain_phase (dom : Nat) : (d.askDomain dom).phase = d.phase := by
  unfold askDomain
  split <;> rfl

@[simp] theorem setPairState_phase (p : PairState) : (d.setPairState p).phase = d.phase := by
  unfold setPairState
  dsimp only
  split <;> simp

@[simp] theorem heartbeatStops_phase (cause : Nat) : (d.heartbeatStops cause).phase = d.phase := by simp [heartbeatStops]

@[simp] theorem enterNotOwning_phase : d.enterNotOwning.phase = d.phase := by simp [enterNotOwning]

@[simp] theorem enterTaking_phase : d.enterTaking.phase = d.phase := by simp [enterTaking]

@[simp] theorem takeoverLevel_phase : d.takeoverLevel.phase = d.phase := by
  unfold takeoverLevel
  split
  · split <;> simp
  · split <;> simp
  · split <;> simp
  · rfl

@[simp] theorem startPair_phase : d.startPair.phase = d.phase := by
  unfold startPair
  split
  · simp
  split
  · simp
  split <;> simp

/-! ### Cells -/

@[simp] theorem result_phase (c : Cell) (s : Status) : (d.result c s).phase = d.phase := rfl

@[simp] theorem showLoads_phase : d.showLoads.phase = d.phase := rfl

@[simp] theorem submit_phase (t : TaskOf) (cost total : Nat) : (d.submit t cost total).2.phase = d.phase := by
  unfold submit
  split <;> rfl

theorem submitAll_phase {ts : List (Cell × Nat)} {d e : Dev} (h : d.submitAll ts = some e) : e.phase = d.phase := by
  refine List.foldlRecOn (motive := fun r => ∀ e, r = some e → e.phase = d.phase) ts _ ?_ ?_ e h
  · rintro _ ⟨⟩
    rfl
  · rintro (_ | x) hx t - e he
    · nomatch he
    · dsimp only at he
      split at he
      · obtain rfl := Option.some.inj he
        exact (submit_phase ..).trans (hx x rfl)
      · nomatch he

@[simp] theorem setCst_phase (c : Cell) (s : CellState) : (d.setCst c s).phase = d.phase := by
  unfold setCst
  split <;> rfl

@[simp] theorem loadBody_phase (c : Cell) : (d.loadBody c).phase = d.phase := rfl

@[simp] theorem askDomains_phase (c : Cell) : (d.askDomains c).phase = d.phase := foldl_phase askDomain_phase _ d

@[simp] theorem settleResult_phase (c : Cell) : (d.settleResult c).phase = d.phase := by
  unfold settleResult
  dsimp only
  split <;> rfl

@[simp] theorem followCrypto_phase : d.followCrypto.phase = d.phase := by
  simp [followCrypto, apply_ite Dev.phase]

@[simp] theorem beginStart_phase (k : Nat) (c : Cell) : (beginStart k d c).phase = d.phase := by
  induction k generalizing d c with
  | zero => rfl
  | succ k ih =>
    unfold beginStart
    dsimp only
    generalize hbegun : (if c = .crypto then ((d.loadBody c).setCst c .starting).followCrypto else (d.loadBody c).setCst c .starting).askDomains c = e
    have hphase : e.phase = d.phase := by
      rw [← hbegun, askDomains_phase]
      split <;> simp
    split
    · exact hphase
    split
    · exact hphase
    split
    · exact (ih _ _).trans hphase
    · exact hphase

@[simp] theorem start_phase (c : Cell) : (d.start c).phase = d.phase := d.beginStart_phase 6 c

@[simp] theorem enableOne_phase (c : Cell) : (d.enableOne c).2.phase = d.phase := by
  unfold enableOne
  split
  · split <;> simp
  · rfl
  · rfl
  · rfl

@[simp] theorem enableBelow_phase (c : Cell) : (d.enableBelow c).2.phase = d.phase := by
  have hfold (l : List Cell) (r : Status × Dev) : (l.foldl (fun r x => (worse r.1 (r.2.enableOne x).1, (r.2.enableOne x).2.result x (r.2.enableOne x).1)) r).2.phase
      = r.2.phase := by
    induction l generalizing r with
    | nil => rfl
    | cons x l ih => exact (ih _).trans (by simp)
  exact hfold _ _

@[simp] theorem enable_phase (c : Cell) : (d.enable c).2.phase = d.phase := by
  unfold enable
  split
  · rfl
  split
  · rfl
  next e he =>
    dsimp only
    split <;> simp [submitAll_phase he]

@[simp] theorem fwEnable_phase (c : Cell) : (d.fwEnable c).phase = d.phase := by
  unfold fwEnable
  dsimp only
  split <;> simp

@[simp] theorem fwStart_phase (c : Cell) : (d.fwStart c).phase = d.phase := by
  unfold fwStart
  dsimp only
  split
  · rfl
  next e he => simp [submitAll_phase he]

/-! ### What a start loads -/

@[simp] theorem wdtBoot_phase : d.wdtBoot.phase = d.phase := rfl

@[simp] theorem takeCal_phase (b : Bytes) : (d.takeCal b).phase = d.phase := by
  have hpages := foldl_phase (step := fun e i => e.wr (CAL_PAGE i) (leAt b (8 * i) 8)) (fun e i => e.wr_phase _ _) (List.range 512) d
  unfold takeCal
  dsimp only
  split
  · rw [wr_phase, wr_phase, wr_phase, hpages]
  · rw [clear_phase, wr_phase, hpages]

@[simp] theorem applySettings_phase (b : Bytes) : (d.applySettings b).phase = d.phase := by
  unfold applySettings
  exact foldl_phase (fun e x => e.wr_phase _ _) _ d

@[simp] theorem defaultSettings_phase : d.defaultSettings.phase = d.phase := by
  unfold defaultSettings
  rw [wr_phase, wr_phase]
  exact foldl_phase (fun e x => e.wr_phase _ _) settingFields d

@[simp] theorem showPol_phase : d.showPol.phase = d.phase := by
  unfold showPol
  split <;> rfl

@[simp] theorem sendSettled_phase : d.sendSettled.phase = d.phase := by
  unfold sendSettled toTail
  split
  · split
    · exact (d.rests_control ..).phase
    · rfl
  · rfl

end Dev


namespace State

variable (s : State)

@[simp] theorem homeProgram_dev (a : Nat) (b : Bytes) : (s.homeProgram a b).dev = s.dev := (homeProgram_rest b s a).1

@[simp] theorem homeErase_dev (a n : Nat) : (s.homeErase a n).dev = s.dev := rfl

@[simp] theorem homeWrite_phase (good : Bool) (a n : Nat) (b : Bytes) : (s.homeWrite good a n b).dev.phase = s.dev.phase := (s.rests_homeWrite good a n b).phase

@[simp] theorem save_phase : s.save.dev.phase = s.dev.phase := s.rests_save.phase

@[simp] theorem saveWith_phase (f : Dev → Dev) : (s.saveWith f).dev.phase = (f s.dev).phase := save_phase (s.onDev f)

/-! ### Burns -/

@[simp] theorem burnAct_phase (a : BurnAct) (pulses : Nat) : (s.burnAct a pulses).dev.phase = s.dev.phase := by
  cases a with
  | answer r => simp [burnAct]
  | pulses r => simp [burnAct]
  | reburn w =>
    unfold burnAct
    dsimp only
    split <;> rfl
  | revoke k => simp [burnAct]
  | transition k r => cases r <;> simp [burnAct]
  | zeroise r => cases r <;> simp [burnAct]
  | clearKeys why => simp [burnAct]
  | policySvn => rfl
  | grant l r => simp [burnAct]
  | repaired => rfl
  | lcRepaired => rfl
  | bound r => simp [burnAct]

@[simp] theorem burnOn_phase (n : Nat) : (burnOn n s).dev.phase = s.dev.phase := by
  induction n generalizing s with
  | zero => rfl
  | succ n ih =>
    unfold burnOn
    split
    · rfl
    dsimp only
    split
    · rfl
    split
    · exact ih _
    · exact (ih _).trans (burnAct_phase ..)
    · split
      · exact ih _
      · rfl

@[simp] theorem startBurn_phase (steps : List BurnStep) (r : Option OpRef) : (s.startBurn steps r).dev.phase = s.dev.phase :=
  ((rests_showPump _).phase.trans (rests_showOtp _).phase).trans (burnOn_phase (s.addBurn steps r) _)

@[simp] theorem commitSvn_phase : s.commitSvn.dev.phase = s.dev.phase := by
  unfold commitSvn
  dsimp only
  split <;> simp

@[simp] theorem startRepairs_phase : s.startRepairs.dev.phase = s.dev.phase := by
  unfold startRepairs
  dsimp only
  split
  · simp
  split <;> simp

/-! ### What a start loads -/

@[simp] theorem startImage_phase (a : Nat) : (s.startImage a).dev.phase = s.dev.phase := by
  unfold startImage
  simp [apply_ite Dev.phase]

@[simp] theorem loadMicrocode_phase (a : Nat) (x : PilotIn) : (s.loadMicrocode a x).dev.phase = s.dev.phase := by
  unfold loadMicrocode
  dsimp only [onDev_dev]
  split
  · simp
  split <;> simp

@[simp] theorem loadSettings_phase : s.loadSettings.dev.phase = s.dev.phase := by
  have hdefault : ((s.dev.defaultSettings.raise FW_SETTINGS_RESET).post .settingsReset (.cell .device) (s.dev.rd FW_VERSION)).phase = s.dev.phase := by
    rw [Dev.post_phase, Dev.raise_phase, Dev.defaultSettings_phase]
  have hloaded (e : Dev) (x : Fw) (he : e.phase = s.dev.phase) : ({ s with dev := { e with fw := x } } : State).dev.phase = s.dev.phase := he
  unfold loadSettings
  dsimp only
  split
  next b _ =>
    split
    · exact hloaded (s.dev.applySettings (b.drop 6)) _ (s.dev.applySettings_phase (b.drop 6))
    · exact hdefault
  · exact hdefault

@[simp] theorem baroScan_phase : s.baroScan.dev.phase = s.dev.phase := by simp [baroScan]

@[simp] theorem baroErase_phase (wp : Nat) (good : Bool) : (s.baroErase wp good).dev.phase = s.dev.phase := by
  unfold baroErase
  dsimp only
  rw [saveWith_phase]
  cases good <;> simp

@[simp] theorem resumeClear_phase (good : Bool) : (s.resumeClear good).dev.phase = s.dev.phase := by
  unfold resumeClear
  split <;> simp

@[simp] theorem owedCheck_phase (a : Nat) : (s.owedCheck a).2.dev.phase = s.dev.phase := by
  unfold owedCheck
  split
  · rfl
  · dsimp only
    split <;> simp

@[simp] theorem identityKeys_phase : s.identityKeys.dev.phase = s.dev.phase := by
  unfold identityKeys
  dsimp only [onDev_dev]
  split
  · simp
  split <;> simp

@[simp] theorem pairKey_phase : s.pairKey.dev.phase = s.dev.phase := by
  unfold pairKey
  dsimp only [onDev_dev]
  split <;> simp

@[simp] theorem writeStaged_phase (good : Bool) : (s.writeStaged good).dev.phase = s.dev.phase := by
  unfold writeStaged
  split
  · cases good <;> simp
  · rfl

@[simp] theorem loadFloors_phase : s.loadFloors.dev.phase = s.dev.phase := by
  have hfloors (b : Bytes) : ((List.range 96).foldl (fun d n => d.wr (COMP_OXM_FLOOR n) (leAt b n 1)) s.dev).phase = s.dev.phase :=
    Dev.foldl_phase (fun d n => d.wr_phase _ _) _ _
  unfold loadFloors
  split
  · rw [onDev_dev, hfloors]
  · rw [onDev_dev, hfloors]
  · rw [onDev_dev]
    exact Dev.foldl_phase (fun d n => by simp) _ _

/-! ### The policy -/

@[simp] theorem sawPolicy_phase (b : Bytes) : (s.sawPolicy b).dev.phase = s.dev.phase := Dev.sawVerify_phase ..

@[simp] theorem sawCopies_phase : s.sawCopies.dev.phase = s.dev.phase := by simp [sawCopies]

@[simp] theorem beginSwaps_phase (k : Nat) (b : Bytes) : (s.beginSwaps k b).dev.phase = s.dev.phase := by
  unfold beginSwaps
  dsimp only
  split <;> simp

@[simp] theorem startLoad_phase : s.startLoad.dev.phase = s.dev.phase := by
  unfold startLoad
  split <;> simp

theorem endLoad_phase (d : Dev) : (resumeLoad.endLoad d).phase = d.phase := by
  unfold resumeLoad.endLoad
  dsimp only
  split <;> simp

@[simp] theorem resumeLoad_phase : s.resumeLoad.dev.phase = s.dev.phase := by
  unfold resumeLoad
  dsimp only
  split
  · split <;> simp [endLoad_phase]
  · simp [endLoad_phase]

/-! ### The firmware's start -/

@[simp] theorem firstStart_phase (power : Bool) : (s.firstStart power).dev.phase = s.dev.phase := by
  simp [firstStart, firstStart.fwEnable]

@[simp] theorem restart_phase : s.restart.dev.phase = s.dev.phase :=
  (resumeLoad_phase _).trans (Dev.foldl_phase (fun d n => d.toPass_phase n 0) _ _)

/-- The firmware that the loader has chosen runs (R318). -/
theorem firmwareStart_phase (a : Nat) (x : PilotIn) : (s.firmwareStart a x).dev.phase = .running := by
  unfold firmwareStart
  dsimp only
  split
  · simp
  split <;> simp

end State


/-! ## Power lost (R460) -/

namespace Dev

theorem bit_release_ne {m n : Nat} (h : m ≠ n) : (COMP_STATUS_RELEASE m).bit ≠ (COMP_STATUS_RELEASE n).bit := by
  simp only [COMP_STATUS_RELEASE]
  omega

theorem on_clear_releases (d : Dev) {k n : Nat} (hn : n < k) :
    ((List.range k).foldl (fun d m => d.clear (COMP_STATUS_RELEASE m)) d).on (COMP_STATUS_RELEASE n) = false := by
  induction k with
  | zero => nomatch hn
  | succ k ih =>
    rw [List.range_succ, List.foldl_append, List.foldl_cons, List.foldl_nil]
    obtain rfl | hlt := Nat.eq_or_lt_of_le (Nat.le_of_lt_succ hn)
    · exact on_clear ..
    · rw [on, clear, rd_wr_ne _ _ (bit_release_ne (Nat.ne_of_gt hlt))]
      exact ih hlt

/-- With power lost no RELEASE line is driven (R460). -/
theorem on_release_releaseFloats (d : Dev) {n : Nat} (hn : n < 96) : d.releaseFloats.on (COMP_STATUS_RELEASE n) = false := by
  have hlow := d.on_clear_releases hn
  unfold releaseFloats
  generalize (List.range 96).foldl (fun d m => d.clear (COMP_STATUS_RELEASE m)) d = e at hlow ⊢
  exact hlow

end Dev

theorem pwrGoodLow_long {ns : Nat} (h : 3000 ≤ ns) (s : State) :
    Completes (.pwrGoodQualifyingLow ns) s fun t =>
      t.dev.phase = .off ∧ (∀ n < 96, t.dev.on (COMP_STATUS_RELEASE n) = false) ∧ t.home = s.home := by
  have hexec : exec (.pwrGoodQualifyingLow ns) s = execPwrGoodQualifyingLow ns s := rfl
  rw [Completes, hexec, execPwrGoodQualifyingLow, if_neg (by omega), if_neg (by omega)]
  have hlow := fun n hn => s.cutPulse.dev.cutBurns.on_release_releaseFloats (n := n) hn
  dsimp only [State.onDev]
  generalize s.cutPulse.dev.cutBurns.releaseFloats = e at hlow ⊢
  exact ⟨_, rfl, rfl, hlow, s.home_cutPulse⟩

theorem pwrGoodLow_short {ns : Nat} (h : ns < 1000) (s : State) : exec (.pwrGoodQualifyingLow ns) s = .next s := if_pos h

theorem pwrGoodLow_between {ns : Nat} (hlo : 1000 ≤ ns) (hhi : ns < 3000) (s : State) : exec (.pwrGoodQualifyingLow ns) s = .fault .powerGoodGlitch := by
  have hexec : exec (.pwrGoodQualifyingLow ns) s = execPwrGoodQualifyingLow ns s := rfl
  rw [hexec, execPwrGoodQualifyingLow, if_neg (by omega), if_pos hhi]

/-! ## The resets of the device and of the Pilot (R13) -/

theorem deviceReset_due {s : State} (b : BootIn) {f : Nat} (hdue : s.dev.run.resetDue = some f) (hawake : s.dev.awake = true) (hf : f ≤ s.dev.frame) :
    Completes (.deviceReset none b) s fun t => t.dev.Quiet ∧ t.dev.frame = s.dev.frame := by
  have hexec : exec (.deviceReset none b) s = .next (s.deviceReset b) := by
    have hunfold : exec (.deviceReset none b) s = execDeviceReset none b s := rfl
    simp only [hunfold, execDeviceReset, hdue]
    rw [if_pos (by simp [hawake, hf])]
  exact ⟨_, hexec, s.deviceReset_quiet b⟩

theorem deviceReset_commanded {s : State} (b : BootIn) {x : Desc} (htaken : Taken x 0x0709 s) (hsrc : x.src = []) :
    Completes (.deviceReset (some x) b) s fun t => t.dev.Quiet ∧ t.dev.frame = s.dev.frame := by
  have hexec : exec (.deviceReset (some x) b) s = .next (State.deviceReset { s with dev := s.dev.fetchDesc x } b) := by
    have hunfold : exec (.deviceReset (some x) b) s = execDeviceReset (some x) b s := rfl
    rw [hunfold, execDeviceReset]
    simp [Dev.takeUp_eq_fetchDesc htaken (by decide), hsrc]
  obtain ⟨hquiet, hframe⟩ := State.deviceReset_quiet { s with dev := s.dev.fetchDesc x } b
  exact ⟨_, hexec, hquiet, hframe.trans (s.dev.rests_fetchDesc x).frame⟩

namespace Dev

theorem regs_endPilotOps (d : Dev) (update : Bool) : (d.endPilotOps update).regs = d.regs := by
  refine List.foldlRecOn (motive := fun e : Dev => e.regs = d.regs) _ _ rfl fun e he o _ => ?_
  cases update <;> exact he

theorem rd_resetWhere {p : Nat → Bool} {f : Fld} (h : p f.bit = false) (d : Dev) : (d.resetWhere p).rd f = d.rd f := by
  have hkept := SMap.get_filter resetVal d.regs (fun b => !p b) f.bit
  rw [if_pos (by simp [h])] at hkept
  exact hkept

/-- FRAME_CNT is no I field: a Pilot reset keeps it (R8, R13). -/
theorem frame_pilotDown (d : Dev) : (d.pilotDown false).frame = d.frame := by
  have hinit : (kindsAt FS_FRAME_CNT.bit).contains .i = false := by rw [kinds_frame.1]; rfl
  have hends : (d.endPilotOps false).frame = d.frame := congrArg (SMap.get resetVal · FS_FRAME_CNT.bit) (d.regs_endPilotOps false)
  have hsessions (e : Dev) : e.dropSpdm.frame = e.frame := rd_wr_ne _ _ (by decide)
  have hloads (e : Dev) : e.showLoads.frame = e.frame := by
    iterate 4 refine (rd_wr_ne _ _ (by decide)).trans ?_
    rfl
  calc (d.pilotDown false).frame
      = ((d.endPilotOps false).cutBurns.dropSpdm).frame := (hloads _).trans (rd_resetWhere hinit _)
    _ = (d.endPilotOps false).cutBurns.frame := hsessions _
    _ = (d.endPilotOps false).frame := (rests_cutBurns _).frame
    _ = d.frame := hends

end Dev

theorem pilotReset_completes {s : State} (hphase : s.dev.phase = .running ∨ s.dev.phase = .pilotDown) :
    Completes .pilotReset s fun t => t.dev.phase = .pilotDown ∧ t.dev.tasks = [] ∧ t.dev.wdt = {} ∧ t.dev.frame = s.dev.frame ∧ t.home = s.home ∧ t.otp = s.otp := by
  have hexec : exec .pilotReset s = .next (s.onDev fun d => d.pilotDown false) := by
    have hunfold : exec .pilotReset s = execPilotReset s := rfl
    have hdown : (s.dev.phase = .running || s.dev.phase = .pilotDown) = true := by simpa using hphase
    simp only [hunfold, execPilotReset, act, State.onDev, hdown, if_true]
  exact ⟨_, hexec, rfl, rfl, rfl, s.dev.frame_pilotDown, rfl, rfl⟩

/-! ## The start of the firmware (R318) -/

theorem pilotStart_completes {s : State} (x : PilotIn) (hdown : s.dev.phase = .pilotDown) (hnone : s.dev.run.resetDue = none) :
    let u := s.onDev fun d => d.takeRecord s.storedRecord
    let v := if u.dev.run.fresh = some true then u.loadClock s.storedRecord else u
    Completes (.pilotStart x) s fun t => match (v.loaderAction x.restored).1 with
      | some _ => t.dev.phase = .running
      | none => t.dev.phase = .pilotDown ∧ t.dev.run.resetDue = some s.dev.frame := by
  intro u v
  have hexec : exec (.pilotStart x) s = .next (s.pilotStart x) := by
    have hunfold : exec (.pilotStart x) s = execPilotStart x s := rfl
    rw [hunfold, execPilotStart, if_pos (by simp [hdown, hnone])]
  refine ⟨_, hexec, ?_⟩
  have hv : Rests s.dev v.dev := by
    have hu : Rests s.dev u.dev := State.rests_takeRecord _ _
    show Rests s.dev (if u.dev.run.fresh = some true then u.loadClock s.storedRecord else u).dev
    split
    · exact hu.trans (u.rests_loadClock _)
    · exact hu
  have hchosen := hv.trans (v.rests_loaderAction x.restored)
  have hstart : s.pilotStart x = match v.loaderAction x.restored with
    | (some a, w) => w.firmwareStart a x
    | (none, w) => w.onDev fun d => { d with run := { d.run with resetDue := some d.frame } } := rfl
  rw [hstart]
  rcases hw : v.loaderAction x.restored with ⟨_ | a, w⟩
  · rw [hw] at hchosen
    exact ⟨hchosen.phase.trans hdown, congrArg some hchosen.frame⟩
  · exact w.firmwareStart_phase a x

/-- Settles O32, from what each reset clears and keeps (R13) and what the boot ROM and the loader leave alone (R307, R318). -/
theorem resetsHappen : Obligations.ResetsHappen := by
  unfold Obligations.ResetsHappen
  refine ⟨fun x b s hoff => powerOnReset_quiet hoff x b,
    fun ns s => ⟨fun h => pwrGoodLow_long h s, fun h => pwrGoodLow_short h s, fun hlo hhi => pwrGoodLow_between hlo hhi s⟩,
    fun b s => ⟨fun f hdue hawake hf => deviceReset_due b hdue hawake hf, fun x htaken hsrc => deviceReset_commanded b htaken hsrc⟩,
    fun s hphase => pilotReset_completes hphase, fun x s hdown hnone => pilotStart_completes x hdown hnone⟩

end Sys2Proof.Machine

end
